-- ==== Sys2Proof/Word.lean ====
section
/-! DEFINITION. The word types of the FGW-218 node: node time, a byte, the Hall pair. -/

namespace Sys2Proof

/-- Node time NT and every deadline: a wrapping count of milliseconds (R2, Section 0.4.2). -/
abbrev Time := BitVec 32

/-- One byte of a telegram payload, of a check, or of the Retained Record. -/
abbrev Byte := BitVec 8

/-- The Hall pair as R142 writes it: HA is bit 1, HB is bit 0; a channel held low reads as 1. -/
abbrev HallPair := BitVec 2

end Sys2Proof
end

