-- ==== Sys2Proof/Syntax.lean ====
section
/-! DEFINITION. The commands of the node: one constructor per row of spec/opcode_table.json.

The table gives its rows no operands. An operand here is what the event itself brings to the node: the level
a pin reads at a sample, the bits of a telegram as received, the bits of a transmission as read back
(notes/assumptions/3.md and 4.md). A bit list is in the order of the line, `true` for a recessive sample (1) and
`false` for a dominant one (0), the start pulse first. -/

namespace Sys2Proof

/-- The commands, in the table's order. -/
inductive Instr where
  /-- POWER_UP (R160): the logic supply rises. -/
  | powerUp
  /-- LOGIC_SUPPLY_LOSS (R165); `duringRenewal`: it falls inside a renewal of the Retained Record (R159). -/
  | logicSupplyLoss (duringRenewal : Bool)
  /-- BACKUP_RAIL_LOSS (R159): the backup rail falls below 1.8 V. -/
  | backupRailLoss
  /-- LISTEN_END (R95). -/
  | listenEnd
  /-- SAFE_SEAT_DEADLINE (R163). -/
  | safeSeatDeadline
  /-- ANEMOMETER_EDGE (R4): a falling edge on ANE, stamped with the present NT. -/
  | anemometerEdge
  /-- WINDOW_END (R6); `vane`: VN3 to VN0 as read, a line held low reading as 1 (R11). -/
  | windowEnd (vane : BitVec 4)
  /-- START_WINDOW_END (R61). -/
  | startWindowEnd
  /-- STORM_EXPIRY (R70). -/
  | stormExpiry
  /-- RAIN_EXPIRY (R75). -/
  | rainExpiry
  /-- GRID_SAMPLE (R15); `sample`: the WGS reading, 0 to 4095. -/
  | gridSample (sample : BitVec 12)
  /-- BUTTON_SAMPLE (R18): whether each contact is closed (down). -/
  | buttonSample (openDown closeDown : Bool)
  /-- KEY_SAMPLE (R19): whether the key contact is closed (on). -/
  | keySample (on : Bool)
  /-- DEMAND_EXPIRY (R91). -/
  | demandExpiry
  /-- TRANSMISSION_START (R27): the line is idle. -/
  | transmissionStart
  /-- TRANSMISSION_LOST (R28); `read`: the bits read back so far. -/
  | transmissionLost (read : List Bool)
  /-- IDENTITY_CLASH (R29); `read`: the bits read back so far. -/
  | identityClash (read : List Bool)
  /-- TRANSMISSION_COMPLETE (R34); `read`: every bit read back. -/
  | transmissionComplete (read : List Bool)
  /-- OBSERVE_ARRIVAL (R45); `bits`: the assembly at its telegram end (R23). -/
  | observeArrival (bits : List Bool)
  /-- STATE_ARRIVAL (R46). -/
  | stateArrival (bits : List Bool)
  /-- INTENT_ARRIVAL (R101). -/
  | intentArrival (bits : List Bool)
  /-- WITHDRAW_ARRIVAL (R103). -/
  | withdrawArrival (bits : List Bool)
  /-- REQUEST_OPEN_TO (R88). -/
  | requestOpenTo (bits : List Bool)
  /-- REQUEST_CLOSE (R88). -/
  | requestClose (bits : List Bool)
  /-- REQUEST_STOP (R90). -/
  | requestStop (bits : List Bool)
  /-- REQUEST_RELEASE (R90). -/
  | requestRelease (bits : List Bool)
  /-- REQUEST_RESTART (R162). -/
  | requestRestart (bits : List Bool)
  /-- RESTART_START (R162). -/
  | restartStart
  /-- CONFIGURE_OPEN (R156). -/
  | configureOpen (bits : List Bool)
  /-- CONFIGURE_WRITE (R157). -/
  | configureWrite (bits : List Bool)
  /-- CONFIGURE_READ (R158). -/
  | configureRead (bits : List Bool)
  /-- RECORD_ARRIVAL (R40). -/
  | recordArrival (bits : List Bool)
  /-- WRITE_COMPLETE (R157); the value and check bits that the read-back of the field gives. -/
  | writeComplete (value : BitVec 16) (check : BitVec 6)
  /-- COMMISSIONING_WINDOW_DEADLINE (R156). -/
  | commissioningWindowDeadline
  /-- ISOLATION_DEADLINE (R41). -/
  | isolationDeadline
  /-- PERIODIC_OBSERVE_DEADLINE (R36). -/
  | periodicObserveDeadline
  /-- IMMEDIATE_HOLDOFF_EXPIRY (R37). -/
  | immediateHoldoffExpiry
  /-- RUNNING_REFRESH_DEADLINE (R38). -/
  | runningRefreshDeadline
  /-- PEER_SCAN (R52). -/
  | peerScan
  /-- SETTLE_DEADLINE (R108). -/
  | settleDeadline
  /-- INTENT_REFRESH_DEADLINE (R105). -/
  | intentRefreshDeadline
  /-- INTENT_ENTRY_AGED (R104); `source`: the peer whose entry has aged. -/
  | intentEntryAged (source : BitVec 6)
  /-- SAG (R113): the sag timer has run for 50 ms. -/
  | sag
  /-- SUPPLY_BELOW_HALL_FLOOR (R146); `reading`: VDS in 0.1 V. -/
  | supplyBelowHallFloor (reading : Nat)
  /-- OVER_CURRENT (R128): the over-current timer has run for 100 ms. -/
  | overCurrent
  /-- VELOCITY_WINDOW_END (R152). -/
  | velocityWindowEnd
  /-- WARNING_DEADLINE (R122). -/
  | warningDeadline
  /-- RAMP_STEP (R123). -/
  | rampStep
  /-- STOP_DEADLINE (R127). -/
  | stopDeadline
  /-- SEAT_TIMEOUT (R126). -/
  | seatTimeout
  /-- BACKOFF_DEADLINE (R130). -/
  | backoffDeadline
  /-- RETRY_DEADLINE (R131). -/
  | retryDeadline
  /-- SAG_HOLDOFF_DEADLINE (R137). -/
  | sagHoldoffDeadline
  /-- REFUSE_END (R139). -/
  | refuseEnd
  /-- HALL_STEP (R142); `pair`: the Hall pair as sampled. -/
  | hallStep (pair : HallPair)
  /-- HALL_SKIP (R142); `pair`: the Hall pair as sampled. -/
  | hallSkip (pair : HallPair)
  /-- CROSS_CHECK_DEADLINE (R151); `stroke`: the STK reading, 0 to 4095. -/
  | crossCheckDeadline (stroke : BitVec 12)
  /-- ARRIVAL_NOT_HANDED_ON (R41). -/
  | arrivalNotHandedOn (bits : List Bool)
  deriving DecidableEq, Repr

end Sys2Proof
end

