-- ==== Sys2Proof/Decode.lean ====
section
/-! DEFINITION. Words: the table gives no row any bits. -/

namespace Sys2Proof

/-- The command a word spells by the table's bits: spec/opcode_table.json gives no row any bits, so no word spells
a command. -/
def decodeTableWord (_nbits _w : Nat) : Option Instr := none

end Sys2Proof
end

