-- ==== Sys2Proof/Config.lean ====
section
/-! DEFINITION. The free values: what the spec leaves open and the machine goes on with. Nothing constrains them. -/

namespace Sys2Proof

/-- Which of the 22 bits (16 value bits high, 6 check bits low) of a field whose write a loss of power cut
short are still old (1) and which are new (0), for the n-th such cut: R157, "an unknown mixture of old and new bits"
(notes/assumptions/9.md). -/
opaque Config.oldBits : Nat → BitVec 22

/-- How the check byte of a Retained Record whose renewal a power loss cut short disagrees with the fifteen
other bytes, for the n-th such cut (R159, notes/assumptions/8.md). -/
opaque Config.tornCheck : Nat → Byte

end Sys2Proof
end

