-- ==== Sys2Proof/Machine/Blocks.lean ====
section
/-! DEFINITION. The state held by each block of Figure 0-1, as plain data. -/

namespace Sys2Proof.Machine

/-! ### Names -/

/-- The class of a telegram (Figure 2-4). -/
inductive Class where
  | storm | rain | drive | routine
  deriving DecidableEq, Repr

/-- The kind of a telegram (Figure 2-5). -/
inductive Kind where
  | intent | withdraw | state | observe | request | configure | record
  deriving DecidableEq, Repr

/-- The response levels (R80), in priority order. -/
inductive Level where
  | storm | rain | demand
  deriving DecidableEq, Repr

/-- The states of a response level (R80). -/
inductive LevelState where
  | quiet | armed | acting
  deriving DecidableEq, Repr

/-- A direction of motion. -/
inductive Dir where
  | closing | opening
  deriving DecidableEq, Repr

/-- The target of a goal (R82): closed-seated, or a position in pm with the seated flag clear. A target of
0 pm is always the closed-seated goal, so `pm 0` is formed by no rule. -/
inductive Target where
  | seat
  | pm (p : Nat)
  deriving DecidableEq, Repr

/-- A goal (R82): the level that owns it and its target. -/
structure Goal where
  level : Level
  target : Target
  deriving DecidableEq, Repr

/-- Wet states (Figure 1-6). -/
inductive Wet where
  | dry | damp | wet | fault
  deriving DecidableEq, Repr

/-- Anemometer states (Figure 1-5). -/
inductive Anem where
  | absent | ok | stuck
  deriving DecidableEq, Repr

/-- Wind status of a tick (R60, R61). -/
inductive WindStatus where
  | known | pending | unknown
  deriving DecidableEq, Repr

/-- The selected wind source (R60). -/
inductive Source where
  | own
  | peer (id : Nat)
  deriving DecidableEq, Repr

/-- Admission states (Figure 6-1). -/
inductive Admission where
  | none | settling | waiting | admitted
  deriving DecidableEq, Repr

/-- The twelve drive states (Figure 7-1). -/
inductive DriveState where
  | idle | waitSlot | warning | ramp | travel | approach | seating | stopping | backoff | retryWait | sagWait | blocked
  deriving DecidableEq, Repr

/-- What follows a braking (Figure 7-3). -/
inductive Continuation where
  | goal | backoff | verdict | sag | yield | halt
  deriving DecidableEq, Repr

/-- Sounder patterns that a drive state plays (R139); REFUSE is laid over them. -/
inductive Pattern where
  | warn | moving | fault
  deriving DecidableEq, Repr

/-- Phases of the safe seat (Figure 7-2, R163). -/
inductive SafePhase where
  | notBegun | warning | seating | ended
  deriving DecidableEq, Repr

/-- The seven suspect reasons (Figure 8-2). -/
inductive Reason where
  | mismatch | hallSkip | overrange | sagInMotion | powerInMotion | unretained | seatUnconfirmed
  deriving DecidableEq, Repr

/-- The kinds of start (Figure 10-2). -/
inductive StartKind where
  | cold | warm | restart
  deriving DecidableEq, Repr

/-- The status of a RECORD (Figure 2-12). -/
inductive Status where
  | ok | corrected | uncorrectable | closed | badField | outOfRange | busy | writeFailed
  deriving DecidableEq, Repr

/-! ### Commissioning -/

/-- The loaded configuration, one field per index of Figure 9-1. -/
structure Loaded where
  id : Nat
  group : Nat
  budget : Nat
  weight : Nat
  skylight : Bool
  facade : Nat
  windFitted : Bool
  wetFitted : Bool
  strokeFitted : Bool
  factor : Nat
  stormLimit : Nat
  hysteresis : Nat
  stormQuiet : Nat
  rainThreshold : Nat
  rainQuiet : Nat
  rainGap : Nat
  maxOpen : Nat
  stroke : Nat
  closedReading : Nat
  openReading : Nat
  mismatch : Nat
  warnTime : Nat
  startDuty : Nat
  travelDuty : Nat
  creepDuty : Nat
  rampStep : Nat
  approachBand : Nat
  seatBand : Nat
  stallSpeed : Nat
  currentLimit : Nat
  backoff : Nat
  retryLimit : Nat
  retryDelay : Nat
  sagThreshold : Nat
  windLossClose : Bool
  isolationClose : Bool
  tone : Nat
  demandExpiry : Nat
  deriving DecidableEq, Repr

/-- A stored field: sixteen value bits and six check bits (Chapter 9). -/
structure StoredField where
  value : BitVec 16
  check : BitVec 6
  deriving DecidableEq, Repr

/-- A write in progress (R157). -/
structure Writing where
  index : Nat
  value : BitVec 16
  deadline : Time
  deriving DecidableEq, Repr

/-- The commissioning window (R156); it is "open with a write in progress" while `writing` holds one. -/
structure Commissioning where
  isOpen : Bool
  deadline : Option Time
  writing : Option Writing
  closePending : Bool
  deriving DecidableEq, Repr

/-! ### Position Tracker and Retained Record -/

/-- The suspect-reason set (R145): each reason at most once. -/
structure Reasons where
  mismatch : Bool
  hallSkip : Bool
  overrange : Bool
  sagInMotion : Bool
  powerInMotion : Bool
  unretained : Bool
  seatUnconfirmed : Bool
  deriving DecidableEq, Repr

/-- The items of the Retained Record (Figure 10-1), the check byte apart. -/
structure RecordItems where
  count : Int
  referenced : Bool
  reasons : Reasons
  inMotion : Bool
  storm : Bool
  rain : Bool
  deriving DecidableEq, Repr

/-- The Retained Record with its check byte, and the retention monitor's loss latch (R159). -/
structure Retained where
  items : RecordItems
  check : Byte
  lossLatch : Bool
  deriving DecidableEq, Repr

/-- The Position Tracker (Figure 8-1). `windowStart` and `windowBegin` are the start count and the opening NT
of the open velocity window. -/
structure Tracker where
  hall : HallPair
  count : Int
  referenced : Bool
  reasons : Reasons
  windowStart : Int
  windowBegin : Time
  velocity : Nat
  crossCheckDl : Option Time
  lastReported : Nat
  deriving DecidableEq, Repr

/-! ### Sensor Front -/

/-- A push button (R18): settled level (`none` unsettled, `some true` down), run count, press latch. -/
structure Button where
  settled : Option Bool
  run : Nat
  latch : Bool
  deriving DecidableEq, Repr

/-- The Sensor Front (Figure 1-10). -/
structure Sensor where
  windowBegin : Time
  count : Nat
  shortest : Option Nat
  nextCount : Nat
  nextShortest : Option Nat
  prevEdge : Option Time
  periodMem : List (Option Nat)
  gustMem : List Nat
  ring : List Nat
  countSpeed : Nat
  periodSpeed : Nat
  gust : Nat
  mean : Nat
  vane : List Nat
  direction : Option Nat
  zeroRun : Nat
  wet : Wet
  candidate : Option Wet
  agree : Nat
  highRun : Nat
  clearRun : Nat
  openButton : Button
  closeButton : Button
  keySettled : Option Bool
  keyRun : Nat
  gridAt : Option Time
  buttonsAt : Option Time
  keyAt : Option Time
  deriving DecidableEq, Repr

/-! ### Line Controller -/

/-- A telegram as assembled (Figure 2-2). -/
structure Frame where
  cls : BitVec 2
  kind : BitVec 4
  source : BitVec 6
  length : BitVec 3
  payload : List Byte
  check : Byte
  deriving DecidableEq, Repr

/-- A queued telegram (R31); `replaced` is the replaced-in-flight mark (R32). -/
structure Queued where
  kind : Kind
  cls : Class
  payload : List Byte
  age : Time
  replaced : Bool
  deriving DecidableEq, Repr

/-- The transmission in progress: the bits fixed at its start edge (R27), whether its queue entry has left the queue
meanwhile (R33, R34), and the bits read back so far (R21). -/
structure InFlight where
  kind : Kind
  frame : Frame
  entryGone : Bool
  read : List Bool
  deriving DecidableEq, Repr

/-- A dominant pulse that another station puts on the line: so many µs after the begin of the one before it, or from now,
and its length in µs, from its begin up to but not with its end. -/
structure Pulse where
  wait : Nat
  width : Nat
  deriving DecidableEq, Repr

/-- What the other stations do on the line (the model's own, notes/assumptions/4.md): the µs of the present millisecond
still to pass, the µs for which they still hold the line dominant, and the pulses they will begin. -/
structure LineFeed where
  left : Nat
  held : Nat
  pulses : List Pulse
  deriving DecidableEq, Repr

/-- The receive assembly (R23), with the µs since the last falling edge (R22; where none is in progress, 320 standing for
320 and more): none in progress; a telegram begun, the bits sampled so far; or a telegram that an edge after its last
check bit has spoiled, until the line has been idle. -/
inductive Assembly where
  | absent (quiet : Nat)
  | reading (bits : List Bool) (quiet : Nat)
  | spoiled (quiet : Nat)
  deriving DecidableEq, Repr

/-- The Line Controller (Figure 2-18). -/
structure Line where
  queue : List Queued
  assembly : Assembly
  /-- The µs since each falling edge whose sample is still to be taken (R22), the oldest first. -/
  samples : List Nat
  /-- The µs for which the node itself still drives the line dominant (R21). -/
  driven : Nat
  inFlight : Option InFlight
  intentSent : Bool
  clashes : List Time
  listenOnly : Bool
  isolated : Bool
  lastHeard : Time
  isolationDl : Time
  deriving DecidableEq, Repr

/-! ### Peer Table -/

/-- The observation part of a peer record (Figure 3-1). -/
structure Observation where
  wet : Wet
  skylight : Bool
  facade : Nat
  windCapable : Bool
  anem : Anem
  direction : Option Nat
  mean : Nat
  gust : Nat
  observedAt : Time
  fresh : Bool
  deriving DecidableEq, Repr

/-- The state part of a peer record (Figure 3-1). -/
structure PeerState where
  running : Bool
  weight : Nat
  group : Nat
  stateAt : Time
  deriving DecidableEq, Repr

/-- A peer record (Figure 3-1); `keep` is the keep class KEEP. -/
structure PeerRecord where
  source : Nat
  keep : Bool
  heardAt : Time
  obs : Option Observation
  st : Option PeerState
  deriving DecidableEq, Repr

/-! ### Weather Assessor, Level Controller, Supply Share Unit -/

/-- The Weather Assessor (Figures 4-1 and 4-5). -/
structure Weather where
  startWindow : Bool
  windStatus : WindStatus
  source : Option Source
  sourceDir : Option Nat
  exposure : Option Nat
  load : Option Nat
  limit : Nat
  stormHolds : Bool
  rainHolds : Bool
  stormQuietDl : Option Time
  rainQuietDl : Option Time
  evidence : Nat
  prevGust : Nat
  anem : Anem
  periodicDl : Time
  firstPeriodic : Bool
  holdoffDl : Option Time
  deferred : Option Class
  deriving DecidableEq, Repr

/-- The Level Controller (Figure 5-1). -/
structure Levels where
  storm : LevelState
  rain : LevelState
  demand : LevelState
  rainTarget : Option Target
  demandTarget : Option Target
  expiryDl : Option Time
  serviceHold : Bool
  handed : Option Goal
  holdRef : Option Nat
  deriving DecidableEq, Repr

/-- An entry of the Intent List (Figure 6-2). -/
structure Entry where
  source : Nat
  level : Level
  dir : Dir
  weight : Nat
  heardAt : Time
  own : Bool
  deriving DecidableEq, Repr

/-- The Supply Share Unit (Figure 6-1). -/
structure Supply where
  entries : List Entry
  own : Option (Level × Dir)
  admission : Admission
  running : Bool
  settleDl : Option Time
  refreshDl : Option Time
  sagTimer : Option Time
  sagCount : Nat
  deriving DecidableEq, Repr

/-! ### Drive Sequencer -/

/-- The Drive Sequencer (Figure 7-2). -/
structure Drive where
  state : DriveState
  goal : Option Goal
  dir : Option Dir
  duty : Nat
  checkStart : Option Time
  ocTimer : Option Time
  stallRun : Nat
  retry : Nat
  continuation : Option Continuation
  obstructionPending : Bool
  yieldMark : Bool
  heldChange : Bool
  heldClose : Bool
  backoffOrigin : Int
  backoffDl : Option Time
  warningDl : Option Time
  stopDl : Option Time
  seatTimeoutDl : Option Time
  retryDl : Option Time
  holdoff : Nat
  holdoffDl : Option Time
  refreshDl : Option Time
  safeSeatDl : Option Time
  rampStepDl : Option Time
  seatRecord : Option Nat
  pattern : Option Pattern
  patternStart : Time
  refuseUntil : Option Time
  controlledStop : Bool
  safePhase : SafePhase
  deriving DecidableEq, Repr

/-! ### Pins -/

/-- The levels of the input pins (Figure 0-5) as the node samples them; that of LINE is in `LineFeed`. -/
structure Pins where
  vane : BitVec 4
  grid : BitVec 12
  openDown : Bool
  closeDown : Bool
  keyOn : Bool
  hall : HallPair
  stroke : BitVec 12
  supply : Nat
  current : Nat
  deriving DecidableEq, Repr

end Sys2Proof.Machine
end

