-- ==== Sys2Proof/Machine/Operands.lean ====
section
/-! DEFINITION. What commands read and telegrams carry: node-time tests, the check of R24, frames and payloads
(Section 2.3), the read-back of R21, the Gray code, the check bits of a field and the table of Figure 9-1. -/

namespace Sys2Proof.Machine

/-! ### Node time (R2) -/

/-- "NT + d" (R2). -/
def after (nt : Time) (d : Nat) : Time := nt + BitVec.ofNat 32 d

/-- The passed-test of R2. -/
def passed (nt deadline : Time) : Bool := decide ((nt - deadline).toNat < 2 ^ 31)

/-- A deadline that may be none: none never passes. -/
def due (nt : Time) : Option Time → Bool
  | none => false
  | some d => passed nt d

/-- An age "NT − t", taken modulo 2^32 (R2). -/
def age (nt t : Time) : Nat := (nt - t).toNat

/-- Whether NT is a multiple of a period (Section 0.4.2). -/
def multipleOf (nt : Time) (period : Nat) : Bool := decide (nt.toNat % period = 0)

/-! ### Small arithmetic (R1) -/

/-- "Clamped to a range" (R1). -/
def clampNat (lo hi n : Nat) : Nat := if n < lo then lo else if hi < n then hi else n

/-- "Clamped to a range" for a signed quantity, as a natural number (R1). -/
def clampInt (hi : Nat) (n : Int) : Nat := if n < 0 then 0 else if (hi : Int) < n then hi else n.toNat

/-- The difference of two quantities, whichever is larger. -/
def gap (a b : Nat) : Nat := if a ≤ b then b - a else a - b

/-- The cyclic difference of two sectors (R12, R63). -/
def sectorDiff (a b : Nat) : Nat := if 8 < gap a b then 16 - gap a b else gap a b

/-- A list with its oldest element gone and a newest one at the end (R5, R8, R9). -/
def shiftIn {α : Type} (x : α) (l : List α) : List α := l.drop 1 ++ [x]

/-- The largest of a list of speeds, 0 for none. -/
def largest (l : List Nat) : Nat := l.foldl max 0

/-- The shorter of a period and a kept shortest period (R5). -/
def shorter (p : Nat) : Option Nat → Option Nat
  | none => some p
  | some q => some (min p q)

/-- The shortest of the periods of the period memory (R7). -/
def shortestOf (l : List (Option Nat)) : Option Nat :=
  l.foldl (fun acc o => match o with | none => acc | some p => shorter p acc) none

/-- A sector from the vane lines: the reflected Gray code read back (R11). -/
def graySector (g : BitVec 4) : Nat := (g ^^^ (g >>> 1) ^^^ (g >>> 2) ^^^ (g >>> 3)).toNat

/-- The vane lines that present a sector (R11): s exclusive-or (s div 2). -/
def grayLines (s : BitVec 4) : BitVec 4 := s ^^^ (s >>> 1)

/-! ### Codes (Figures 2-4 to 2-12) -/

/-- Class codes (Figure 2-4). -/
def Class.code : Class → BitVec 2
  | .storm => 0 | .rain => 1 | .drive => 2 | .routine => 3

/-- Kind codes (Figure 2-5). -/
def Kind.code : Kind → BitVec 4
  | .intent => 1 | .withdraw => 2 | .state => 3 | .observe => 4 | .request => 5 | .configure => 6 | .record => 7

/-- A kind from its code; 0 and 8 to 15 are none (R25). -/
def Kind.ofCode (c : BitVec 4) : Option Kind :=
  if c = 1 then some .intent else if c = 2 then some .withdraw else if c = 3 then some .state
  else if c = 4 then some .observe else if c = 5 then some .request else if c = 6 then some .configure
  else if c = 7 then some .record else none

/-- Payload bytes of each kind (Figure 2-5). -/
def Kind.payloadBytes : Kind → Nat
  | .intent => 2 | .withdraw => 1 | .state => 5 | .observe => 6 | .request => 4 | .configure => 5 | .record => 5

/-- The class an INTENT or a WITHDRAW of a level is sent with (R105, R111): the level code. -/
def Level.cls : Level → Class
  | .storm => .storm | .rain => .rain | .demand => .drive

/-- Level codes of the INTENT payload (Figure 2-6). -/
def Level.code : Level → BitVec 2
  | .storm => 0 | .rain => 1 | .demand => 2

/-- Priority order of the levels (R80), the rank order of the Intent List (R100). -/
def Level.rank : Level → Nat
  | .storm => 0 | .rain => 1 | .demand => 2

/-- Acting-level codes of the STATE payload (Figure 2-8). -/
def actingCode : Option Level → BitVec 2
  | none => 0 | some .storm => 1 | some .rain => 2 | some .demand => 3

/-- Direction bit of the INTENT payload (Figure 2-6). -/
def Dir.code : Dir → BitVec 1
  | .closing => 0 | .opening => 1

/-- Wet-state codes (Figure 2-9). -/
def Wet.code : Wet → BitVec 2
  | .dry => 0 | .damp => 1 | .wet => 2 | .fault => 3

/-- A wet state from its code (Figure 2-9). -/
def Wet.ofCode (c : BitVec 2) : Wet :=
  if c = 0 then .dry else if c = 1 then .damp else if c = 2 then .wet else .fault

/-- Anemometer-state codes (Figure 2-9). -/
def Anem.code : Anem → BitVec 2
  | .absent => 0 | .ok => 1 | .stuck => 2

/-- An anemometer state from its code; 3 is held as STUCK (R50). -/
def Anem.ofCode (c : BitVec 2) : Anem := if c = 0 then .absent else if c = 1 then .ok else .stuck

/-- Status codes of the RECORD payload (Figure 2-12). -/
def Status.code : Status → Byte
  | .ok => 0 | .corrected => 1 | .uncorrectable => 2 | .closed => 3 | .badField => 4 | .outOfRange => 5 | .busy => 6
  | .writeFailed => 7

/-- A Bool as a bit of a payload. -/
def bit (b : Bool) : BitVec 1 := BitVec.ofBool b

/-! ### Bits, the check, frames (R22 to R25) -/

/-- The bits of a field, most significant first (Section 2.2). -/
def bitsOf {n : Nat} (v : BitVec n) : List Bool := (List.range n).map fun i => v.getMsbD i

/-- A number read from bits, most significant first. -/
def natOfBits (l : List Bool) : Nat := l.foldl (fun acc b => 2 * acc + b.toNat) 0

/-- One covered bit through the register of R24 (steps 2 to 4). -/
def crcBit (reg : Byte) (b : Bool) : Byte :=
  if reg.msb != b then (reg <<< 1) ^^^ 0x1D#8 else reg <<< 1

/-- The register of R24 over covered bits in order, started at all ones. -/
def crc (bits : List Bool) : Byte := bits.foldl crcBit 0xFF#8

/-- The bits the check covers: class, kind, source, length and payload (R24). -/
def Frame.covered (f : Frame) : List Bool :=
  bitsOf f.cls ++ bitsOf f.kind ++ bitsOf f.source ++ bitsOf f.length ++ f.payload.flatMap bitsOf

/-- The bits of a telegram in the order sent, from the start pulse to the check (Figure 2-2). -/
def Frame.bits (f : Frame) : List Bool := false :: f.covered ++ bitsOf f.check

/-- The arbitration field: class × 1,024 + kind × 64 + source (Section 2.2). -/
def Frame.arbitration (f : Frame) : Nat := f.cls.toNat * 1024 + f.kind.toNat * 64 + f.source.toNat

/-- The telegram a node sends for a kind, class, source and payload (R26, R27). -/
def makeFrame (cls : Class) (kind : Kind) (source : Nat) (payload : List Byte) : Frame :=
  let f : Frame := ⟨cls.code, kind.code, BitVec.ofNat 6 source, BitVec.ofNat 3 payload.length, payload, 0⟩
  { f with check := crc f.covered }

/-- The first `n` payload bytes of a bit list. -/
def bytesOfBits : Nat → List Bool → List Byte
  | 0, _ => []
  | n + 1, l => BitVec.ofNat 8 (natOfBits (l.take 8)) :: bytesOfBits n (l.drop 8)

/-- The telegram that an assembly spells at its telegram end (R23): a first bit 0, 15 header bits, and the payload and
check bits that the length announces; no other list of bits reaches that end (`Assembly.ended`). -/
def assemble : List Bool → Option Frame
  | false :: rest =>
    let len := natOfBits ((rest.drop 12).take 3)
    if rest.length = 15 + 8 * len + 8 then
      some ⟨BitVec.ofNat 2 (natOfBits (rest.take 2)), BitVec.ofNat 4 (natOfBits ((rest.drop 2).take 4)),
        BitVec.ofNat 6 (natOfBits ((rest.drop 6).take 6)), BitVec.ofNat 3 len, bytesOfBits len (rest.drop 15),
        BitVec.ofNat 8 (natOfBits (rest.drop (15 + 8 * len)))⟩
    else none
  | _ => none

/-- The tests of R24 and R25: the check passes, the length is not 7, the kind is 1 to 7, and the length is the
one Figure 2-5 gives for the kind. -/
def Frame.passes (f : Frame) : Bool :=
  match Kind.ofCode f.kind with
  | none => false
  | some k => f.check == crc f.covered && f.length != 7 && f.length.toNat == k.payloadBytes

/-- A telegram received whole and not discarded: an arrival (R23 to R25). -/
def receive (bits : List Bool) : Option Frame :=
  match assemble bits with
  | none => none
  | some f => if f.passes then some f else none

/-! ### The receive assembly (R22, R23) -/

/-- Every bit that the header announces has been read (R23, steps 2 and 3). -/
def wholeBits (bits : List Bool) : Bool :=
  decide (16 ≤ bits.length) && bits.length == 24 + 8 * natOfBits ((bits.drop 13).take 3)

/-- No assembly in progress, so many µs after the last falling edge: 320 stand for 320 and more (R22). -/
def Assembly.rest (quiet : Nat) : Assembly := .absent (min 320 quiet)

/-- The µs since the last falling edge (R22). -/
def Assembly.quiet : Assembly → Nat
  | .absent q => q
  | .reading _ q => q
  | .spoiled q => q

/-- No falling edge has been seen for 320 µs (R22): a telegram in assembly has then ended or been abandoned. -/
def Assembly.quietLong : Assembly → Bool
  | .absent q => decide (320 ≤ q)
  | .reading _ _ => false
  | .spoiled _ => false

/-- The receive assembly when so many µs more have passed. -/
def Assembly.pass (t : Nat) : Assembly → Assembly
  | .absent q => .rest (q + t)
  | .reading bits q => .reading bits (q + t)
  | .spoiled q => .spoiled (q + t)

/-- A telegram of which so many falling edges are still to be sampled has shown an edge for each bit that its header
announces (R23). -/
def wholeEdges (bits : List Bool) (unsampled : Nat) : Bool :=
  decide (16 ≤ bits.length) && decide (24 + 8 * natOfBits ((bits.drop 13).take 3) ≤ bits.length + unsampled)

/-- The receive assembly after a falling edge, with so many earlier edges still to be sampled (R23): it begins one, or is
that of one bit more; after the edge of the last check bit it spoils the telegram. -/
def Assembly.fall (unsampled : Nat) : Assembly → Assembly
  | .absent _ => .reading [] 0
  | .reading bits _ => if wholeEdges bits unsampled then .spoiled 0 else .reading bits 0
  | .spoiled _ => .spoiled 0

/-- The receive assembly after the sample of a falling edge (R22, R23): the first bit must read 0. -/
def Assembly.sample (read : Bool) : Assembly → Assembly
  | .absent q => .absent q
  | .reading bits q => if bits.isEmpty && read then .absent q else .reading (bits ++ [read]) q
  | .spoiled q => .spoiled q

/-- The µs until the assembly ends by itself (R22, R23): 240 since the last edge are the telegram end of one that is
whole, 160 abandon one that is not, and 320 let the receiver begin again after a spoiled one (that the line is idle
before the edge at which it begins again needs no level: a falling edge shows that the line was recessive before it). -/
def Assembly.stopIn : Assembly → Option Nat
  | .absent _ => none
  | .reading bits q => some (if wholeBits bits then 240 - q else 160 - q)
  | .spoiled q => some (320 - q)

/-- The bits of the telegram that ends when the assembly does (R23). -/
def Assembly.ended : Assembly → Option (List Bool)
  | .reading bits _ => if wholeBits bits then some bits else none
  | _ => none

/-! ### Pulses (Figure 2-1) -/

/-- The whole µs at which a bit holds the line dominant from its begin: those before two-thirds of the period of 80 µs for
a 0, which is 53.3, and before one-third for a 1, 26.7 (R21, Figure 2-1; notes/assumptions/4.md). -/
def pulseWidth (bit : Bool) : Nat := if bit then 27 else 54

/-- Pulses of which the first comes so many µs sooner. -/
def sooner (t : Nat) : List Pulse → List Pulse
  | [] => []
  | p :: ps => { p with wait := p.wait - t } :: ps

/-- What the other stations do on the line after so many µs that no one watches: the µs for which they then hold it
dominant, and the pulses they have not begun. -/
def unwatched (t held : Nat) : List Pulse → Nat × List Pulse
  | [] => (held - t, [])
  | p :: ps => if p.wait < t then unwatched (t - p.wait) (max (held - p.wait) p.width) ps
    else (held - t, sooner t (p :: ps))

/-! ### The read-back of a transmission (R21, R28, R29) -/

/-- What the read-back of a transmission shows so far. -/
inductive ReadBack where
  | ongoing | lost | clash | completed
  deriving DecidableEq, Repr

/-- The read-back compared with the bits sent, from bit number `i` of the telegram on (the start pulse is bit
0, the arbitration field bits 1 to 12). The first difference decides: a 1 sent and dominant read is a loss in the
arbitration field (R28) and a clash after it (R29); a dominant bit read recessive is a line fault, treated as
lost (R29). -/
def readBackFrom (i : Nat) : List Bool → List Bool → ReadBack
  | [], _ => .completed
  | _ :: _, [] => .ongoing
  | sent :: sents, r :: rs =>
    if sent = r then readBackFrom (i + 1) sents rs
    else if sent then (if i ≤ 12 then .lost else .clash) else .lost

/-- The outcome that a list of bits read back gives a transmission of `sent`. -/
def readBack (sent read : List Bool) : ReadBack := readBackFrom 0 sent read

/-! ### Payloads (Figures 2-6 to 2-12) -/

/-- A byte of a payload by its number; bytes that are not there read as 0. -/
def byteAt (l : List Byte) (i : Nat) : Byte := l.getD i 0

/-- A 16-bit quantity from two payload bytes, the more significant first. -/
def wordAt (l : List Byte) (i : Nat) : Nat := (byteAt l i).toNat * 256 + (byteAt l (i + 1)).toNat

/-- The two payload bytes of a 16-bit quantity, the more significant first. -/
def wordBytes (n : Nat) : List Byte := [BitVec.ofNat 8 (n / 256), BitVec.ofNat 8 n]

/-- The INTENT payload (Figure 2-6). -/
def intentPayload (level : Level) (dir : Dir) (weight group : Nat) : List Byte :=
  [level.code ++ dir.code ++ 0#5, BitVec.ofNat 4 weight ++ BitVec.ofNat 4 group]

/-- The WITHDRAW payload (Figure 2-7). -/
def withdrawPayload (group : Nat) : List Byte := [0#4 ++ BitVec.ofNat 4 group]

/-- The weight field of an INTENT or STATE payload, held between 1 and 4 (R50, R101). -/
def heldWeight (raw : Nat) : Nat := clampNat 1 4 raw

/-- The level and direction an INTENT payload is held with (R101). -/
def intentLevel (p : List Byte) : Level × Dir :=
  let b := byteAt p 0
  let code := b.extractLsb' 6 2
  let dir : Dir := if b.getLsbD 5 then .opening else .closing
  let level : Level := if code = 0 then .storm else if code = 1 then .rain else .demand
  match level, dir with
  | .storm, .opening => (.demand, .opening)
  | .rain, .opening => (.demand, .opening)
  | l, d => (l, d)

/-- The weight an INTENT or STATE payload carries in byte 1, as held (R50, R101). -/
def payloadWeight (p : List Byte) : Nat := heldWeight ((byteAt p 1).extractLsb' 4 4).toNat

/-- The supply group an INTENT or STATE payload carries in byte 1. -/
def payloadGroup (p : List Byte) : Nat := ((byteAt p 1).extractLsb' 0 4).toNat

/-- The observation an OBSERVE payload is held as, arriving at `nt` (Figure 2-9, R45, R50). -/
def observationOf (p : List Byte) (nt : Time) : Observation :=
  let b0 := byteAt p 0
  let b1 := byteAt p 1
  { wet := Wet.ofCode (b0.extractLsb' 6 2), skylight := b0.getLsbD 5, windCapable := b0.getLsbD 4,
    facade := (b0.extractLsb' 0 4).toNat, anem := Anem.ofCode (b1.extractLsb' 6 2),
    direction := if b1.getLsbD 4 then some (b1.extractLsb' 0 4).toNat else none,
    mean := min 600 (wordAt p 2), gust := min 600 (wordAt p 4), observedAt := nt, fresh := true }

/-- The state part a STATE payload is held as, arriving at `nt` (Figure 2-8, R46, R50). -/
def peerStateOf (p : List Byte) (nt : Time) : PeerState :=
  { running := (byteAt p 0).getLsbD 0, weight := payloadWeight p, group := payloadGroup p, stateAt := nt }

/-- The fields of a REQUEST payload (Figure 2-10). -/
def requestMode (p : List Byte) : BitVec 2 := (byteAt p 0).extractLsb' 6 2
/-- Target value of a REQUEST (Figure 2-10). -/
def requestTarget (p : List Byte) : Nat := ((byteAt p 0).extractLsb' 0 6).toNat
/-- Action of a REQUEST (Figure 2-10). -/
def requestAction (p : List Byte) : Nat := (byteAt p 1).toNat
/-- Position of a REQUEST (Figure 2-10). -/
def requestPosition (p : List Byte) : Nat := wordAt p 2

/-- Target id of a CONFIGURE (Figure 2-11). -/
def configureTarget (p : List Byte) : Nat := ((byteAt p 0).extractLsb' 0 6).toNat
/-- Operation of a CONFIGURE (Figure 2-11). -/
def configureOperation (p : List Byte) : Nat := (byteAt p 1).toNat
/-- Field index of a CONFIGURE (Figure 2-11). -/
def configureIndex (p : List Byte) : Nat := (byteAt p 2).toNat
/-- Value of a CONFIGURE (Figure 2-11). -/
def configureValue (p : List Byte) : Nat := wordAt p 3

/-- The RECORD payload (Figure 2-12); `window` is 0 closed, 1 open, 2 open with a write in progress. -/
def recordPayload (index value : Nat) (status : Status) (window : BitVec 2) (safe : Bool) : List Byte :=
  [BitVec.ofNat 8 index] ++ wordBytes value ++ [status.code, window ++ 0#5 ++ bit safe]

/-! ### Targets -/

/-- A target in pm; 0 is the closed-seated goal (R82). -/
def Target.ofPm (p : Nat) : Target := if p = 0 then .seat else .pm p

/-! ### Sensing tables -/

/-- The state a grid sample proposes (Figure 1-7); in FAULT nothing is proposed and the value is not used. -/
def proposedWet (present : Wet) (sample : Nat) : Wet :=
  match present with
  | .dry => if sample < 800 then .dry else if sample < 2000 then .damp else .wet
  | .damp => if sample < 600 then .dry else if sample < 2000 then .damp else .wet
  | .wet => if sample < 600 then .dry else if sample < 1600 then .damp else .wet
  | .fault => .fault

/-- The weight of a wet state in rain evidence (R71). -/
def Wet.weight : Wet → Nat
  | .dry => 0 | .damp => 1 | .wet => 2 | .fault => 1

/-- Exposure by sector difference (Figure 4-4). -/
def exposureOf (d : Nat) : Nat :=
  if d = 0 then 16 else if d = 1 then 15 else if d = 2 then 11 else if d = 3 then 6 else 0

/-- Wind load from gust and exposure (R64). -/
def windLoad (gust exposure : Nat) : Nat := (gust * exposure + 8) / 16

/-- The raised limit of R65. -/
def raisedLimit (limit p : Nat) : Nat := limit + limit * (1000 - p) / 1000

/-- Count speed (R6). -/
def countSpeedOf (n factor : Nat) : Nat := clampNat 0 600 ((n * factor + 5) / 10)

/-- Period speed from the period memory (R7). -/
def periodSpeedOf (factor : Nat) (mem : List (Option Nat)) : Nat :=
  match shortestOf mem with
  | none => 0
  | some p => clampNat 0 600 (factor * 100 / p)

/-- The mean of the ring (R9). -/
def meanOf (ring : List Nat) : Nat := (ring.sum + 4) / 8

/-- The direction a vane history accepts (R12): three readings, each pair within one sector. -/
def acceptedOf : List Nat → Option Nat
  | [a, b, c] => if sectorDiff a b ≤ 1 && sectorDiff a c ≤ 1 && sectorDiff b c ≤ 1 then some c else none
  | _ => none

/-- The hold-off of a sag (R113). -/
def sagHoldoff (id k : Nat) : Nat := 100 * (id % 8 + 1) * 2 ^ (k - 1)

/-- The stroke-sensor position (R150). -/
def strokePosition (raw closed opened : Nat) : Nat :=
  clampInt 1000 ((((raw : Int) - closed) * 1000).tdiv ((opened : Int) - closed))

/-- The next Hall pair in the open order 00, 01, 11, 10 (R142). -/
def hallNext (h : HallPair) : HallPair := if h = 0 then 1 else if h = 1 then 3 else if h = 3 then 2 else 0

/-! ### Reasons (R145, R147) -/

/-- No reason. -/
def Reasons.empty : Reasons := ⟨false, false, false, false, false, false, false⟩

/-- Whether the set holds a reason: the position is suspect (R145). -/
def Reasons.any (r : Reasons) : Bool :=
  r.mismatch || r.hallSkip || r.overrange || r.sagInMotion || r.powerInMotion || r.unretained || r.seatUnconfirmed

/-- A reason put into the set (R145). -/
def Reasons.add (r : Reasons) : Reason → Reasons
  | .mismatch => { r with mismatch := true }
  | .hallSkip => { r with hallSkip := true }
  | .overrange => { r with overrange := true }
  | .sagInMotion => { r with sagInMotion := true }
  | .powerInMotion => { r with powerInMotion := true }
  | .unretained => { r with unretained := true }
  | .seatUnconfirmed => { r with seatUnconfirmed := true }

/-- Whether a reason is in the set. -/
def Reasons.has (r : Reasons) : Reason → Bool
  | .mismatch => r.mismatch
  | .hallSkip => r.hallSkip
  | .overrange => r.overrange
  | .sagInMotion => r.sagInMotion
  | .powerInMotion => r.powerInMotion
  | .unretained => r.unretained
  | .seatUnconfirmed => r.seatUnconfirmed

/-- Whether adding a reason clears the referenced flag (Figure 8-2). -/
def Reason.losesZero : Reason → Bool
  | .hallSkip => true
  | .overrange => true
  | .powerInMotion => true
  | .unretained => true
  | .mismatch => false
  | .sagInMotion => false
  | .seatUnconfirmed => false

/-! ### The Retained Record (R159); the layout of its fifteen bytes is a DESIGN CHOICE, notes/assumptions/7.md -/

/-- A flag as a byte. -/
def flagByte (b : Bool) : Byte := if b then 1 else 0

/-- The fifteen bytes the check byte covers: the count as a 24-bit two's complement number, one byte a flag,
the reasons one bit each, and seven zero bytes. -/
def recordBytes (r : RecordItems) : List Byte :=
  let c : BitVec 24 := BitVec.ofInt 24 r.count
  let reasons : Byte := 0#1 ++ bit r.reasons.mismatch ++ bit r.reasons.hallSkip ++ bit r.reasons.overrange ++
    bit r.reasons.sagInMotion ++ bit r.reasons.powerInMotion ++ bit r.reasons.unretained ++ bit r.reasons.seatUnconfirmed
  [c.extractLsb' 16 8, c.extractLsb' 8 8, c.extractLsb' 0 8, flagByte r.referenced, reasons, flagByte r.inMotion,
    flagByte r.storm, flagByte r.rain, 0, 0, 0, 0, 0, 0, 0]

/-- The check byte of the record (R159): the register of R24 over the fifteen bytes, most significant bit first. -/
def recordCheck (r : RecordItems) : Byte := crc ((recordBytes r).flatMap bitsOf)

/-- The record after a renewal (R159). -/
def renewed (items : RecordItems) (lossLatch : Bool) : Retained := ⟨items, recordCheck items, lossLatch⟩

/-- The validity test of a power-up (R159). -/
def Retained.valid (r : Retained) : Bool := !r.lossLatch && r.check == recordCheck r.items

/-! ### Check bits of a field (Chapter 9). The code is a DESIGN CHOICE, notes/assumptions/6.md: an extended Hamming
code, which corrects any one wrong bit of the twenty-two and detects any two. -/

/-- The Hamming position of each value bit, bit 0 first: the numbers 3 to 21 that are no power of two. -/
def hammingPositions : List (BitVec 5) := [3, 5, 6, 7, 9, 10, 11, 12, 13, 14, 15, 17, 18, 19, 20, 21]

/-- The exclusive-or of the positions of the value bits that are 1. -/
def hammingSum (v : BitVec 16) : BitVec 5 :=
  (hammingPositions.zipIdx).foldl (fun acc pi => if v.getLsbD pi.2 then acc ^^^ pi.1 else acc) 0

/-- The parity of a field's bits. -/
def parity {n : Nat} (v : BitVec n) : Bool := (List.range n).foldl (fun acc i => acc ^^ v.getLsbD i) false

/-- The six check bits of a value: five Hamming bits, and above them the parity of value and Hamming bits. -/
def checkBits (v : BitVec 16) : BitVec 6 :=
  let h := hammingSum v
  bit (parity v ^^ parity h) ++ h

/-- A value stored with fresh check bits. -/
def encodeField (v : BitVec 16) : StoredField := ⟨v, checkBits v⟩

/-- The value bit that a Hamming position names, when it names one. -/
def valueBitAt (pos : BitVec 5) : Option Nat := hammingPositions.findIdx? (· == pos)

/-- A field tested against its check bits (R155, R158): the value to use, and OK, CORRECTED or UNCORRECTABLE. -/
def checkField (f : StoredField) : BitVec 16 × Status :=
  let syndrome := hammingSum f.value ^^^ f.check.extractLsb' 0 5
  let odd := parity f.value ^^ parity f.check
  if !odd then (if syndrome = 0 then (f.value, .ok) else (f.value, .uncorrectable))
  else if syndrome = 0 ∨ syndrome = 1 ∨ syndrome = 2 ∨ syndrome = 4 ∨ syndrome = 8 ∨ syndrome = 16 then
    (f.value, .corrected)
  else match valueBitAt syndrome with
    | some i => (f.value ^^^ BitVec.twoPow 16 i, .corrected)
    | none => (f.value, .uncorrectable)

/-! ### Figure 9-1 -/

/-- Range and default of each field, in index order (Figure 9-1). -/
def fieldTable : List (Nat × Nat × Nat) :=
  [(0, 62, 0), (0, 15, 0), (1, 15, 4), (1, 4, 1), (0, 1, 0), (0, 15, 0), (0, 7, 0), (1, 2550, 70), (50, 400, 150),
   (0, 100, 20), (60, 65535, 600), (1, 15, 4), (60, 65535, 1800), (0, 1000, 0), (100, 1000, 1000), (200, 60000, 4000),
   (0, 4095, 0), (0, 4095, 4095), (10, 200, 40), (0, 100, 30), (1, 255, 60), (1, 255, 230), (1, 255, 90), (1, 64, 8),
   (0, 4000, 400), (10, 1024, 120), (1, 50, 4), (50, 1000, 300), (0, 2000, 160), (0, 7, 3), (1, 600, 10), (170, 230, 190),
   (0, 15, 1), (0, 65535, 0)]

/-- Whether a value lies in the range of a field of Figure 9-1. -/
def inRange (index value : Nat) : Bool :=
  match fieldTable[index]? with
  | none => false
  | some (lo, hi, _) => decide (lo ≤ value) && decide (value ≤ hi)

/-- The values of a configuration by field index, as numbers, read into the named fields of Figure 9-1. The kind
is read as skylight when it is 1. -/
def loadedOf (v : List Nat) : Loaded :=
  let f := fun i => v.getD i 0
  { id := f 0, group := f 1, budget := f 2, weight := f 3, skylight := f 4 == 1, facade := f 5,
    windFitted := (f 6) % 2 == 1, wetFitted := (f 6 / 2) % 2 == 1, strokeFitted := (f 6 / 4) % 2 == 1,
    factor := f 7, stormLimit := f 8, hysteresis := f 9, stormQuiet := f 10, rainThreshold := f 11,
    rainQuiet := f 12, rainGap := f 13, maxOpen := f 14, stroke := f 15, closedReading := f 16, openReading := f 17,
    mismatch := f 18, warnTime := f 19, startDuty := f 20, travelDuty := f 21, creepDuty := f 22, rampStep := f 23,
    approachBand := f 24, seatBand := f 25, stallSpeed := f 26, currentLimit := f 27, backoff := f 28,
    retryLimit := f 29, retryDelay := f 30, sagThreshold := f 31, windLossClose := (f 32) % 2 == 1,
    isolationClose := (f 32 / 2) % 2 == 1, tone := (f 32 / 4) % 4, demandExpiry := f 33 }

/-- The default values of Figure 9-1 by index. -/
def defaultValues : List Nat := fieldTable.map fun r => r.2.2

/-- The default configuration (Figure 9-1). -/
def defaultConfig : Loaded := loadedOf defaultValues

/-- The stored fields of a node as it leaves the factory (Chapter 9). -/
def factoryStored : List StoredField := defaultValues.map fun v => encodeField (BitVec.ofNat 16 v)

/-- Whether no field has two wrong bits and the loaded copy passes the validation of R155. -/
def validConfig (stored : List StoredField) : Bool :=
  let v := stored.map fun f => (checkField f).1.toNat
  let c := loadedOf v
  (stored.all fun f => (checkField f).2 != .uncorrectable)
    && (v.zipIdx.all fun p => inRange p.2 p.1)
    && decide (c.startDuty ≤ c.travelDuty) && decide (c.creepDuty ≤ c.travelDuty)
    && decide (c.weight ≤ c.budget) && decide (c.rainGap ≤ c.maxOpen)
    && (!c.strokeFitted || decide (200 ≤ gap c.closedReading c.openReading))

/-- The loading of R155: the configuration every block reads, and whether the node is in the safe profile. In an
invalid configuration each field is read at its default, but the kind (when 0 or 1) and the stroke (when in its
range), as R163 says. -/
def loadConfig (stored : List StoredField) : Loaded × Bool :=
  let c := loadedOf (stored.map fun f => (checkField f).1.toNat)
  let stroke := if inRange 15 c.stroke then c.stroke else 4000
  if validConfig stored then (c, c.id == 0)
  else ({ defaultConfig with skylight := c.skylight, stroke := stroke }, true)

end Sys2Proof.Machine
end

