-- ==== Sys2Proof/Machine/StartValues.lean ====
section
/-! DEFINITION. The values each block takes at a start: Figures 1-10, 2-18, 4-5, 5-3, 6-4, 7-4 and 8-4. -/

namespace Sys2Proof.Machine

/-- A button after a start (R20). -/
def startButton : Button := ⟨none, 0, false⟩

/-- The Sensor Front after every start (Figure 1-10). -/
def startSensor : Sensor :=
  { windowBegin := 0, count := 0, shortest := none, nextCount := 0, nextShortest := none, prevEdge := none,
    periodMem := [none, none, none], gustMem := [0, 0, 0], ring := [0, 0, 0, 0, 0, 0, 0, 0],
    countSpeed := 0, periodSpeed := 0, gust := 0, mean := 0, vane := [], direction := none, zeroRun := 0,
    wet := .dry, candidate := none, agree := 0, highRun := 0, clearRun := 0,
    openButton := startButton, closeButton := startButton, keySettled := none, keyRun := 0,
    gridAt := none, buttonsAt := none, keyAt := none }

/-- The Line Controller after every start (Figure 2-18), the time since a falling edge counted from the start
(notes/assumptions/4.md). -/
def startLine : Line :=
  { queue := [], assembly := .absent 0, samples := [], driven := 0, inFlight := none, intentSent := false, clashes := []
    listenOnly := false, isolated := false,
    lastHeard := 0, isolationDl := 60000#32 }

/-- The Weather Assessor after every start (Figure 4-5); `storm` and `rain` say which levels were restored as
ARMED, and `lineId` is the line id of R39. -/
def startWeather (cfg : Loaded) (lineId : Nat) (storm rain : Bool) : Weather :=
  { startWindow := true, windStatus := .pending, source := none, sourceDir := none, exposure := none, load := none,
    limit := cfg.stormLimit, stormHolds := false, rainHolds := false,
    stormQuietDl := if storm then some (after 0 (1000 * cfg.stormQuiet)) else none,
    rainQuietDl := if rain then some (after 0 (1000 * cfg.rainQuiet)) else none,
    evidence := 0, prevGust := 0, anem := if cfg.windFitted then .ok else .absent,
    periodicDl := after 2000#32 (32 * lineId), firstPeriodic := true, holdoffDl := none, deferred := none }

/-- A level restored as ARMED, or QUIET (R98). -/
def restoredLevel (wasRaised : Bool) : LevelState := if wasRaised then .armed else .quiet

/-- The Level Controller after a start (Figure 5-3). -/
def startLevels (storm rain : Bool) : Levels :=
  { storm := restoredLevel storm, rain := restoredLevel rain, demand := .quiet, rainTarget := none,
    demandTarget := none, expiryDl := none, serviceHold := false, handed := none, holdRef := none }

/-- The Supply Share Unit after every start (Figure 6-4). -/
def startSupply : Supply :=
  { entries := [], own := none, admission := .none, running := false, settleDl := none, refreshDl := none,
    sagTimer := none, sagCount := 0 }

/-- The Drive Sequencer after every start (Figure 7-4); the values that figure does not give are those of
notes/assumptions/17.md. -/
def startDrive : Drive :=
  { state := .idle, goal := none, dir := none, duty := 0, checkStart := none, ocTimer := none, stallRun := 0, retry := 0,
    continuation := none, obstructionPending := false, yieldMark := false, heldChange := false, heldClose := false,
    backoffOrigin := 0, backoffDl := none, warningDl := none, stopDl := none, seatTimeoutDl := none, retryDl := none,
    holdoff := 0, holdoffDl := none, refreshDl := none, safeSeatDl := none, rampStepDl := none, seatRecord := none,
    pattern := none, patternStart := 0, refuseUntil := none, controlledStop := false, safePhase := .notBegun }

/-- The commissioning window every start leaves (R156): closed, its deadline none (notes/assumptions/37.md). -/
def startStore : Commissioning := ⟨false, none, none, false⟩

/-- The items an initialised record holds (R161, cold start). -/
def coldItems : RecordItems := ⟨0, false, Reasons.empty.add .unretained, false, false, false⟩

/-- The reported position of R144. R149 says that it stays 0 at a count of +1 after a seat, where R144 gives 1,000 div
stroke, which is 1 to 5 pm for a stroke of up to 1,000 qs: the model follows R144 (notes/assumptions/40.md). -/
def positionOf (count : Int) (stroke : Nat) : Nat := clampInt 1000 ((count * 1000).tdiv stroke)

/-- The count brought to the nearer bound (R154). -/
def boundedCount (count : Int) (stroke : Nat) : Int :=
  if count < -1024 then -1024 else if (stroke : Int) + 1024 < count then (stroke : Int) + 1024 else count

/-- The items the Position Tracker takes at a warm start or a restart (R154, R161): POWER_IN_MOTION when the
in-motion flag was set, OVERRANGE when the count lies outside its bounds. -/
def restoredItems (r : RecordItems) (stroke : Nat) : RecordItems :=
  let out := boundedCount r.count stroke != r.count
  let reasons := if r.inMotion then r.reasons.add .powerInMotion else r.reasons
  { r with
    count := boundedCount r.count stroke
    reasons := if out then reasons.add .overrange else reasons
    referenced := r.referenced && !r.inMotion && !out
    inMotion := false }

/-- The Position Tracker after a start (Figure 8-4), from the items initialised or restored. -/
def startTracker (items : RecordItems) (stroke : Nat) (hall : HallPair) : Tracker :=
  { hall := hall, count := items.count, referenced := items.referenced, reasons := items.reasons,
    windowStart := items.count, windowBegin := 0, velocity := 0, crossCheckDl := some 10000#32,
    lastReported := positionOf items.count stroke }

/-- The levels of the pins of a node at rest in the workshop: every contact open, no reading but a
drive supply of 24.0 V (notes/assumptions/3.md). -/
def startPins : Pins := ⟨0, 0, false, false, false, 0, 0, 240, 0⟩

/-- A recessive line on which no other station sends, at the begin of a millisecond (notes/assumptions/4.md). -/
def startFeed : LineFeed := ⟨1000, 0, []⟩

end Sys2Proof.Machine
end

