-- ==== Sys2Proof/Machine/State.lean ====
section
/-! DEFINITION. The state of the node, the (empty) faults, the refusals, and the state after reset. -/

namespace Sys2Proof.Machine

/-- The state of the node: its Node Timer, the state its blocks hold (Figure 0-1), its nonvolatile stores, the
levels of its pins, and the queue of commands waiting. -/
structure State where
  /-- The logic supply is in regulation (R160, R165). -/
  power : Bool
  /-- Node time NT (R2). -/
  nt : Time
  /-- The commands due at this NT have been issued (the model's own, notes/assumptions/1.md). -/
  served : Bool
  /-- LISTEN (R160). -/
  listen : Bool
  /-- The node is in the safe profile (R155, R163). -/
  safe : Bool
  /-- The loaded configuration (R155). -/
  cfg : Loaded
  /-- The stored fields (Chapter 9). -/
  stored : List StoredField
  /-- The commissioning window (R156). -/
  store : Commissioning
  /-- The Retained Record (R159). -/
  retained : Retained
  /-- The Sensor Front (Figure 1-10). -/
  sensor : Sensor
  /-- The Line Controller (Figure 2-18). -/
  line : Line
  /-- The Peer Table, in order of source id (R43). -/
  peers : List PeerRecord
  /-- The Weather Assessor (Figure 4-1). -/
  weather : Weather
  /-- The Level Controller (Figure 5-1). -/
  levels : Levels
  /-- The Supply Share Unit (Figure 6-1). -/
  supply : Supply
  /-- The Drive Sequencer (Figure 7-2). -/
  drive : Drive
  /-- The Position Tracker (Figure 8-1). -/
  pos : Tracker
  /-- The levels of the input pins (Figure 0-5). -/
  pins : Pins
  /-- The levels the pins will show at the coming milliseconds (the model's own, notes/assumptions/3.md). -/
  pinFeed : List Pins
  /-- What the other stations do on the line (the model's own, notes/assumptions/4.md). -/
  lineFeed : LineFeed
  /-- An occasion for a STATE arose in the present step (R38; the model's own, notes/assumptions/11.md). -/
  occasion : Bool
  /-- The index of the next free value (the model's own, notes/assumptions/9.md). -/
  freeIx : Nat
  /-- The commands waiting, first in, first out. -/
  pending : List Instr
  deriving DecidableEq, Repr

/-- The reasons the node stops with a fault: there are none (INVENTORY.md, Faults). -/
inductive Fault where
  deriving DecidableEq, Repr

/-- The reasons for a refusal. -/
inductive Refusal where
  /-- Raised by exec's arm of a command that has no meaning yet; no arm raises it now. Safe: the machine stops. -/
  | notModelled (mnemonic : String)
  deriving DecidableEq, Repr

/-- The node right after reset: the first cold start of a node as the factory left it (Chapter 9, R160, R161), with
every block at its start values. The factory id is 0, so it is in the safe profile (notes/assumptions/2.md). -/
def State.reset : State :=
  { power := true, nt := 0, served := false, listen := true, safe := true, cfg := defaultConfig,
    stored := factoryStored, store := startStore, retained := renewed coldItems false,
    sensor := startSensor, line := startLine, peers := [], weather := startWeather defaultConfig 0 false false,
    levels := startLevels false false, supply := startSupply, drive := startDrive,
    pos := startTracker coldItems 4000 0, pins := startPins, pinFeed := [], lineFeed := startFeed, occasion := false, freeIx := 0, pending := [] }

/-! ### One named update per field -/

/-- The power flag replaced. -/
def State.setPower (s : State) (v : Bool) : State := { s with power := v }
/-- Node time replaced. -/
def State.setNt (s : State) (v : Time) : State := { s with nt := v }
/-- The clock's phase replaced. -/
def State.setServed (s : State) (v : Bool) : State := { s with served := v }
/-- LISTEN replaced. -/
def State.setListen (s : State) (v : Bool) : State := { s with listen := v }
/-- The stored fields replaced. -/
def State.setStored (s : State) (v : List StoredField) : State := { s with stored := v }
/-- The commissioning window replaced. -/
def State.setStore (s : State) (v : Commissioning) : State := { s with store := v }
/-- The Retained Record replaced. -/
def State.setRetained (s : State) (v : Retained) : State := { s with retained := v }
/-- The Sensor Front replaced. -/
def State.setSensor (s : State) (v : Sensor) : State := { s with sensor := v }
/-- The Line Controller replaced. -/
def State.setLine (s : State) (v : Line) : State := { s with line := v }
/-- The Peer Table replaced. -/
def State.setPeers (s : State) (v : List PeerRecord) : State := { s with peers := v }
/-- The Weather Assessor replaced. -/
def State.setWeather (s : State) (v : Weather) : State := { s with weather := v }
/-- The Level Controller replaced. -/
def State.setLevels (s : State) (v : Levels) : State := { s with levels := v }
/-- The Supply Share Unit replaced. -/
def State.setSupply (s : State) (v : Supply) : State := { s with supply := v }
/-- The Drive Sequencer replaced. -/
def State.setDrive (s : State) (v : Drive) : State := { s with drive := v }
/-- The Position Tracker replaced. -/
def State.setPos (s : State) (v : Tracker) : State := { s with pos := v }
/-- The pins replaced. -/
def State.setPins (s : State) (v : Pins) : State := { s with pins := v }
/-- The pin feed replaced. -/
def State.setPinFeed (s : State) (v : List Pins) : State := { s with pinFeed := v }
/-- The line feed replaced. -/
def State.setLineFeed (s : State) (v : LineFeed) : State := { s with lineFeed := v }
/-- The occasion mark replaced. -/
def State.setOccasion (s : State) (v : Bool) : State := { s with occasion := v }
/-- The free-value index replaced. -/
def State.setFreeIx (s : State) (v : Nat) : State := { s with freeIx := v }
/-- The queue of commands replaced. -/
def State.setPending (s : State) (v : List Instr) : State := { s with pending := v }

end Sys2Proof.Machine
end

