-- ==== Sys2Proof/Machine/Flags.lean ====
section
/-! DEFINITION. Conditions and quantities that the blocks read off the state: position, suspect, motion, goals,
refusals, load, and the times at which commands are due. -/

namespace Sys2Proof.Machine

/-! ### Position and drive -/

/-- The reported position in pm (R144). -/
def position (s : State) : Nat := positionOf s.pos.count s.cfg.stroke

/-- The position is suspect (R145). -/
def suspect (s : State) : Bool := s.pos.reasons.any

/-- The states in which the bridge is energised (R118). -/
def DriveState.energised : DriveState → Bool
  | .ramp => true
  | .travel => true
  | .approach => true
  | .seating => true
  | .backoff => true
  | .idle => false
  | .waitSlot => false
  | .warning => false
  | .stopping => false
  | .retryWait => false
  | .sagWait => false
  | .blocked => false

/-- The bridge is energised (R118); a node without logic supply drives nothing (R165). -/
def energised (s : State) : Bool := s.power && s.drive.state.energised

/-- The states the in-motion flag covers (R153): the energised ones and STOPPING. -/
def DriveState.inMotion : DriveState → Bool
  | .stopping => true
  | d => d.energised

/-- Motion codes (Figure 2-8): what the drive reports (R140). -/
inductive Motion where
  | stopped | closing | opening
  deriving DecidableEq, Repr

/-- A move direction as a motion. -/
def dirMotion : Option Dir → Motion
  | none => .stopped
  | some .closing => .closing
  | some .opening => .opening

/-- Motion reported (R140). -/
def motion (s : State) : Motion :=
  match s.drive.state with
  | .ramp => dirMotion s.drive.dir
  | .travel => dirMotion s.drive.dir
  | .approach => dirMotion s.drive.dir
  | .seating => dirMotion s.drive.dir
  | .backoff => .opening
  | _ => .stopped

/-- Motion codes (Figure 2-8). -/
def Motion.code : Motion → BitVec 2
  | .stopped => 0 | .closing => 1 | .opening => 2

/-- The count at which a target is reached (R119). -/
def targetCount (t : Target) (s : State) : Int :=
  match t with
  | .seat => 0
  | .pm p => ((p * s.cfg.stroke / 1000 : Nat) : Int)

/-- A goal needs motion (R119). A closing seat that a fresh DEMAND request hands after a seat timeout (R85) is judged by
this like any other: within 20 pm of the seat record it does not move (R126, notes/assumptions/35.md). R86 and R119 say
that a closed-seated goal handed again for drift always needs motion; the drift is measured from the hold reference of
the entry into IDLE and this test from the seat record of the seat, which the coasting between can hold apart: with more
than 20 pm from the one and no more than 20 from the other the model follows this test (notes/assumptions/45.md). -/
def needsMotion (g : Goal) (s : State) : Bool :=
  match g.target with
  | .pm p => decide (5 < gap p (position s))
  | .seat => match s.drive.seatRecord with
    | none => true
    | some r => decide (20 < gap (position s) r)

/-- The direction of a goal that needs motion (R119). -/
def goalDir (g : Goal) (s : State) : Dir :=
  match g.target with
  | .seat => .closing
  | .pm _ => if targetCount g.target s < s.pos.count then .closing else .opening

/-- The direction a request gives the Supply Share Unit (R105). -/
def requestDir (g : Goal) (s : State) : Dir :=
  match g.target with
  | .seat => .closing
  | .pm p => if p < position s then .closing else .opening

/-- The drive is moving, as a press reads it (R89). -/
def DriveState.movingForPress : DriveState → Bool
  | .warning => true
  | .ramp => true
  | .travel => true
  | .approach => true
  | .seating => true
  | _ => false

/-- The warning time of a goal in units of 0.1 s (R122). -/
def warningTime (g : Option Goal) (s : State) : Nat :=
  match g with
  | some ⟨.storm, _⟩ => min s.cfg.warnTime 10
  | _ => s.cfg.warnTime

/-- The stall speed in use: the default in the safe seat (R163). -/
def stallSpeed (s : State) : Nat := if s.safe then 4 else s.cfg.stallSpeed

/-- The current limit in use: the default in the safe seat (R163). -/
def currentLimit (s : State) : Nat := if s.safe then 300 else s.cfg.currentLimit

/-- The pattern of an energised state: MOVING for a skylight, none for a window (R139). -/
def movingPattern (s : State) : Option Pattern := if s.cfg.skylight then some .moving else none

/-! ### Levels -/

/-- The ACTING level, if one acts (R81). -/
def Levels.acting (l : Levels) : Option Level :=
  if l.storm = .acting then some .storm
  else if l.rain = .acting then some .rain
  else if l.demand = .acting then some .demand
  else none

/-- The ACTING level of the node. -/
def acting (s : State) : Option Level := s.levels.acting

/-- A level may act (R81): not in service hold, not in LISTEN, not in the safe profile. -/
def mayAct (s : State) : Bool := !s.levels.serviceHold && !s.listen && !s.safe

/-- The goal formed from the ACTING level and the suspect state (R85). -/
def formGoal (s : State) : Option Goal :=
  match acting s with
  | none => none
  | some .storm => some ⟨.storm, .seat⟩
  | some .rain => some ⟨.rain, if suspect s then .seat else s.levels.rainTarget.getD .seat⟩
  | some .demand => some ⟨.demand, if suspect s then .seat else s.levels.demandTarget.getD .seat⟩

/-- The formed target RAIN takes at this moment (R83): none for a skylight, a gap of 0 or a suspect position. -/
def rainFormed (s : State) : Option Target :=
  if s.cfg.skylight || s.cfg.rainGap == 0 || suspect s then none
  else some (Target.ofPm (min s.cfg.rainGap (position s)))

/-- A DEMAND target from a requested position, clamped to 0 to max open (R84). -/
def demandAt (p : Nat) (s : State) : Target := Target.ofPm (clampNat 0 s.cfg.maxOpen p)

/-! ### Line -/

/-- The line id (R39). -/
def lineId (s : State) : Nat := if s.safe then 0 else s.cfg.id

/-- The line is dominant (R21, Section 2.1): the node or another station holds it. -/
def lineDominant (s : State) : Bool := decide (0 < s.line.driven) || decide (0 < s.lineFeed.held)

/-- The line is idle (R22): no falling edge has been seen for 320 µs and the line reads recessive. -/
def lineIdle (s : State) : Bool := s.line.assembly.quietLong && !lineDominant s

/-- A placement of a kind is refused (R35). -/
def refusesPlacement (k : Kind) (s : State) : Bool :=
  s.listen || s.line.listenOnly || (s.safe && !(k == .record && s.store.isOpen))

/-- A telegram waits that may be sent, and the line is free of the node's own (R27, R35): the head of the queue is of a
kind not refused, and no transmission is in progress. -/
def hasToSend (s : State) : Bool :=
  match s.line.inFlight, s.line.queue with
  | none, e :: _ => !refusesPlacement e.kind s
  | _, _ => false

/-- A transmission begins (R27): the line is idle and the head of the queue may be sent. -/
def mayTransmit (s : State) : Bool := lineIdle s && hasToSend s

/-- The service key is on: its settled level (R19). -/
def keyIsOn (s : State) : Bool := s.sensor.keySettled == some true

/-- The window bits of a RECORD (Figure 2-12). -/
def windowBits (s : State) : BitVec 2 :=
  if !s.store.isOpen then 0 else if s.store.writing.isSome then 2 else 1

/-- A REQUEST is addressed to the node (R40). -/
def requestAddressed (p : List Byte) (s : State) : Bool :=
  if requestMode p = 0 then requestTarget p == lineId s || requestTarget p == 63
  else if requestMode p = 1 then !s.safe && requestTarget p == s.cfg.group
  else if requestMode p = 2 then true
  else !s.safe && requestTarget p == s.cfg.facade

/-- A RESTART is handed to start-up (R40): node mode, target value equal to the line id. -/
def restartAddressed (p : List Byte) (s : State) : Bool := requestMode p == 0 && requestTarget p == lineId s

/-- A REQUEST or CONFIGURE is handed to a block (Figure 2-16). -/
def handedOn (f : Frame) (s : State) : Bool :=
  if f.kind = Kind.request.code then
    if requestAction f.payload ≤ 3 then requestAddressed f.payload s
    else requestAction f.payload == 4 && restartAddressed f.payload s
  else if f.kind = Kind.configure.code then
    decide (configureOperation f.payload ≤ 2) && configureTarget f.payload == lineId s
  else false

/-! ### Peers and supply -/

/-- A peer record counts as a running member of the node's group (R56). -/
def runningMember (s : State) (r : PeerRecord) : Bool :=
  match r.st with
  | none => false
  | some p => p.running && p.group == s.cfg.group

/-- The weight a peer record adds to a load (R56). -/
def memberWeight (s : State) (r : PeerRecord) : Nat :=
  match r.st with
  | none => 0
  | some p => if runningMember s r then p.weight else 0

/-- The weights of the running members of the node's group (R107, part 1). -/
def runningWeight (s : State) : Nat := (s.peers.map (memberWeight s)).sum

/-- The entries ranked ahead of the own entry (R100). -/
def entriesAhead (s : State) : List Entry := s.supply.entries.takeWhile fun e => !e.own

/-- The load of an evaluation (R107). -/
def loadOf (s : State) : Nat :=
  runningWeight s + ((entriesAhead s).map Entry.weight).sum + s.cfg.weight

/-- The keep class a record earns (R44). -/
def keepOf (s : State) (obs : Option Observation) (st : Option PeerState) : Bool :=
  (match obs with | none => false | some o => o.windCapable) ||
  (match st with | none => false | some p => !s.safe && p.group == s.cfg.group)

/-! ### Cross-check (R150, R151) -/

/-- A comparison finds the count and the stroke sensor apart (R151). -/
def strokeDisagrees (s : State) : Bool :=
  s.cfg.strokeFitted && s.pos.referenced &&
  decide (s.cfg.mismatch < gap (strokePosition s.pins.stroke.toNat s.cfg.closedReading s.cfg.openReading) (position s))

/-! ### When commands are due. Each is the test its command makes; the clock issues the commands whose test
holds (notes/assumptions/1.md). -/

/-- A window ends at this NT (R3): NT is a multiple of 1,000 and the open window is an earlier one. -/
def windowEnds (s : State) : Bool :=
  multipleOf s.nt 1000 && s.nt.toNat / 1000 != s.sensor.windowBegin.toNat / 1000

/-- A velocity window ends at this NT (R152). -/
def velocityEnds (s : State) : Bool :=
  multipleOf s.nt 100 && s.nt.toNat / 100 != s.pos.windowBegin.toNat / 100

/-- A grid sample falls at this NT and has not been taken (R3, R15). -/
def gridDue (s : State) : Bool := s.cfg.wetFitted && multipleOf s.nt 250 && s.sensor.gridAt != some s.nt

/-- A button sample falls at this NT and has not been taken (R3, R18). -/
def buttonsDue (s : State) : Bool := multipleOf s.nt 10 && s.sensor.buttonsAt != some s.nt

/-- A key sample falls at this NT and has not been taken (R3, R19). -/
def keyDue (s : State) : Bool := multipleOf s.nt 10 && s.sensor.keyAt != some s.nt

/-- A scan falls at this NT (R52). -/
def scanDue (s : State) : Bool := decide (s.nt.toNat % 1000 = 500)

/-- An instant at which an assessment tick falls, outside the safe profile (R58). -/
def tickInstant (s : State) : Bool := !s.safe && multipleOf s.nt 1000

/-- LISTEN ends (R95, R160). -/
def listenEnds (s : State) : Bool := s.listen && passed s.nt 2000#32

/-- The start-window flag is to be cleared (R61). -/
def startWindowEnds (s : State) : Bool := tickInstant s && s.weather.startWindow && passed s.nt 10000#32

/-- The storm quiet deadline has passed at a tick on which the condition does not hold (R70). -/
def stormExpires (s : State) : Bool := tickInstant s && !s.weather.stormHolds && due s.nt s.weather.stormQuietDl

/-- The rain quiet deadline has passed at a tick on which the condition does not hold (R75). -/
def rainExpires (s : State) : Bool := tickInstant s && !s.weather.rainHolds && due s.nt s.weather.rainQuietDl

/-- The demand expiry deadline has passed (R91). -/
def demandExpires (s : State) : Bool := due s.nt s.levels.expiryDl

/-- The periodic OBSERVE deadline has passed, outside the safe profile (R36). -/
def periodicDue (s : State) : Bool := !s.safe && passed s.nt s.weather.periodicDl

/-- The immediate hold-off deadline has passed (R37). -/
def holdoffPassed (s : State) : Bool := due s.nt s.weather.holdoffDl

/-- The running refresh deadline has passed while running is 1 (R38). -/
def runningRefreshDue (s : State) : Bool := s.supply.running && due s.nt s.drive.refreshDl

/-- The isolation deadline has passed and the node is not ISOLATED (R41). -/
def isolationDue (s : State) : Bool := !s.line.isolated && passed s.nt s.line.isolationDl

/-- The settle deadline has passed in SETTLING (R108). -/
def settleDue (s : State) : Bool := decide (s.supply.admission = .settling) && due s.nt s.supply.settleDl

/-- The refresh deadline has passed in SETTLING or WAITING (R105). -/
def intentRefreshDue (s : State) : Bool :=
  decide (s.supply.admission = .settling ∨ s.supply.admission = .waiting) && due s.nt s.supply.refreshDl

/-- A peer entry has aged: its heard-at + 5,001 has passed (R104). -/
def entryAged (s : State) (e : Entry) : Bool := !e.own && passed s.nt (after e.heardAt 5001)

/-- A reading of the drive supply below the Hall floor while the bridge is energised (R146). -/
def belowHallFloor (reading : Nat) (s : State) : Bool := decide (reading < 160) && energised s

/-- The sag timer has run for 50 ms with the bridge energised, outside the safe profile (R113, R116). -/
def sagDue (s : State) : Bool :=
  energised s && !s.safe && match s.supply.sagTimer with
    | none => false
    | some t => decide (50 ≤ age s.nt t)

/-- The over-current timer has run for 100 ms with the bridge energised (R128). -/
def overCurrentDue (s : State) : Bool :=
  energised s && match s.drive.ocTimer with
    | none => false
    | some t => decide (100 ≤ age s.nt t)

/-- The warning deadline has passed in WARNING (R122). -/
def warningDue (s : State) : Bool := decide (s.drive.state = .warning) && due s.nt s.drive.warningDl

/-- A ramp step is due in RAMP (R123). -/
def rampStepDue (s : State) : Bool := decide (s.drive.state = .ramp) && due s.nt s.drive.rampStepDl

/-- The stop deadline has passed in STOPPING (R127). -/
def stopDue (s : State) : Bool := decide (s.drive.state = .stopping) && due s.nt s.drive.stopDl

/-- The seat-timeout deadline has passed in SEATING (R126). -/
def seatTimeoutDue (s : State) : Bool := decide (s.drive.state = .seating) && due s.nt s.drive.seatTimeoutDl

/-- The safe-seat deadline has passed in the safe seat (R163). -/
def safeSeatDue (s : State) : Bool :=
  decide (s.drive.state = .seating) && decide (s.drive.safePhase = .seating) && due s.nt s.drive.safeSeatDl

/-- The backoff deadline has passed in BACKOFF (R130). -/
def backoffDue (s : State) : Bool := decide (s.drive.state = .backoff) && due s.nt s.drive.backoffDl

/-- The retry deadline has passed in RETRY_WAIT (R131). -/
def retryDue (s : State) : Bool := decide (s.drive.state = .retryWait) && due s.nt s.drive.retryDl

/-- The hold-off deadline has passed in SAG_WAIT (R137). -/
def sagHoldoffDue (s : State) : Bool := decide (s.drive.state = .sagWait) && due s.nt s.drive.holdoffDl

/-- The 200 ms of REFUSE have passed (R139). -/
def refuseEnds (s : State) : Bool := due s.nt s.drive.refuseUntil

/-- The cross-check deadline has passed in IDLE, with the stroke part fitted (R151). -/
def crossCheckDue (s : State) : Bool :=
  s.cfg.strokeFitted && decide (s.drive.state = .idle) && due s.nt s.pos.crossCheckDl

/-- The write in progress completes (R157). -/
def writeDue (s : State) : Bool :=
  match s.store.writing with
  | none => false
  | some w => passed s.nt w.deadline

/-- The commissioning window deadline has passed (R156). -/
def windowDeadlineDue (s : State) : Bool := s.store.isOpen && due s.nt s.store.deadline

/-- A commanded restart may start: ordered, and the drive at rest in IDLE (R138, R162). -/
def restartReady (s : State) : Bool := s.drive.controlledStop && decide (s.drive.state = .idle)

end Sys2Proof.Machine
end

