-- ==== Sys2Proof/Machine/Ops.lean ====
section
/-! DEFINITION. The operations that commands share: placing telegrams, requesting and leaving the supply, the passages
between drive states, handing goals, appointments, suspect reasons, evaluations, seats, and the end of every command.

The blocks call each other in one direction only: line, supply, drive at rest, levels at rest, drive, levels. The
one loop of the spec (a drive that comes to IDLE compares its stroke sensor, becomes suspect and is handed a closing
seat, R151, R85) is cut by the operations named "AtRest", which run with the drive in IDLE. -/

namespace Sys2Proof.Machine

/-! ### Transmit queue (R31 to R33, R35) -/

/-- Queue order (R31): class ascending, then the older first, ages as differences from the present NT. -/
def Queued.precedes (nt : Time) (a b : Queued) : Bool :=
  decide (a.cls.code.toNat < b.cls.code.toNat) ||
  (a.cls.code == b.cls.code && decide (Machine.age nt b.age < Machine.age nt a.age))

/-- A telegram put at its place; among equals it stands last (notes/assumptions/10.md). -/
def insertQueued (nt : Time) (x : Queued) : List Queued → List Queued
  | [] => [x]
  | y :: ys => if x.precedes nt y then x :: y :: ys else y :: insertQueued nt x ys

/-- The order re-established (R31). -/
def reorder (nt : Time) (q : List Queued) : List Queued := q.foldl (fun acc x => insertQueued nt x acc) []

/-- Whether the queue holds a telegram of a kind. -/
def Line.holds (l : Line) (k : Kind) : Bool := l.queue.any fun e => e.kind == k

/-- Whether the queued telegram of a kind is the one whose transmission is in progress (R32, R33). -/
def Line.flying (l : Line) (k : Kind) : Bool :=
  match l.inFlight with
  | none => false
  | some f => f.kind == k && !f.entryGone

/-- The telegram of a kind leaves the queue; its transmission, if in progress, runs on without an entry (R33). -/
def Line.drop (l : Line) (k : Kind) : Line :=
  { l with
    queue := l.queue.filter fun e => e.kind != k
    inFlight := match l.inFlight with
      | none => none
      | some f => some (if f.kind = k then { f with entryGone := true } else f) }

/-- A telegram joins the queue, or replaces the queued one of its kind in place (R32). -/
def Line.put (l : Line) (nt : Time) (k : Kind) (cls : Class) (payload : List Byte) : Line :=
  if l.holds k then
    { l with queue := reorder nt (l.queue.map fun e =>
        if e.kind = k then { e with cls := cls, payload := payload, replaced := e.replaced || l.flying k } else e) }
  else { l with queue := reorder nt (l.queue ++ [⟨k, cls, payload, nt, false⟩]) }

/-- The placement of a WITHDRAW (R33). -/
def Line.putWithdraw (l : Line) (nt : Time) (cls : Class) (payload : List Byte) : Line :=
  if l.holds .intent then
    if l.flying .intent || l.intentSent then (l.drop .intent).put nt .withdraw cls payload else l.drop .intent
  else if l.intentSent then l.put nt .withdraw cls payload else l

/-- A placement (R32, R33, R35): refused, or taken by kind. -/
def place (k : Kind) (cls : Class) (payload : List Byte) (s : State) : State :=
  if refusesPlacement k s then s
  else match k with
    | .withdraw => s.setLine (s.line.putWithdraw s.nt cls payload)
    | .intent => s.setLine ((s.line.drop .withdraw).put s.nt .intent cls payload)
    | k => s.setLine (s.line.put s.nt k cls payload)

/-! ### Reports (R36 to R38, Figures 2-8 and 2-9) -/

/-- The OBSERVE payload of the node at this moment (Figure 2-9, R10, R36). -/
def observePayload (s : State) : List Byte :=
  let valid := s.sensor.direction.isSome
  [s.sensor.wet.code ++ bit s.cfg.skylight ++ bit s.cfg.windFitted ++ BitVec.ofNat 4 s.cfg.facade,
   s.weather.anem.code ++ bit s.cfg.wetFitted ++ bit valid ++ BitVec.ofNat 4 (s.sensor.direction.getD 0)]
  ++ wordBytes s.sensor.mean ++ wordBytes s.sensor.gust

/-- The STATE payload of the node at this moment (Figure 2-8, R38, R97, R140). -/
def statePayload (s : State) : List Byte :=
  [(motion s).code ++ actingCode (acting s) ++ bit (suspect s) ++ bit (s.drive.state == .blocked) ++
     bit s.levels.serviceHold ++ bit s.supply.running,
   BitVec.ofNat 4 s.cfg.weight ++ BitVec.ofNat 4 s.cfg.group]
  ++ wordBytes (position s) ++
  [bit (s.levels.storm == .armed) ++ bit (s.levels.rain == .armed) ++ bit (s.levels.demand == .armed) ++ 0#1 ++
     BitVec.ofNat 4 s.drive.retry]

/-- An OBSERVE placed with the payload of this moment. -/
def placeObserve (cls : Class) (s : State) : State := place .observe cls (observePayload s) s

/-- A STATE placed (R38): the position it carries becomes the last reported position, refused or not (R144), and while
running is 1 the running refresh deadline is set, refused or not too (notes/assumptions/23.md). -/
def placeState (s : State) : State :=
  let payload := statePayload s
  let s1 := s.setPos { s.pos with lastReported := position s }
  let s2 := if s.supply.running then s1.setDrive { s1.drive with refreshDl := some (after s.nt 2000) } else s1
  place .state .drive payload s2

/-- The lower (more urgent) of a class and a deferred class (R37). -/
def lowerClass (c : Class) : Option Class → Class
  | none => c
  | some d => if d.code.toNat < c.code.toNat then d else c

/-- An immediate OBSERVE placed, and the hold-off deadline set (R37). -/
def placeImmediate (cls : Class) (s : State) : State :=
  let s1 := placeObserve cls s
  s1.setWeather { s1.weather with holdoffDl := some (after s.nt 500), deferred := none }

/-- An immediate OBSERVE trigger (R37): refused without trace, placed, or deferred. -/
def triggerObserve (cls : Class) (s : State) : State :=
  if refusesPlacement .observe s then s
  else match s.weather.holdoffDl with
    | none => placeImmediate cls s
    | some d =>
      if passed s.nt d then placeImmediate cls s
      else s.setWeather { s.weather with deferred := some (lowerClass cls s.weather.deferred) }

/-! ### Intent List and requests (R100 to R106, R110, R111) -/

/-- Rank order of the Intent List (R100): level ascending, then source id ascending. -/
def Entry.outranks (a b : Entry) : Bool :=
  decide (a.level.rank < b.level.rank) || (a.level == b.level && decide (a.source < b.source))

/-- An entry put at its rank (R100). -/
def insertEntry (x : Entry) : List Entry → List Entry
  | [] => [x]
  | y :: ys => if x.outranks y then x :: y :: ys else y :: insertEntry x ys

/-- The list without the entry of a source. -/
def withoutSource (src : Nat) (l : List Entry) : List Entry := l.filter fun e => e.source != src || e.own

/-- The list without the own entry. -/
def withoutOwn (l : List Entry) : List Entry := l.filter fun e => !e.own

/-- The lowest-ranked peer entry of a list in rank order. -/
def lowestPeer (l : List Entry) : Option Entry := (withoutOwn l).getLast?

/-- The list without its lowest-ranked peer entry (R102). -/
def evictLowest (l : List Entry) : List Entry :=
  match lowestPeer l with
  | none => l
  | some e => withoutSource e.source l

/-- A peer's entry placed (R101, R102): its old entry gives way, and into a full list only an entry that outranks
the lowest-ranked peer entry is placed, which it evicts. -/
def storeEntry (e : Entry) (l : List Entry) : List Entry :=
  let rest := withoutSource e.source l
  if rest.length < 8 then insertEntry e rest
  else match lowestPeer rest with
    | none => rest
    | some low => if e.outranks low then insertEntry e (evictLowest rest) else rest

/-- The own entry placed (R105, R102): of 8 peer entries the lowest-ranked is evicted. -/
def storeOwn (e : Entry) (l : List Entry) : List Entry :=
  let rest := withoutOwn l
  if rest.length < 8 then insertEntry e rest else insertEntry e (evictLowest rest)

/-- The own entry of a level and direction, heard now (R105). -/
def ownEntry (level : Level) (dir : Dir) (s : State) : Entry :=
  ⟨lineId s, level, dir, s.cfg.weight, s.nt, true⟩

/-- An INTENT of the node placed (R105). -/
def placeIntent (level : Level) (dir : Dir) (s : State) : State :=
  place .intent level.cls (intentPayload level dir s.cfg.weight s.cfg.group) s

/-- A request taken, or a re-announcement (R105, R106): INTENT, own entry, settle and refresh deadlines. -/
def announce (level : Level) (dir : Dir) (s : State) : State :=
  let s1 := placeIntent level dir s
  s1.setSupply { s1.supply with
    entries := storeOwn (ownEntry level dir s) s1.supply.entries
    own := some (level, dir)
    admission := .settling
    settleDl := some (after s.nt 250)
    refreshDl := some (after s.nt 2000) }

/-- A request for admission (R105, R106): in ADMITTED the admission stands; in the safe profile none is taken
(R116). -/
def requestAdmission (level : Level) (dir : Dir) (s : State) : State :=
  if s.safe || s.supply.admission == .admitted then s else announce level dir s

/-- A request cancelled (R111). -/
def cancelRequest (s : State) : State :=
  let s1 := match s.supply.own with
    | none => s
    | some (level, _) => place .withdraw level.cls (withdrawPayload s.cfg.group) s
  s1.setSupply { s1.supply with
    entries := withoutOwn s1.supply.entries
    own := none
    admission := .none
    settleDl := none
    refreshDl := none }

/-- An admitted move released (R110). -/
def releaseSupply (s : State) : State :=
  s.setSupply { s.supply with admission := .none, running := false }

/-- The Unit's response to the drive coming to rest or leaving WAIT_SLOT (R110, R111): an admitted move is
released, a request not yet admitted is cancelled. -/
def leaveSupply (s : State) : State :=
  match s.supply.admission with
  | .none => s
  | .settling => cancelRequest s
  | .waiting => cancelRequest s
  | .admitted => releaseSupply s

/-- A move has ended at its goal (R114). -/
def moveEnded (s : State) : State := s.setSupply { s.supply with sagCount := 0 }

/-! ### Passages between drive states -/

/-- An occasion for a STATE is noted (R38). -/
def noteOccasion (s : State) : State := s.setOccasion true

/-- The drive takes new contents. Outside IDLE the cross-check deadline is none (R151); outside the energised
states the sag timer is clear (R113). -/
def moveDrive (d : Drive) (s : State) : State :=
  let s1 := s.setDrive d
  let s2 := if d.state = .idle then s1 else s1.setPos { s1.pos with crossCheckDl := none }
  if d.state.energised then s2 else s2.setSupply { s2.supply with sagTimer := none }

/-- A drive with every deadline of its states none, no pattern and no duty: what it is on the way into a state.
The running refresh deadline and REFUSE belong to no state and stay. That the move direction becomes none here, on entry
into STOPPING and into every state at rest, is the model's choice, as are the clearing of the checks and that the
warning, stop, retry, hold-off, backoff and safe-seat deadlines become none as their state is left, which no rule, R163
for the safe seat's among them, says (notes/assumptions/29.md). -/
def Drive.cleared (d : Drive) : Drive :=
  { d with
    duty := 0, dir := none, checkStart := none, ocTimer := none, stallRun := 0, continuation := none
    backoffDl := none, warningDl := none, stopDl := none, seatTimeoutDl := none, retryDl := none, holdoffDl := none
    safeSeatDl := none, rampStepDl := none, pattern := none }

/-- A drive with the yield mark, the held change and the held close notice clear (R127). -/
def Drive.unmarked (d : Drive) : Drive :=
  { d with yieldMark := false, heldChange := false, heldClose := false, obstructionPending := false }

/-- Entry into STOPPING (R127). -/
def enterStopping (c : Continuation) (s : State) : State :=
  moveDrive { s.drive.cleared with
    state := .stopping, stopDl := some (after s.nt 200), continuation := some c } s

/-- Entry into WAIT_SLOT (R120, R105): the request names the level and direction of the goal in hand. -/
def enterWaitSlot (s : State) : State :=
  let s1 := moveDrive { s.drive.cleared.unmarked with state := .waitSlot } s
  match s1.drive.goal with
  | none => s1
  | some g => requestAdmission g.level (requestDir g s1) s1

/-- Entry into SEATING from a move (R124, R126). -/
def enterSeating (s : State) : State :=
  moveDrive { s.drive with
    state := .seating, duty := s.cfg.creepDuty, rampStepDl := none, seatTimeoutDl := some (after s.nt 8000) } s

/-- Entry into APPROACH (R124). -/
def enterApproach (s : State) : State :=
  moveDrive { s.drive with
    state := .approach, duty := s.cfg.creepDuty, rampStepDl := none, seatTimeoutDl := none } s

/-- Arrival (R124). -/
def arrive (s : State) : State := enterStopping .goal (moveEnded s)

/-- The remaining distance of a move in a direction towards a target count (R124). -/
def remaining (dir : Dir) (target : Int) (s : State) : Int :=
  match dir with
  | .closing => s.pos.count - target
  | .opening => target - s.pos.count

/-- The position tests of R124 in RAMP, TRAVEL and APPROACH. -/
def positionTests (s : State) : State :=
  match s.drive.goal, s.drive.dir with
  | some g, some dir =>
    let rest := remaining dir (targetCount g.target s) s
    let near := decide (rest ≤ (s.cfg.approachBand : Int))
    let testsRun := s.drive.state = .ramp ∨ s.drive.state = .travel ∨ s.drive.state = .approach
    if testsRun then
      match g.target with
      | .seat =>
        if s.pos.count ≤ (s.cfg.seatBand : Int) then enterSeating s
        else if near && s.drive.state != .approach then enterApproach s else s
      | .pm _ =>
        if rest ≤ 0 then arrive s
        else if near && s.drive.state != .approach then enterApproach s else s
    else s
  | _, _ => s

/-- Entry into TRAVEL when the duty has reached the travel duty in RAMP (R123). -/
def rampToTravel (s : State) : State :=
  if s.drive.state = .ramp ∧ s.cfg.travelDuty ≤ s.drive.duty then
    positionTests (moveDrive { s.drive with state := .travel, duty := s.cfg.travelDuty, rampStepDl := none } s)
  else s

/-- Entry into RAMP (R123): the direction fixed, the start duty, the check start, the checks clear, the seat record
none; then the tests of R124. With the position suspect and a goal that is not closed, STOPPING instead (R134). -/
def enterRamp (s : State) : State :=
  match s.drive.goal with
  | none => enterStopping .goal s
  | some g =>
    if suspect s && g.target != .seat then
      enterStopping .goal (s.setDrive { s.drive with seatRecord := none })
    else
      let d := { s.drive.cleared with
        state := .ramp, dir := some (goalDir g s), duty := s.cfg.startDuty, checkStart := some (after s.nt 300)
        seatRecord := none, rampStepDl := some (after s.nt 20), pattern := movingPattern s, patternStart := s.nt }
      rampToTravel (positionTests (noteOccasion (moveDrive d s)))

/-- Entry into WARNING from WAIT_SLOT; a warning time of 0 enters RAMP directly (R121, R122). -/
def enterWarning (s : State) : State :=
  if warningTime s.drive.goal s = 0 then enterRamp s
  else moveDrive { s.drive.cleared with
    state := .warning, pattern := some .warn, patternStart := s.nt
    warningDl := some (after s.nt (100 * warningTime s.drive.goal s)) } s

/-- The end of a backoff by its count (R130). -/
def backoffTest (s : State) : State :=
  if s.drive.state = .backoff ∧ s.drive.backoffOrigin + s.cfg.backoff ≤ s.pos.count then enterStopping .verdict s else s

/-- Entry into BACKOFF (R130). -/
def enterBackoff (s : State) : State :=
  let d := { s.drive.cleared with
    state := .backoff, dir := some .opening, duty := s.cfg.creepDuty, backoffOrigin := s.pos.count
    backoffDl := some (after s.nt 3000), checkStart := some (after s.nt 300), seatRecord := none
    pattern := movingPattern s, patternStart := s.nt }
  backoffTest (noteOccasion (moveDrive d s))

/-! ### The drive at rest in IDLE, and what a comparison there can set off -/

/-- A goal handed in IDLE (R120); under a controlled stop it begins no move (R138). -/
def takeGoalAtRest (g : Option Goal) (s : State) : State :=
  let s1 := s.setDrive { s.drive with goal := g }
  match g with
  | none => s1
  | some goal => if !s.drive.controlledStop && needsMotion goal s1 then enterWaitSlot s1 else s1

/-- The goal handed (R85) and the hold reference of a handing (R86): none when no level acts, the reported position
when the drive is IDLE. -/
def recordHanding (s : State) : State :=
  let g := formGoal s
  s.setLevels { s.levels with
    handed := g
    holdRef := if g = none then none
      else if s.drive.state = .idle then some (position s) else s.levels.holdRef }

/-- A goal handed while the drive is IDLE (R85). -/
def handGoalAtRest (s : State) : State := takeGoalAtRest (formGoal s) (recordHanding s)

/-- A reason put into the set, and the referenced flag cleared where Figure 8-2 says so (R145, R147). -/
def putReason (r : Reason) (s : State) : State :=
  s.setPos { s.pos with
    reasons := s.pos.reasons.add r
    referenced := s.pos.referenced && !r.losesZero }

/-- A comparison with the stroke sensor in IDLE (R151), with the onset of suspect it may bring (R145, R85). -/
def compareAtRest (s : State) : State :=
  if strokeDisagrees s then
    let s1 := putReason .mismatch s
    if suspect s || acting s == none then s1 else handGoalAtRest s1
  else s

/-- Entry into IDLE: the supply left (R110, R111), the retry count 0 (R129), the marks clear (R127), the hold
reference renewed while a level acts (R86), the cross-check deadline set (R151). -/
def restInIdle (s : State) : State :=
  let s1 := leaveSupply s
  let s2 := moveDrive { s1.drive.cleared.unmarked with state := .idle, retry := 0 } s1
  let s3 := if acting s2 = none then s2 else s2.setLevels { s2.levels with holdRef := some (position s2) }
  s3.setPos { s3.pos with crossCheckDl := some (after s3.nt 10000) }

/-- Entry into IDLE with the comparison made there (R151). -/
def enterIdle (s : State) : State := compareAtRest (restInIdle s)

/-- WAIT_SLOT if the goal in hand needs motion, otherwise IDLE (R131, R132, R137). -/
def waitOrIdle (s : State) : State :=
  match s.drive.goal with
  | none => enterIdle s
  | some g => if needsMotion g s then enterWaitSlot s else enterIdle s

/-- `waitOrIdle` with the retry count forgiven (R131, R132). -/
def forgiveAndGo (s : State) : State := waitOrIdle (s.setDrive { s.drive with retry := 0 })

/-- Entry into RETRY_WAIT (R131): release, the retry deadline, then a held change, then a held close notice. -/
def enterRetryWait (s : State) : State :=
  let s1 := leaveSupply s
  let s2 := moveDrive { s1.drive.cleared.unmarked with
    state := .retryWait, retryDl := some (after s1.nt (1000 * s1.cfg.retryDelay)) } s1
  if s.drive.heldChange then forgiveAndGo s2 else if s.drive.heldClose then waitOrIdle s2 else s2

/-- Entry into BLOCKED (R132): release, the blocked flag, FAULT, then a held change, then a held close notice. -/
def enterBlocked (s : State) : State :=
  let s1 := leaveSupply s
  let s2 := noteOccasion (moveDrive { s1.drive.cleared.unmarked with
    state := .blocked, pattern := some .fault, patternStart := s1.nt } s1)
  if s.drive.heldChange then forgiveAndGo s2 else if s.drive.heldClose then forgiveAndGo s2 else s2

/-- Entry into SAG_WAIT (R137). -/
def enterSagWait (s : State) : State :=
  let s1 := leaveSupply s
  moveDrive { s1.drive.cleared.unmarked with
    state := .sagWait, holdoffDl := some (after s1.nt s1.drive.holdoff) } s1

/-! ### Goals and close notices, in every drive state -/

/-- A change of goal in RAMP, TRAVEL, APPROACH or SEATING (R133), the goal in hand before it being `old`. -/
def changeWhileMoving (old g : Option Goal) (s : State) : State :=
  match g with
  | none => enterStopping .goal s
  | some new =>
    if !needsMotion new s then arrive s
    else if new.target = .seat && suspect s && (match old with | some o => o.target != .seat | none => false) then
      enterStopping .goal s
    else if s.drive.dir = some (goalDir new s) then
      if s.drive.state = .seating then
        if new.target = .seat then s else positionTests (enterApproach s)
      else positionTests s
    else enterStopping .goal s

/-- A change of goal in WARNING (R122): the deadline is worked out again from the same entry. -/
def changeWhileWarning (g : Option Goal) (s : State) : State :=
  match g with
  | none => enterIdle s
  | some new =>
    if !needsMotion new s then enterIdle s
    else
      let dl := after s.drive.patternStart (100 * warningTime (some new) s)
      let s1 := s.setDrive { s.drive with warningDl := some dl }
      if passed s.nt dl then enterRamp s1 else s1

/-- A change of goal in WAIT_SLOT (R121). -/
def changeWhileWaiting (g : Option Goal) (s : State) : State :=
  match g with
  | none => enterIdle s
  | some new => if needsMotion new s then requestAdmission new.level (requestDir new s) s else enterIdle s

/-- The drive takes a handing (R119 to R122, R127, R131 to R133, R135, R138). -/
def takeGoal (g : Option Goal) (s : State) : State :=
  let old := s.drive.goal
  let s1 := s.setDrive { s.drive with goal := g }
  if s.drive.controlledStop then s1
  else match s.drive.state with
    | .idle => takeGoalAtRest g s
    | .waitSlot => if g = old then s1 else changeWhileWaiting g s1
    | .warning => if g = old then s1 else changeWhileWarning g s1
    | .ramp => if g = old then s1 else changeWhileMoving old g s1
    | .travel => if g = old then s1 else changeWhileMoving old g s1
    | .approach => if g = old then s1 else changeWhileMoving old g s1
    | .seating => if g = old then s1 else changeWhileMoving old g s1
    | .stopping =>
      if g = old || g = none then s1
      else if s.drive.continuation = some .backoff || s.drive.continuation = some .verdict then
        s1.setDrive { s1.drive with heldChange := true }
      else s1
    | .backoff =>
      if g = old then s1
      else if g = none then enterStopping .goal s1
      else s1.setDrive { s1.drive with heldChange := true }
    | .retryWait => if g = old then s1 else if g = none then enterIdle s1 else forgiveAndGo s1
    | .sagWait => if g = none then enterIdle s1 else s1
    | .blocked => if g = old then s1 else if g = none then enterIdle s1 else forgiveAndGo s1

/-- The drive takes a close notice (R88, R89: R120 to R122, R127, R131 to R133, R135, R138). -/
def takeCloseNotice (s : State) : State :=
  if s.drive.controlledStop then s
  else match s.drive.state with
    | .retryWait => waitOrIdle s
    | .blocked => forgiveAndGo s
    | .backoff => s.setDrive { s.drive with heldClose := true }
    | .stopping =>
      if s.drive.continuation = some .backoff || s.drive.continuation = some .verdict ||
          s.drive.continuation = some .sag then
        s.setDrive { s.drive with heldClose := true }
      else s
    | _ => s

/-- A goal handed to the drive (R85). -/
def handGoal (s : State) : State := takeGoal (formGoal s) (recordHanding s)

/-! ### Suspect reasons (R145) -/

/-- The drive's response to the onset of suspect (R134). -/
def driveOnset (s : State) : State :=
  match s.drive.goal with
  | none => s
  | some g =>
    if g.target != .seat && (s.drive.state == .ramp || s.drive.state == .travel || s.drive.state == .approach) then
      enterStopping .goal s
    else s

/-- A reason added (R145): at the onset of suspect the drive and then the Level Controller take the notice. -/
def addReason (r : Reason) (s : State) : State :=
  let s1 := putReason r s
  if suspect s then s1
  else
    let s2 := driveOnset s1
    if acting s2 = none then s2 else handGoal s2

/-- The end of suspect handed to the Level Controller (R145, R83, R85). -/
def endSuspect (s : State) : State :=
  match acting s with
  | none => s
  | some .rain => handGoal (s.setLevels { s.levels with rainTarget := rainFormed s })
  | some _ => handGoal s

/-! ### Appointments and the levels (R81, R87 to R93) -/

/-- The level that is to act (R81): the highest that is not QUIET, where a level may act. -/
def chosenLevel (s : State) : Option Level :=
  if !mayAct s then none
  else if s.levels.storm ≠ .quiet then some .storm
  else if s.levels.rain ≠ .quiet then some .rain
  else if s.levels.demand ≠ .quiet then some .demand
  else none

/-- A level's state at an appointment. -/
def appointed (l : Level) (chosen : Option Level) (present : LevelState) : LevelState :=
  if present = .quiet then .quiet else if chosen = some l then .acting else .armed

/-- The levels after an appointment; RAIN's formed target is dropped when RAIN does not act, and formed when RAIN
becomes ACTING (R83). -/
def appointedLevels (s : State) : Levels :=
  let c := chosenLevel s
  { s.levels with
    storm := appointed .storm c s.levels.storm
    rain := appointed .rain c s.levels.rain
    demand := appointed .demand c s.levels.demand
    rainTarget := if c = some .rain then
        (if acting s = some .rain then s.levels.rainTarget else rainFormed s)
      else none }

/-- An appointment (R81), `before` being the level that acted before the change it follows: when which level acts
has changed, the goal is handed (R85). -/
def appointFrom (before : Option Level) (s : State) : State :=
  let s1 := s.setLevels (appointedLevels s)
  if acting s1 = before then s1 else handGoal s1

/-- An appointment after a change that cleared no ACTING level (R81). -/
def appoint (s : State) : State := appointFrom (acting s) s

/-- A level raised, left as it is, or cleared by its part of an assessment result (R87). -/
def resultLevel (holds expires : Bool) (present : LevelState) : LevelState :=
  if holds then (if present = .quiet then .armed else present)
  else if expires then .quiet else present

/-- An assessment result taken whole (R87), and its one appointment. -/
def takeResult (stormHolds stormExpires rainHolds rainExpires : Bool) (s : State) : State :=
  let s1 := s.setLevels { s.levels with
    storm := resultLevel stormHolds stormExpires s.levels.storm
    rain := resultLevel rainHolds rainExpires s.levels.rain }
  appointFrom (acting s) s1

/-- The demand expiry deadline restarted (R91). -/
def restartExpiry (s : State) : State :=
  s.setLevels { s.levels with
    expiryDl := if s.cfg.demandExpiry = 0 then none else some (after s.nt (1000 * s.cfg.demandExpiry)) }

/-- A DEMAND request taken with a target (R88 steps 1 to 3, R89): the target, the raising, the appointment, the
handing of a new target of an ACTING DEMAND (R85), the expiry. -/
def takeDemand (t : Target) (s : State) : State :=
  let s1 := s.setLevels { s.levels with
    demandTarget := some t
    demand := if s.levels.demand = .quiet then .armed else s.levels.demand }
  let s2 := appoint s1
  let s3 := if acting s = some .demand ∧ acting s2 = some .demand then handGoal s2 else s2
  restartExpiry s3

/-- DEMAND cleared (R90, R91). When it acted, the handed goal changes at the appointment. -/
def clearDemand (s : State) : State :=
  appointFrom (acting s) (s.setLevels { s.levels with demand := .quiet, demandTarget := none, expiryDl := none })

/-- REFUSE asked of the drive (R94, R139). -/
def playRefuse (s : State) : State := s.setDrive { s.drive with refuseUntil := some (after s.nt 200) }

/-- A press taken by the Level Controller (R89, R94); discarded in the safe profile (R96). A press in LISTEN plays no
REFUSE, whether or not service hold is on: R94 asks for it because the hold is on and exempts LISTEN because DEMAND is
ARMED only until LISTEN ends; that the exemption holds where both are so is the model's choice
(notes/assumptions/44.md). -/
def takePress (closes : Bool) (s : State) : State :=
  if s.safe then s
  else
    let stopping := s.levels.demand = .acting ∧ s.drive.state.movingForPress = true
    let t := if stopping then demandAt (position s) s
      else if closes then .seat else demandAt s.cfg.maxOpen s
    let s1 := takeDemand t s
    let s2 := if closes then takeCloseNotice s1 else s1
    if s1.levels.demand = .armed ∧ !s1.listen then playRefuse s2 else s2

/-- A drift at rest (R86): the same goal handed again, whichever way the opening moved. Under RAIN this drives a window that
was pushed more than 20 pm below the formed target open to it again, by R86 and beside R83's sentence that RAIN never
opens a window: the model's choice (DESIGN CHOICE, notes/assumptions/48.md). -/
def driftTest (s : State) : State :=
  match s.levels.holdRef with
  | none => s
  | some h =>
    if acting s != none && s.drive.state == .idle && decide (20 < gap (position s) h) then handGoal s else s

/-! ### Evaluations (R107, R108) and notices -/

/-- The drive takes an admission (R121). -/
def driveAdmitted (s : State) : State := if s.drive.state = .waitSlot then enterWarning s else s

/-- Admission (R108). -/
def admitNode (s : State) : State :=
  driveAdmitted (s.setSupply { s.supply with
    entries := withoutOwn s.supply.entries
    own := none
    admission := .admitted
    running := true
    settleDl := none
    refreshDl := none })

/-- An evaluation (R107, R108). -/
def evaluate (s : State) : State :=
  if loadOf s ≤ s.cfg.budget then admitNode s
  else s.setSupply { s.supply with admission := .waiting, settleDl := none }

/-- An evaluation occasion: it counts while WAITING (R108). -/
def occasionToEvaluate (s : State) : State := if s.supply.admission = .waiting then evaluate s else s

/-- A notice from the Peer Table (R51, R104): a record removed, or a running mark cleared. -/
inductive Notice where
  | removed (source : Nat)
  | runningCleared (source : Nat)
  deriving DecidableEq, Repr

/-- The Supply Share Unit takes a notice (R104). -/
def takeNotice (s : State) (n : Notice) : State :=
  match n with
  | .removed src =>
    occasionToEvaluate (s.setSupply { s.supply with entries := withoutSource src s.supply.entries })
  | .runningCleared _ => occasionToEvaluate s

/-! ### Counts (R144), seats (R125, R148), detections (R128, R129) -/

/-- What follows a change of the count (R144): the drive's tests, then on a change of the reported position the
drift test and the 20 pm occasion. `before` is the reported position before the change. -/
def countChanged (before : Nat) (s : State) : State :=
  let s1 := backoffTest (positionTests s)
  if position s1 = before then s1
  else
    let s2 := driftTest s1
    if 20 ≤ gap (position s2) s2.pos.lastReported then noteOccasion s2 else s2

/-- The Position Tracker at a seat (R148, steps 1 to 5): the count zeroed with the window's start count, the flag
set, the reasons removed, and the cross-check made again. -/
def referenceAtSeat (s : State) : State :=
  let s1 := s.setPos { s.pos with
    count := 0, windowStart := s.pos.windowStart - s.pos.count, referenced := true, reasons := Reasons.empty }
  if strokeDisagrees s1 then s1.setPos { s1.pos with reasons := s1.pos.reasons.add .mismatch } else s1

/-- A seat (R125, R148): the tracker, the seat record, the end of the move, STOPPING; then the end of suspect, or the
onset that a MISMATCH of step 5 brings (notes/assumptions/18.md); either handing falls during the braking. The safe seat
has ended at the recognition, before its braking has: the model's choice (DESIGN CHOICE, notes/assumptions/50.md). -/
def recogniseSeat (s : State) : State :=
  let s1 := referenceAtSeat s
  let s2 := if position s1 ≠ position s ∧ 20 ≤ gap (position s1) s1.pos.lastReported then noteOccasion s1 else s1
  let s3 := enterStopping .goal (moveEnded (s2.setDrive { s2.drive with
    seatRecord := some (position s2)
    safePhase := if s2.drive.safePhase = .seating then .ended else s2.drive.safePhase }))
  if suspect s && !suspect s3 then endSuspect s3
  else if !suspect s && suspect s3 && acting s3 != none then handGoal s3
  else s3

/-- An obstruction (R129): the retry count rises by one and never exceeds the retry limit plus one
(notes/assumptions/32.md). -/
def recogniseObstruction (s : State) : State :=
  let s1 := s.setDrive { s.drive with retry := min (s.cfg.retryLimit + 1) (s.drive.retry + 1) }
  match s.drive.dir with
  | some .opening => enterStopping .verdict s1
  | _ => enterStopping .backoff s1

/-- A stall or over-current classified by where the drive stands (R128). -/
def detection (s : State) : State :=
  match s.drive.state with
  | .seating => recogniseSeat s
  | .backoff => enterStopping .verdict s
  | .ramp => movingDetection s
  | .travel => movingDetection s
  | .approach => movingDetection s
  | _ => s
where
  /-- In RAMP, TRAVEL and APPROACH: a seat when closing at or below the seat band, otherwise an obstruction. -/
  movingDetection (s : State) : State :=
    if s.drive.dir = some .closing ∧ s.pos.count ≤ (s.cfg.seatBand : Int) then recogniseSeat s
    else recogniseObstruction s

/-- A supply reading at this NT (R113, R128): the sag timer and the over-current timer started or cleared. -/
def readSupply (s : State) : State :=
  if !energised s then s
  else
    let s1 := if s.safe then s
      else if s.pins.supply < s.cfg.sagThreshold then
        s.setSupply { s.supply with sagTimer := some (s.supply.sagTimer.getD s.nt) }
      else s.setSupply { s.supply with sagTimer := none }
    if !due s1.nt s1.drive.checkStart then s1
    else if currentLimit s1 < s1.pins.current then
      s1.setDrive { s1.drive with ocTimer := some (s1.drive.ocTimer.getD s1.nt) }
    else s1.setDrive { s1.drive with ocTimer := none }

/-! ### The safe seat (R163) -/

/-- The safe seat begins: in the safe profile, after LISTEN, with service hold off and the drive at rest. -/
def beginSafeSeat (s : State) : State :=
  if s.safe && !s.listen && !s.levels.serviceHold && s.drive.safePhase == .notBegun && s.drive.state == .idle &&
      !s.drive.controlledStop then
    moveDrive { s.drive.cleared with
      state := .warning, safePhase := .warning, pattern := some .warn, patternStart := s.nt
      warningDl := some (after s.nt 3000) } s
  else s

/-- The safe seat's entry into SEATING (R163, step 2). -/
def enterSafeSeating (s : State) : State :=
  moveDrive { s.drive.cleared with
    state := .seating, safePhase := .seating, dir := some .closing, duty := 90
    checkStart := some (after s.nt 300), safeSeatDl := some (after s.nt 120000)
    pattern := movingPattern s, patternStart := s.nt } s

/-- A key-on during the safe seat ends it (R163). Which continuation the braking of its SEATING records, neither R163 nor
Figure 7-3 says; GOAL is the model's choice (notes/assumptions/47.md). A key-on in the braking after the recognised seat
or the safe-seat deadline falls after the seat and ends nothing: the model's choice too (DESIGN CHOICE,
notes/assumptions/50.md). -/
def interruptSafeSeat (s : State) : State :=
  match s.drive.safePhase with
  | .warning => enterIdle (s.setDrive { s.drive with safePhase := .notBegun })
  | .seating => enterStopping .goal (s.setDrive { s.drive with safePhase := .notBegun })
  | _ => s

/-! ### Commissioning window (R156) -/

/-- A queued RECORD leaves the queue and one in transmission is cut off, the line released at once (R35, safe
profile). -/
def Line.cutRecord (l : Line) : Line :=
  let cut : Bool := match l.inFlight with
    | none => false
    | some f => f.kind == .record
  { l with
    queue := l.queue.filter fun e => e.kind != .record
    inFlight := if cut then none else l.inFlight
    driven := if cut then 0 else l.driven }

/-- The commissioning window closes (R156), its deadline none (notes/assumptions/37.md); in the safe profile a reply not
yet sent is lost (R35). -/
def closeWindow (s : State) : State :=
  let s1 := s.setStore ⟨false, none, none, false⟩
  if s1.safe then s1.setLine s1.line.cutRecord else s1

/-- The window is to close: at once, or at the completion of a write in progress (R156), the deadline none meanwhile
(notes/assumptions/37.md). -/
def endWindow (s : State) : State :=
  if !s.store.isOpen then s
  else if s.store.writing.isSome then s.setStore { s.store with closePending := true, deadline := none }
  else closeWindow s

/-- A reply of the Store (R156, Figure 2-12), its window state being the present one. -/
def reply (index value : Nat) (status : Status) (s : State) : State :=
  place .record .routine (recordPayload index value status (windowBits s) s.safe) s

/-! ### Arrivals (R39 to R41) -/

/-- An arrival from another source refreshes the last-heard-other time (R41). -/
def hearOther (s : State) : State :=
  s.setLine { s.line with lastHeard := s.nt, isolationDl := after s.nt 60000, isolated := false }

/-- A telegram received (R23 to R25, R39) that is the command's own (`mine`: its kind, and its action or
operation): discarded or an echo without trace; otherwise it refreshes the last-heard-other time and is taken. -/
def arrival (mine : Frame → Bool) (bits : List Bool) (take : Frame → State → State) (s : State) : State :=
  match receive bits with
  | none => s
  | some f => if mine f && f.source.toNat != lineId s then take f (hearOther s) else s

/-- A telegram of a kind. -/
def ofKind (k : Kind) (f : Frame) : Bool := f.kind == k.code

/-- A REQUEST of an action (Figure 2-10). -/
def ofAction (action : Nat) (f : Frame) : Bool := ofKind .request f && requestAction f.payload == action

/-- A CONFIGURE of an operation (Figure 2-11). -/
def ofOperation (operation : Nat) (f : Frame) : Bool :=
  ofKind .configure f && configureOperation f.payload == operation

/-- A REQUEST of an action received: handed on when it is addressed to the node (R40), in the safe profile discarded
by the Level Controller (R96). -/
def requestArrival (action : Nat) (bits : List Bool) (take : Frame → State → State) (s : State) : State :=
  arrival (ofAction action) bits (fun f s => if requestAddressed f.payload s && !s.safe then take f s else s) s

/-- A CONFIGURE of an operation received: handed on when its target is the line id (R40). -/
def configureArrival (operation : Nat) (bits : List Bool) (take : Frame → State → State) (s : State) : State :=
  arrival (ofOperation operation) bits (fun f s => if configureTarget f.payload = lineId s then take f s else s) s

/-! ### The end of every command -/

/-- The items the blocks mirror into the Retained Record (R97, R153). -/
def mirrored (s : State) : RecordItems :=
  { count := s.pos.count, referenced := s.pos.referenced, reasons := s.pos.reasons,
    inMotion := s.drive.state.inMotion, storm := s.levels.storm != .quiet, rain := s.levels.rain != .quiet }

/-- The Retained Record renewed (R159). -/
def renewRecord (s : State) : State := s.setRetained (renewed (mirrored s) s.retained.lossLatch)

/-- The fields a change of which places a STATE (R38, occasion 2). -/
def reportedFields (s : State) : Motion × Option Level × Bool × Bool × Bool × Bool :=
  (motion s, acting s, suspect s, s.drive.state == .blocked, s.levels.serviceHold, s.supply.running)

/-- The end of a command: outside the safe profile one STATE for all the occasions it brought (R38), and the
Retained Record renewed (R159). -/
def commit (before after : State) : State :=
  let s := if !after.safe && (after.occasion || decide (reportedFields before ≠ reportedFields after)) then
      placeState after else after
  renewRecord (s.setOccasion false)

/-- A command of a node with logic supply: `f` and the end of the command. Without logic supply every block has
ceased (R165) and nothing happens. -/
def live (f : State → State) (s : State) : State := if s.power then commit s (f s) else s

/-- A command that happens only when its time has come; otherwise it is no event and nothing changes
(notes/assumptions/5.md). -/
def liveWhen (test : State → Bool) (f : State → State) (s : State) : State :=
  if s.power && test s then commit s (f s) else s

/-! ### Starts (R160, R161) and the loss of power (R165) -/

/-- The start sequence (R160): NT 0, the configuration loaded, the record initialised or restored, every block at its
start values, LISTEN. What is kept: the stored fields, the pins, what pins and other stations will bring, and the queue of
commands; the first millisecond begins at the start. -/
def startSequence (kind : StartKind) (s : State) : State :=
  let loaded := loadConfig s.stored
  let cfg := loaded.1
  let safe := loaded.2
  let old := s.retained.items
  let items := match kind with
    | .cold => coldItems
    | .warm => restoredItems old cfg.stroke
    | .restart => restoredItems { old with inMotion := false } cfg.stroke
  let storm := items.storm && !safe
  let rain := items.rain && !safe
  { power := true, nt := 0, served := false, listen := true, safe := safe, cfg := cfg, stored := s.stored, store := startStore,
    retained := renewed { items with storm := storm, rain := rain } (if kind = .cold then false else s.retained.lossLatch),
    sensor := startSensor, line := startLine, peers := [],
    weather := startWeather cfg (if safe then 0 else cfg.id) storm rain, levels := startLevels storm rain,
    supply := startSupply, drive := startDrive, pos := startTracker items cfg.stroke s.pins.hall,
    pins := s.pins, pinFeed := s.pinFeed, lineFeed := { s.lineFeed with left := 1000 }, occasion := false, freeIx := s.freeIx, pending := s.pending }

/-- The stored fields after a loss of power: a field whose write was cut short holds an unknown mixture of its old and new
bits (R157), which bits being free. That mixture may be, or be corrected to, a third valid value, which R157's last
sentence does not name: the model follows the unknown mixture (DESIGN CHOICE, notes/assumptions/9.md). -/
def cutWrite (s : State) : State :=
  match s.store.writing with
  | none => s
  | some w =>
    match s.stored[w.index]? with
    | none => s
    | some old =>
      let new := encodeField w.value
      let mask := Config.oldBits s.freeIx
      let mixed := ((old.value ++ old.check) &&& mask) ||| ((new.value ++ new.check) &&& ~~~mask)
      (s.setStored (s.stored.set w.index ⟨mixed.extractLsb' 6 16, mixed.extractLsb' 0 6⟩)).setFreeIx (s.freeIx + 1)

/-- The record after a loss of power inside a renewal: the check byte disagrees with the fifteen others (R159);
how it differs is free. -/
def tearRecord (s : State) : State :=
  let wrong := if Config.tornCheck s.freeIx = 0 then 1 else Config.tornCheck s.freeIx
  (s.setRetained { s.retained with check := recordCheck s.retained.items ^^^ wrong }).setFreeIx (s.freeIx + 1)

/-- The logic supply falls out of regulation (R165): every block ceases, the line is released. -/
def losePower (duringRenewal : Bool) (s : State) : State :=
  let s1 := cutWrite s
  let s2 := if duringRenewal then tearRecord s1 else s1
  let s3 := s2.setLine { s2.line with inFlight := none, driven := 0 }
  (s3.setStore { s3.store with writing := none }).setPower false

end Sys2Proof.Machine
end

