-- ==== Sys2Proof/Machine/PositionCommands.lean ====
section
/-! DEFINITION. Chapter 8: Hall steps and skips, the Hall floor, velocity windows and the cross-check. -/

namespace Sys2Proof.Machine

/-- One channel of the Hall pair has changed (R142). -/
def oneChannel (held pair : HallPair) : Bool := pair == hallNext held || held == hallNext pair

/-- Both channels of the Hall pair have changed (R142). -/
def bothChannels (held pair : HallPair) : Bool := pair == ~~~held

/-- The count a step would give (R142). -/
def steppedCount (held pair : HallPair) (count : Int) : Int := if pair = hallNext held then count + 1 else count - 1

/-- A step (R142 to R144): kept within the bounds, with OVERRANGE on reaching one or at a step discarded there. -/
def takeStep (pair : HallPair) (s : State) : State :=
  let n := steppedCount s.pos.hall pair s.pos.count
  let s1 := (s.setPins { s.pins with hall := pair }).setPos { s.pos with hall := pair }
  if n < -1024 ∨ (s.cfg.stroke : Int) + 1024 < n then addReason .overrange s1
  else
    let s2 := countChanged (position s) (s1.setPos { s1.pos with count := n })
    if n = -1024 ∨ n = (s.cfg.stroke : Int) + 1024 then addReason .overrange s2 else s2

/-- A Hall pair that comes without logic supply: Hall sampling has ended and the motor coasts uncounted (R165). Only the
level at the pins changes, which the next start takes as its first sample (R142, R154, notes/assumptions/33.md). -/
def coast (pair : HallPair) (s : State) : State := s.setPins { s.pins with hall := pair }

/-- Both channels changed at once (R142): the count is left as it was and HALL_SKIP is added. -/
def takeSkip (pair : HallPair) (s : State) : State :=
  addReason .hallSkip ((s.setPins { s.pins with hall := pair }).setPos { s.pos with hall := pair })

/-- HALL_STEP (R142). -/
def execHallStep (pair : HallPair) (s : State) : Host.Outcome State Fault Refusal :=
  .next (if s.power then liveWhen (fun s => oneChannel s.pos.hall pair) (takeStep pair) s else coast pair s)

/-- HALL_SKIP (R142). -/
def execHallSkip (pair : HallPair) (s : State) : Host.Outcome State Fault Refusal :=
  .next (if s.power then liveWhen (fun s => bothChannels s.pos.hall pair) (takeSkip pair) s else coast pair s)

/-- SUPPLY_BELOW_HALL_FLOOR (R146): SAG_IN_MOTION is added; the same reading is one of R113's. -/
def execSupplyBelowHallFloor (reading : Nat) (s : State) : Host.Outcome State Fault Refusal :=
  .next (liveWhen (belowHallFloor reading) (fun s =>
    addReason .sagInMotion (readSupply (s.setPins { s.pins with supply := reading }))) s)

/-- The stall run after a velocity window (R128): windows that began at or after the check start count. -/
def stallRunAfter (velocity : Nat) (s : State) : Nat :=
  if energised s && due s.pos.windowBegin s.drive.checkStart then
    (if velocity < stallSpeed s then s.drive.stallRun + 1 else 0)
  else s.drive.stallRun

/-- A velocity window ends (R152), and its velocity is handed to the stall test (R128). -/
def takeVelocity (s : State) : State :=
  let v := (s.pos.count - s.pos.windowStart).natAbs
  let run := stallRunAfter v s
  let s1 := (s.setPos { s.pos with velocity := v, windowStart := s.pos.count, windowBegin := s.nt }).setDrive
    { s.drive with stallRun := run }
  if energised s && decide (3 ≤ run) then detection s1 else s1

/-- VELOCITY_WINDOW_END (R152). -/
def execVelocityWindowEnd (s : State) : Host.Outcome State Fault Refusal :=
  .next (liveWhen velocityEnds takeVelocity s)

/-- CROSS_CHECK_DEADLINE (R151): the comparison, and the deadline set again. -/
def execCrossCheckDeadline (stroke : BitVec 12) (s : State) : Host.Outcome State Fault Refusal :=
  .next (liveWhen crossCheckDue (fun s =>
    compareAtRest ((s.setPins { s.pins with stroke := stroke }).setPos
      { s.pos with crossCheckDl := some (after s.nt 10000) })) s)

end Sys2Proof.Machine
end

