-- ==== Sys2Proof/Machine/Clock.lean ====
section
/-! DEFINITION. The node's own clock: what happens on an empty queue (notes/assumptions/1.md). -/

namespace Sys2Proof.Machine

/-- One command when its test holds. -/
def issue (test : Bool) (c : Instr) : List Instr := if test then [c] else []

/-- The readings of this millisecond (R113, R128, R146) and the Hall sample (R142). -/
def dueReadings (s : State) : List Instr :=
  issue (belowHallFloor s.pins.supply s) (.supplyBelowHallFloor s.pins.supply)
  ++ issue (overCurrentDue s) .overCurrent
  ++ issue (sagDue s) .sag
  ++ issue (oneChannel s.pos.hall s.pins.hall) (.hallStep s.pins.hall)
  ++ issue (bothChannels s.pos.hall s.pins.hall) (.hallSkip s.pins.hall)

/-- The samples and windows of this millisecond (R3, R52, R152). -/
def dueSamples (s : State) : List Instr :=
  issue (gridDue s) (.gridSample s.pins.grid)
  ++ issue (buttonsDue s) (.buttonSample s.pins.openDown s.pins.closeDown)
  ++ issue (keyDue s) (.keySample s.pins.keyOn)
  ++ issue (velocityEnds s) .velocityWindowEnd
  ++ issue (windowEnds s) (.windowEnd s.pins.vane)
  ++ issue (scanDue s) .peerScan

/-- The sources of the peer entries that have aged (R104). -/
def agedSources (s : State) : List (BitVec 6) :=
  (s.supply.entries.filter (entryAged s)).map fun e => BitVec.ofNat 6 e.source

/-- The deadlines of the drive that have passed. -/
def dueDrive (s : State) : List Instr :=
  issue (warningDue s) .warningDeadline
  ++ issue (rampStepDue s) .rampStep
  ++ issue (stopDue s) .stopDeadline
  ++ issue (seatTimeoutDue s) .seatTimeout
  ++ issue (safeSeatDue s) .safeSeatDeadline
  ++ issue (backoffDue s) .backoffDeadline
  ++ issue (retryDue s) .retryDeadline
  ++ issue (sagHoldoffDue s) .sagHoldoffDeadline
  ++ issue (refuseEnds s) .refuseEnd
  ++ issue (crossCheckDue s) (.crossCheckDeadline s.pins.stroke)

/-- The completion of the write in progress; the memory gives back what was written. -/
def dueWrite (s : State) : List Instr :=
  match s.store.writing with
  | none => []
  | some w => issue (writeDue s) (.writeComplete (encodeField w.value).value (encodeField w.value).check)

/-- The other deadlines that have passed. -/
def dueDeadlines (s : State) : List Instr :=
  issue (listenEnds s) .listenEnd
  ++ issue (demandExpires s) .demandExpiry
  ++ issue (isolationDue s) .isolationDeadline
  ++ issue (periodicDue s) .periodicObserveDeadline
  ++ issue (holdoffPassed s) .immediateHoldoffExpiry
  ++ issue (runningRefreshDue s) .runningRefreshDeadline
  ++ (agedSources s).map .intentEntryAged
  ++ issue (settleDue s) .settleDeadline
  ++ issue (intentRefreshDue s) .intentRefreshDeadline
  ++ dueDrive s
  ++ dueWrite s
  ++ issue (windowDeadlineDue s) .commissioningWindowDeadline

/-- The commands due at this NT, in the order in which the clock issues them. A WINDOW_END carries its whole
assessment tick, so START_WINDOW_END, STORM_EXPIRY and RAIN_EXPIRY are not issued beside it
(notes/assumptions/12.md). -/
def dueCommands (s : State) : List Instr := dueReadings s ++ dueSamples s ++ dueDeadlines s

/-- The command that takes a telegram at its telegram end (R25, R39, R40, Figure 2-16): none for a discarded one and for
an echo. -/
def arrivalCommand (s : State) (bits : List Bool) : Option Instr :=
  match receive bits with
  | none => none
  | some f =>
    if f.source.toNat = lineId s then none
    else match Kind.ofCode f.kind with
      | none => none
      | some .intent => some (.intentArrival bits)
      | some .withdraw => some (.withdrawArrival bits)
      | some .state => some (.stateArrival bits)
      | some .observe => some (.observeArrival bits)
      | some .record => some (.recordArrival bits)
      | some .request =>
        if !handedOn f s then some (.arrivalNotHandedOn bits)
        else if requestAction f.payload = 0 then some (.requestOpenTo bits)
        else if requestAction f.payload = 1 then some (.requestClose bits)
        else if requestAction f.payload = 2 then some (.requestStop bits)
        else if requestAction f.payload = 3 then some (.requestRelease bits)
        else some (.requestRestart bits)
      | some .configure =>
        if !handedOn f s then some (.arrivalNotHandedOn bits)
        else if configureOperation f.payload = 0 then some (.configureOpen bits)
        else if configureOperation f.payload = 1 then some (.configureWrite bits)
        else some (.configureRead bits)

/-- The command that ends the transmission in progress, by the bits read back (R28, R29, R34). -/
def outcomeCommand (s : State) : Option Instr :=
  match s.line.inFlight with
  | none => none
  | some f => match readBack f.frame.bits f.read with
    | .ongoing => none
    | .lost => some (.transmissionLost f.read)
    | .clash => some (.identityClash f.read)
    | .completed => some (.transmissionComplete f.read)

/-! ### The line within a millisecond (notes/assumptions/4.md) -/

/-- The bit that the node's own transmission begins at the next falling edge (R21): one for each edge since its start
edge, sampled or not. -/
def Line.nextBit (l : Line) : Option Bool :=
  match l.inFlight with
  | none => none
  | some f => f.frame.bits[f.read.length + l.samples.length]?

/-- The line after so many µs in which nothing happens on it. -/
def Line.pass (t : Nat) (l : Line) : Line :=
  { l with assembly := l.assembly.pass t, samples := l.samples.map (· + t), driven := l.driven - t }

/-- The line after a falling edge (R21, R22, R23): it is to be sampled, and the node's own next bit begins with it,
whoever made it. -/
def Line.fall (l : Line) : Line :=
  { l with
    assembly := l.assembly.fall l.samples.length
    samples := l.samples ++ [0]
    driven := match l.nextBit with
      | none => l.driven
      | some b => pulseWidth b }

/-- The line after the sample of its oldest falling edge (R21, R22): the assembly takes it, and the transmission in
progress reads it back. A first bit 1 abandons the assembly and with it the edges that came since (R23). -/
def Line.sample (read : Bool) (l : Line) : Line :=
  let a := l.assembly.sample read
  { l with
    assembly := a
    samples := if a = .absent a.quiet then [] else l.samples.tail
    inFlight := l.inFlight.map fun f => { f with read := f.read ++ [read] } }

/-- What happens on the line at one µs. -/
inductive LineEvent where
  /-- The assembly ends by itself (R22, R23), or a node that waits to begin finds the line idle (R27). -/
  | stop
  /-- The oldest falling edge is 40 µs old: its sample (R22). -/
  | sample
  /-- Another station begins a pulse, or the node's own next bit begins (R21). -/
  | begin
  deriving DecidableEq, Repr

/-- The µs until the assembly ends by itself; with none in progress and a telegram to send, until the line is idle. -/
def stopIn (s : State) : Option Nat :=
  match s.line.assembly with
  | .absent q => if hasToSend s then some (max (320 - q) (max s.line.driven s.lineFeed.held)) else none
  | a => a.stopIn

/-- The µs until the next sample (R22). -/
def sampleIn (s : State) : Option Nat := s.line.samples.head?.map (40 - ·)

/-- The µs until the node's own next bit begins (R21): 80 after the last falling edge. -/
def ownBitIn (s : State) : Option Nat := s.line.nextBit.map fun _ => 80 - s.line.assembly.quiet

/-- The µs until another station begins a pulse. -/
def pulseIn (s : State) : Option Nat := s.lineFeed.pulses.head?.map Pulse.wait

/-- The earlier of two events; of two at one µs the first. -/
def earlier : Option (Nat × LineEvent) → Option (Nat × LineEvent) → Option (Nat × LineEvent)
  | none, b => b
  | a, none => a
  | some a, some b => if b.1 < a.1 then some b else some a

/-- The next event of the line and the µs until it. Of events at one µs an end of the assembly or the idle line comes
first, then a sample, then a begin of a pulse, which is the model's choice (DESIGN CHOICE, notes/assumptions/4.md): an
edge exactly 160 µs after the last one of an unfinished assembly, or 240 after that of a whole one, begins the next, and
a pulse that begins 40 µs after an edge comes after its sample. -/
def nextEvent (s : State) : Option (Nat × LineEvent) :=
  earlier ((stopIn s).map (·, .stop)) (earlier ((sampleIn s).map (·, .sample))
    (earlier ((ownBitIn s).map (·, .begin)) ((pulseIn s).map (·, .begin))))

/-- So many µs pass in which nothing happens on the line. -/
def passTime (t : Nat) (s : State) : State :=
  (s.setLine (s.line.pass t)).setLineFeed
    ⟨s.lineFeed.left - t, s.lineFeed.held - t, sooner t s.lineFeed.pulses⟩

/-- The assembly ends by itself; a telegram that ends is taken as its arrival command (R22, R23, R40). -/
def endAssembly (s : State) : State :=
  (s.setLine { s.line with assembly := .rest s.line.assembly.quiet }).setPending
    (s.line.assembly.ended.toList.filterMap (arrivalCommand s))

/-- The line is sampled, 40 µs after its falling edge (R21, R22); an outcome that the sample decides is taken as its
command. -/
def takeSample (s : State) : State :=
  let t := s.setLine (s.line.sample (!lineDominant s))
  t.setPending (outcomeCommand t).toList

/-- The other stations' pulse that begins now, if any: its length. -/
def pulseNow (s : State) : Option Nat :=
  match s.lineFeed.pulses with
  | [] => none
  | p :: _ => if p.wait = 0 then some p.width else none

/-- Pulses begin: of the other stations', of the node's own next bit, or of both. The line falls where it was recessive;
that the begin of the own bit counts as a falling edge where another station holds the line by then is the model's
choice (DESIGN CHOICE, notes/assumptions/4.md). -/
def beginPulses (s : State) : State :=
  let falls := ownBitIn s == some 0 || (decide (0 < (pulseNow s).getD 0) && !lineDominant s)
  let t := match pulseNow s with
    | none => s
    | some width => s.setLineFeed ⟨s.lineFeed.left, max s.lineFeed.held width, s.lineFeed.pulses.tail⟩
  if falls then t.setLine s.line.fall else t

/-- An event of the line. -/
def happen (e : LineEvent) (s : State) : State :=
  match e with
  | .stop => endAssembly s
  | .sample => takeSample s
  | .begin => beginPulses s

/-- The rest of a millisecond passes: NT rises by one, the pins take their next levels, the supply is read. -/
def millisecond (s : State) : State :=
  let s1 := passTime s.lineFeed.left s
  let s2 := (s1.setLineFeed { s1.lineFeed with left := 1000 }).setPins (s1.pinFeed.headD s1.pins)
  readSupply (((s2.setPinFeed s2.pinFeed.tail).setNt (s2.nt + 1)).setServed false)

/-- A millisecond without logic supply: every block has ceased and NT stands (R165). Outside, the pins take their next
levels, those of the Hall pins while a motor coasts among them, and the line goes unheard (notes/assumptions/33.md). -/
def darkMillisecond (s : State) : State :=
  let feed := unwatched s.lineFeed.left s.lineFeed.held s.lineFeed.pulses
  ((s.setPins (s.pinFeed.headD s.pins)).setPinFeed s.pinFeed.tail).setLineFeed ⟨1000, feed.1, feed.2⟩

/-- The node's time until the next event of its line, or to the end of the millisecond; an event at the very µs at which
NT rises comes after it. -/
def runLine (s : State) : State :=
  match nextEvent s with
  | none => millisecond s
  | some (t, e) => if t < s.lineFeed.left then happen e (passTime t s) else millisecond s

/-- The clock on an empty queue: the commands due at this NT are issued once; a restart whose drive has come to rest
starts at once (R162), and a transmission begins at once on an idle line (R27); then time goes on. Without logic supply
nothing is issued and NT does not advance (R165). -/
def tick (s : State) : State :=
  if !s.power then darkMillisecond s
  else if !s.served then (s.setServed true).setPending (dueCommands s)
  else if restartReady s then s.setPending [.restartStart]
  else if mayTransmit s then s.setPending [.transmissionStart]
  else runLine s

end Sys2Proof.Machine
end

