-- ==== Sys2Proof/Machine/CommissioningCommands.lean ====
section
/-! DEFINITION. Chapter 9: the commissioning window, writes and reads. -/

namespace Sys2Proof.Machine

/-- The window deadline renewed (R156). -/
def renewWindow (s : State) : State := s.setStore { s.store with deadline := some (after s.nt 600000) }

/-- A CONFIGURE taken (R156): with the window closed it is `closed`; with a write in progress the answer is BUSY;
otherwise the deadline is renewed and `perform` is done. -/
def takeConfigure (closed perform : Nat → State → State) (index : Nat) (s : State) : State :=
  if !s.store.isOpen then closed index s
  else if s.store.writing.isSome then reply index 0 .busy (renewWindow s)
  else perform index (renewWindow s)

/-- OPEN with the window closed (R156). -/
def openWindow (index : Nat) (s : State) : State :=
  if keyIsOn s then reply index 0 .ok (s.setStore ⟨true, some (after s.nt 600000), none, false⟩)
  else reply index 0 .closed s

/-- CONFIGURE_OPEN (R156). -/
def execConfigureOpen (bits : List Bool) (s : State) : Host.Outcome State Fault Refusal :=
  .next (live (configureArrival 0 bits fun f s =>
    takeConfigure openWindow (fun i s => reply i 0 .ok s) (configureIndex f.payload) s) s)

/-- A WRITE in the open window (R157). -/
def beginWrite (value : Nat) (index : Nat) (s : State) : State :=
  match s.stored[index]? with
  | none => reply index 0 .badField s
  | some old =>
    if inRange index value then
      s.setStore { s.store with writing := some ⟨index, BitVec.ofNat 16 value, after s.nt 30⟩ }
    else reply index old.value.toNat .outOfRange s

/-- CONFIGURE_WRITE (R157). -/
def execConfigureWrite (bits : List Bool) (s : State) : Host.Outcome State Fault Refusal :=
  .next (live (configureArrival 1 bits fun f s =>
    takeConfigure (fun i s => reply i 0 .closed s) (beginWrite (configureValue f.payload))
      (configureIndex f.payload) s) s)

/-- A READ in the open window (R158). -/
def readField (index : Nat) (s : State) : State :=
  match s.stored[index]? with
  | none => reply index 0 .badField s
  | some f => reply index (checkField f).1.toNat (checkField f).2 s

/-- CONFIGURE_READ (R158). -/
def execConfigureRead (bits : List Bool) (s : State) : Host.Outcome State Fault Refusal :=
  .next (live (configureArrival 2 bits fun f s =>
    takeConfigure (fun i s => reply i 0 .closed s) readField (configureIndex f.payload) s) s)

/-- The completion of a write (R157): the field holds what the read-back gives, the reply says whether that is what
was written, and a closing of the window that waited takes place. -/
def completeWrite (read : StoredField) (s : State) : State :=
  match s.store.writing with
  | none => s
  | some w =>
    let s1 := (s.setStored (s.stored.set w.index read)).setStore { s.store with writing := none }
    let s2 := reply w.index read.value.toNat (if read = encodeField w.value then .ok else .writeFailed) s1
    if s.store.closePending then closeWindow s2 else s2

/-- WRITE_COMPLETE (R157). -/
def execWriteComplete (value : BitVec 16) (check : BitVec 6) (s : State) : Host.Outcome State Fault Refusal :=
  .next (liveWhen writeDue (completeWrite ⟨value, check⟩) s)

/-- COMMISSIONING_WINDOW_DEADLINE (R156). -/
def execCommissioningWindowDeadline (s : State) : Host.Outcome State Fault Refusal :=
  .next (liveWhen windowDeadlineDue endWindow s)

end Sys2Proof.Machine
end

