-- ==== Sys2Proof/Machine/DriveCommands.lean ====
section
/-! DEFINITION. Chapter 7: the deadlines of the drive, its detections, the running refresh and the end of REFUSE. -/

namespace Sys2Proof.Machine

/-- WARNING_DEADLINE (R122): RAMP, or the SEATING of the safe seat (R163). -/
def execWarningDeadline (s : State) : Host.Outcome State Fault Refusal :=
  .next (liveWhen warningDue (fun s =>
    if s.drive.safePhase = .warning then enterSafeSeating s else enterRamp s) s)

/-- A ramp step (R123): the duty raised, never above the travel duty. -/
def takeRampStep (s : State) : State :=
  rampToTravel (s.setDrive { s.drive with
    duty := min s.cfg.travelDuty (s.drive.duty + s.cfg.rampStep)
    rampStepDl := s.drive.rampStepDl.map fun d => after d 20 })

/-- RAMP_STEP (R123). -/
def execRampStep (s : State) : Host.Outcome State Fault Refusal := .next (liveWhen rampStepDue takeRampStep s)

/-- The next state after a braking with the continuation GOAL or YIELD, `go` being what a goal that needs motion does
(Figure 7-3). After GOAL it enters RAMP also where a yield taken in BACKOFF has released the supply, so that there is no
admission to keep: the model's choice (DESIGN CHOICE, notes/assumptions/51.md). -/
def afterBraking (go : State → State) (s : State) : State :=
  match s.drive.goal with
  | none => enterIdle s
  | some g => if needsMotion g s then go s else enterIdle s

/-- The VERDICT (Figure 7-3, R136). -/
def verdict (s : State) : State :=
  if s.drive.goal = none then enterIdle s
  else if s.cfg.retryLimit < s.drive.retry then enterBlocked s
  else if s.drive.yieldMark then waitOrIdle s
  else enterRetryWait s

/-- The end of a braking for sag (Figure 7-3, R137). -/
def afterSag (s : State) : State :=
  if s.drive.goal = none then enterIdle s
  else if s.drive.obstructionPending && decide (s.cfg.retryLimit < s.drive.retry) then enterBlocked s
  else enterSagWait s

/-- The braking ends (R127, Figure 7-3). GOAL leads to RAMP with whatever admission the drive then has, NONE after a yield
taken in BACKOFF: the model's choice (DESIGN CHOICE, notes/assumptions/51.md). -/
def endBraking (s : State) : State :=
  match s.drive.continuation with
  | some .goal => afterBraking enterRamp s
  | some .backoff => if s.drive.goal = none then enterIdle s else enterBackoff s
  | some .verdict => verdict s
  | some .sag => afterSag s
  | some .yield => afterBraking enterWaitSlot s
  | some .halt => enterIdle s
  | none => enterIdle s

/-- STOP_DEADLINE (R127); in the safe profile a safe seat that a key-off called for begins from IDLE (R163). -/
def execStopDeadline (s : State) : Host.Outcome State Fault Refusal :=
  .next (liveWhen stopDue (fun s => beginSafeSeat (endBraking s)) s)

/-- SEAT_TIMEOUT (R126): the seat record, SEAT_UNCONFIRMED, the end of the move, STOPPING. -/
def execSeatTimeout (s : State) : Host.Outcome State Fault Refusal :=
  .next (liveWhen seatTimeoutDue (fun s =>
    enterStopping .goal (moveEnded (addReason .seatUnconfirmed
      (s.setDrive { s.drive with seatRecord := some (position s) })))) s)

/-- BACKOFF_DEADLINE (R130). -/
def execBackoffDeadline (s : State) : Host.Outcome State Fault Refusal :=
  .next (liveWhen backoffDue (enterStopping .verdict) s)

/-- RETRY_DEADLINE (R131). -/
def execRetryDeadline (s : State) : Host.Outcome State Fault Refusal := .next (liveWhen retryDue waitOrIdle s)

/-- SAG_HOLDOFF_DEADLINE (R137). -/
def execSagHoldoffDeadline (s : State) : Host.Outcome State Fault Refusal := .next (liveWhen sagHoldoffDue waitOrIdle s)

/-- OVER_CURRENT (R128). -/
def execOverCurrent (s : State) : Host.Outcome State Fault Refusal := .next (liveWhen overCurrentDue detection s)

/-- REFUSE_END (R139). -/
def execRefuseEnd (s : State) : Host.Outcome State Fault Refusal :=
  .next (liveWhen refuseEnds (fun s => s.setDrive { s.drive with refuseUntil := none }) s)

/-- RUNNING_REFRESH_DEADLINE (R38): a STATE is placed. -/
def execRunningRefreshDeadline (s : State) : Host.Outcome State Fault Refusal :=
  .next (liveWhen runningRefreshDue noteOccasion s)

end Sys2Proof.Machine
end

