-- ==== Sys2Proof/Machine/LevelCommands.lean ====
section
/-! DEFINITION. Chapter 5: the REQUESTs of line stations and the demand expiry. -/

namespace Sys2Proof.Machine

/-- DEMAND_EXPIRY (R91). -/
def execDemandExpiry (s : State) : Host.Outcome State Fault Refusal :=
  .next (liveWhen demandExpires clearDemand s)

/-- REQUEST_OPEN_TO (R88). -/
def execRequestOpenTo (bits : List Bool) (s : State) : Host.Outcome State Fault Refusal :=
  .next (live (requestArrival 0 bits fun f s => takeDemand (demandAt (requestPosition f.payload) s) s) s)

/-- REQUEST_CLOSE (R88): the close notice is handed after any goal. -/
def execRequestClose (bits : List Bool) (s : State) : Host.Outcome State Fault Refusal :=
  .next (live (requestArrival 1 bits fun _ s => takeCloseNotice (takeDemand .seat s)) s)

/-- REQUEST_STOP (R90). -/
def execRequestStop (bits : List Bool) (s : State) : Host.Outcome State Fault Refusal :=
  .next (live (requestArrival 2 bits fun _ s => clearDemand s) s)

/-- REQUEST_RELEASE (R90). -/
def execRequestRelease (bits : List Bool) (s : State) : Host.Outcome State Fault Refusal :=
  .next (live (requestArrival 3 bits fun _ s => clearDemand s) s)

end Sys2Proof.Machine
end

