-- ==== Sys2Proof/Machine/LineCommands.lean ====
section
/-! DEFINITION. Chapter 2: transmissions and their outcomes, arrivals handed to no block, isolation. -/

namespace Sys2Proof.Machine

/-- The head of the queue begun on an idle line (R27, R35): its class, source and payload fixed at the start edge. The
start pulse is a falling edge, which begins the node's own assembly (R23) and is to be sampled (R21). -/
def startTransmission (s : State) : State :=
  match s.line.queue with
  | [] => s
  | e :: _ =>
    if mayTransmit s then
      s.setLine { s.line with
        inFlight := some ⟨e.kind, makeFrame e.cls e.kind (lineId s) e.payload, false, []⟩
        assembly := .reading [] 0, samples := [0], driven := pulseWidth false }
    else s

/-- TRANSMISSION_START (R27): a transmission begins if the line is idle then. -/
def execTransmissionStart (s : State) : Host.Outcome State Fault Refusal := .next (live startTransmission s)

/-- The queue after a transmission that did not complete: the entry stays, its replaced-in-flight mark cleared (R28,
R29, R34). -/
def keptQueue (f : InFlight) (q : List Queued) : List Queued :=
  q.map fun e => if e.kind = f.kind ∧ f.entryGone = false then { e with replaced := false } else e

/-- The queue after a completed transmission (R34): the entry leaves unless it was replaced in flight; an entry that
had left already is not touched. -/
def sentQueue (f : InFlight) (q : List Queued) : List Queued :=
  keptQueue f (q.filter fun e => f.entryGone || e.kind != f.kind || e.replaced)

/-- The line after a transmission that was lost or aborted: the node drives it no further (R28, R29). -/
def Line.released (l : Line) (f : InFlight) : Line :=
  { l with inFlight := none, driven := 0, queue := keptQueue f l.queue }

/-- A clash recorded (R30): old stamps removed, the present NT added, and with three the node becomes listen-only and
its queue empty. -/
def Line.clash (l : Line) (nt : Time) : Line :=
  let stamps := (l.clashes.filter fun t => decide (age nt t ≤ 60000)) ++ [nt]
  if 3 ≤ stamps.length then { l with clashes := stamps, listenOnly := true, queue := [] }
  else { l with clashes := stamps }

/-- A transmission that ends with a given read-back: lost (R28, and R29 for a line fault), a clash (R29, R30), or
complete (R34, R33). -/
def endTransmission (outcome : ReadBack) (read : List Bool) (s : State) : State :=
  match s.line.inFlight with
  | none => s
  | some f =>
    if readBack f.frame.bits read ≠ outcome then s
    else match outcome with
      | .ongoing => s
      | .lost => s.setLine (s.line.released f)
      | .clash => s.setLine ((s.line.released f).clash s.nt)
      | .completed =>
        s.setLine { s.line with
          inFlight := none
          queue := sentQueue f s.line.queue
          intentSent := match f.kind with
            | .intent => true
            | .withdraw => false
            | _ => s.line.intentSent }

/-- TRANSMISSION_LOST (R28). -/
def execTransmissionLost (read : List Bool) (s : State) : Host.Outcome State Fault Refusal :=
  .next (live (endTransmission .lost read) s)

/-- IDENTITY_CLASH (R29). -/
def execIdentityClash (read : List Bool) (s : State) : Host.Outcome State Fault Refusal :=
  .next (live (endTransmission .clash read) s)

/-- TRANSMISSION_COMPLETE (R34). -/
def execTransmissionComplete (read : List Bool) (s : State) : Host.Outcome State Fault Refusal :=
  .next (live (endTransmission .completed read) s)

/-- RECORD_ARRIVAL (R40, R41). -/
def execRecordArrival (bits : List Bool) (s : State) : Host.Outcome State Fault Refusal :=
  .next (live (arrival (ofKind .record) bits fun _ s => s) s)

/-- ARRIVAL_NOT_HANDED_ON (R40, R41): a REQUEST or CONFIGURE that no block takes. -/
def execArrivalNotHandedOn (bits : List Bool) (s : State) : Host.Outcome State Fault Refusal :=
  .next (live (fun s => arrival (fun f => (ofKind .request f || ofKind .configure f) && !handedOn f s) bits
    (fun _ s => s) s) s)

/-- ISOLATION_DEADLINE (R41). -/
def execIsolationDeadline (s : State) : Host.Outcome State Fault Refusal :=
  .next (liveWhen isolationDue (fun s => s.setLine { s.line with isolated := true }) s)

end Sys2Proof.Machine
end

