-- ==== Sys2Proof/Machine/Peers.lean ====
section
/-! DEFINITION. Chapter 3: the Peer Table, its arrivals and its scan. -/

namespace Sys2Proof.Machine

/-- The record of a source (R43). -/
def findPeer (src : Nat) (l : List PeerRecord) : Option PeerRecord := l.find? fun r => r.source == src

/-- A record put at its place in order of source id (R43). -/
def insertPeer (x : PeerRecord) : List PeerRecord → List PeerRecord
  | [] => [x]
  | y :: ys => if x.source < y.source then x :: y :: ys else y :: insertPeer x ys

/-- The older of two ORDINARY records by heard-at (R48). Two of one heard-at, which R48 says cannot be, leave the
first of them, the one of the lower id: the model's choice (notes/assumptions/39.md). -/
def olderOrdinary (nt : Time) (acc : Option PeerRecord) (r : PeerRecord) : Option PeerRecord :=
  if r.keep then acc
  else match acc with
    | none => some r
    | some a => if age nt a.heardAt < age nt r.heardAt then some r else some a

/-- The ORDINARY record with the oldest heard-at (R48). -/
def oldestOrdinary (nt : Time) (l : List PeerRecord) : Option PeerRecord := l.foldl (olderOrdinary nt) none

/-- The table without the record of a source (R53). -/
def withoutPeer (src : Nat) (l : List PeerRecord) : List PeerRecord := l.filter fun r => r.source != src

/-- A newcomer placed (R47, R48): into a table that is not full; into a full one when it is KEEP and an ORDINARY
record can be evicted. The table after it, and the notice of an eviction. -/
def placePeer (nt : Time) (x : PeerRecord) (l : List PeerRecord) : List PeerRecord × Option Notice :=
  if l.length < 24 then (insertPeer x l, none)
  else if x.keep then
    match oldestOrdinary nt l with
    | none => (l, none)
    | some old => (insertPeer x (withoutPeer old.source l), some (.removed old.source))
  else (l, none)

/-- The sources that may have a record (R43, R47). -/
def recordable (src : Nat) : Bool := src != 0 && src != 63

/-- A record changed in place, its keep class worked out again when the update asks for it (R44 to R46, R49). -/
def updatePeer (src : Nat) (f : PeerRecord → PeerRecord) (l : List PeerRecord) : List PeerRecord :=
  l.map fun r => if r.source = src then f r else r

/-- An OBSERVE or STATE brings a record up to date, or creates it (R45 to R48), `obs` and `st` being the part it
carries. A notice of an eviction is taken when the table is finished (notes/assumptions/15.md). Arrivals are taken from
NT 0 on (R40, R160), so the first scan may find records, where R57 says that it finds the table empty
(notes/assumptions/42.md). -/
def notePeer (src : Nat) (obs : Option Observation) (st : Option PeerState) (s : State) : State :=
  if !recordable src then s
  else match findPeer src s.peers with
    | some _ =>
      s.setPeers (updatePeer src (fun r =>
        { r with
          heardAt := s.nt, obs := obs.or r.obs, st := st.or r.st
          keep := keepOf s (obs.or r.obs) (st.or r.st) }) s.peers)
    | none =>
      let r := placePeer s.nt ⟨src, keepOf s obs st, s.nt, obs, st⟩ s.peers
      let s1 := s.setPeers r.1
      match r.2 with
      | none => s1
      | some n => takeNotice s1 n

/-- An INTENT or WITHDRAW renews a record's time of hearing (R49). -/
def hearPeer (src : Nat) (s : State) : State :=
  s.setPeers (updatePeer src (fun r => { r with heardAt := s.nt }) s.peers)

/-- OBSERVE_ARRIVAL (R45). -/
def execObserveArrival (bits : List Bool) (s : State) : Host.Outcome State Fault Refusal :=
  .next (live (arrival (ofKind .observe) bits fun f s =>
    notePeer f.source.toNat (some (observationOf f.payload s.nt)) none s) s)

/-! ### The scan (R52) -/

/-- A record older than 30,000 ms (R52). -/
def tooOld (nt : Time) (r : PeerRecord) : Bool := decide (30000 < age nt r.heardAt)

/-- An observation made STALE (R52). -/
def staleObs (nt : Time) (o : Observation) : Observation :=
  if o.fresh && decide (7000 < age nt o.observedAt) then { o with fresh := false } else o

/-- A running mark has aged (R52). -/
def markAged (nt : Time) (p : PeerState) : Bool := p.running && decide (7000 < age nt p.stateAt)

/-- A running mark cleared by age (R52). -/
def clearMark (nt : Time) (p : PeerState) : PeerState := if markAged nt p then { p with running := false } else p

/-- A record after the observation and running tests (R52). R54 says that nothing is aged where an arrival came first at
this NT; a part which that arrival did not renew, any part for an INTENT or a WITHDRAW, is aged here all the same, with
its notice: the model follows R52 (notes/assumptions/46.md). -/
def scanned (nt : Time) (r : PeerRecord) : PeerRecord :=
  { r with obs := r.obs.map (staleObs nt), st := r.st.map (clearMark nt) }

/-- The notice a record gives at a scan (R51 to R53). -/
def scanNotice (nt : Time) (r : PeerRecord) : Option Notice :=
  if tooOld nt r then some (.removed r.source)
  else match r.st with
    | none => none
    | some p => if markAged nt p then some (.runningCleared r.source) else none

/-- The table after a scan (R52, R53). -/
def scanTable (nt : Time) (l : List PeerRecord) : List PeerRecord :=
  (l.filter fun r => !tooOld nt r).map (scanned nt)

/-- A scan (R52): every record tested, then the notices taken in order of source id (notes/assumptions/15.md). -/
def takeScan (s : State) : State :=
  (s.peers.filterMap (scanNotice s.nt)).foldl takeNotice (s.setPeers (scanTable s.nt s.peers))

/-- PEER_SCAN (R52). -/
def execPeerScan (s : State) : Host.Outcome State Fault Refusal := .next (liveWhen scanDue takeScan s)

end Sys2Proof.Machine
end

