-- ==== Sys2Proof/Machine/Weather.lean ====
section
/-! DEFINITION. Chapter 4: the assessment tick and its stages, the quiet deadlines, and the sending of OBSERVEs (R36,
R37). -/

namespace Sys2Proof.Machine

/-! ### Stages of the tick -/

/-- A wind source with the gust to be used and its direction (R60, R62). -/
structure Wind where
  source : Source
  gust : Nat
  dir : Option Nat
  deriving DecidableEq, Repr

/-- The wind a peer record offers (R60): FRESH, wind-capable, anemometer OK. -/
def peerWind (r : PeerRecord) : Option Wind :=
  match r.obs with
  | none => none
  | some o => if o.fresh && o.windCapable && o.anem == .ok then some ⟨.peer r.source, o.gust, o.direction⟩ else none

/-- The stronger of two winds, the first on a tie: records come in order of source id (R43, R60). -/
def strongerWind (a : Option Wind) (b : Option Wind) : Option Wind :=
  match a, b with
  | none, b => b
  | a, none => a
  | some x, some y => if x.gust < y.gust then some y else some x

/-- The peer with the highest gust, the lowest id on a tie (R60). -/
def strongestPeer (l : List PeerRecord) : Option Wind := l.foldl (fun acc r => strongerWind acc (peerWind r)) none

/-- Stage 1 (R60, R62): the wind source, its gust and its direction. -/
def selectWind (s : State) : Option Wind :=
  if s.weather.anem = .ok then some ⟨.own, s.sensor.gust, s.sensor.direction⟩ else strongestPeer s.peers

/-- The start-window flag after a tick's test (R61). -/
def startWindowAfter (s : State) : Bool := s.weather.startWindow && !passed s.nt 10000#32

/-- The wind status of a tick (R60, R61). -/
def windStatusOf (s : State) : WindStatus :=
  if (selectWind s).isSome then .known else if startWindowAfter s then .pending else .unknown

/-- Stage 2 (R63): the exposure to a wind. -/
def exposureTo (w : Wind) (s : State) : Nat :=
  match w.dir with
  | none => 16
  | some d => if s.cfg.skylight then 16 else exposureOf (sectorDiff d s.cfg.facade)

/-- Stage 3 (R64): the wind load of a wind. -/
def loadFrom (w : Wind) (s : State) : Nat := windLoad w.gust (exposureTo w s)

/-- Stage 4 (R65, R66): the effective limit. -/
def effectiveLimit (s : State) : Nat :=
  if s.levels.storm = .quiet then raisedLimit s.cfg.stormLimit (if suspect s then 1000 else position s)
  else s.cfg.stormLimit

/-- Stage 5 (R67 to R69): the storm condition. -/
def stormCondition (s : State) : Bool :=
  let raised := s.levels.storm != .quiet
  let assessed := match selectWind s with
    | some w =>
      decide (effectiveLimit s ≤ loadFrom w s) ||
        (raised && decide (effectiveLimit s - s.cfg.hysteresis ≤ loadFrom w s))
    | none => raised || (!startWindowAfter s && s.cfg.windLossClose)
  assessed || (s.line.isolated && s.cfg.isolationClose)

/-- The relevance of a peer's grid (R72). -/
def relevance (s : State) (o : Observation) : Nat :=
  if o.skylight = s.cfg.skylight ∧ (s.cfg.skylight ∨ sectorDiff o.facade s.cfg.facade ≤ 1) then 2 else 1

/-- What a peer record contributes to rain evidence (R71, R72, R55). -/
def rainContribution (s : State) (r : PeerRecord) : Nat :=
  match r.obs with
  | none => 0
  | some o => if o.fresh then o.wet.weight * relevance s o else 0

/-- Stage 6 (R71 to R73): the rain evidence. -/
def rainEvidence (s : State) : Nat :=
  min 63 (s.sensor.wet.weight * 2 + (s.peers.map (rainContribution s)).sum)

/-- Stage 7 (R74): the rain condition. -/
def rainCondition (s : State) : Bool :=
  decide (s.cfg.rainThreshold ≤ rainEvidence s) || (s.levels.rain != .quiet && decide (1 ≤ rainEvidence s))

/-- A quiet deadline after a tick (R70, R75): restarted while the condition holds, none once it has passed. -/
def quietAfter (nt : Time) (holds : Bool) (quiet : Nat) (dl : Option Time) : Option Time :=
  if holds then some (after nt (1000 * quiet)) else if due nt dl then none else dl

/-- The Weather Assessor after stages 1 to 7 of a tick. -/
def assessed (s : State) : Weather :=
  { s.weather with
    startWindow := startWindowAfter s
    windStatus := windStatusOf s
    source := (selectWind s).map Wind.source
    sourceDir := (selectWind s).bind Wind.dir
    exposure := (selectWind s).map fun w => exposureTo w s
    load := (selectWind s).map fun w => loadFrom w s
    limit := effectiveLimit s
    stormHolds := stormCondition s
    stormQuietDl := quietAfter s.nt (stormCondition s) s.cfg.stormQuiet s.weather.stormQuietDl
    evidence := rainEvidence s
    rainHolds := rainCondition s
    rainQuietDl := quietAfter s.nt (rainCondition s) s.cfg.rainQuiet s.weather.rainQuietDl }

/-- Stage 8 (R78): the gust trigger, after the result; the previous own gust then takes the new gust. -/
def gustTrigger (s : State) : State :=
  let s1 := if s.weather.prevGust < s.cfg.stormLimit ∧ s.cfg.stormLimit ≤ s.sensor.gust then triggerObserve .storm s else s
  s1.setWeather { s1.weather with prevGust := s.sensor.gust }

/-- One assessment tick (R58, R76). -/
def assessmentTick (s : State) : State :=
  gustTrigger (takeResult
    (stormCondition s) (!stormCondition s && due s.nt s.weather.stormQuietDl)
    (rainCondition s) (!rainCondition s && due s.nt s.weather.rainQuietDl)
    (s.setWeather (assessed s)))

/-! ### Commands -/

/-- START_WINDOW_END (R61). -/
def execStartWindowEnd (s : State) : Host.Outcome State Fault Refusal :=
  .next (liveWhen startWindowEnds (fun s => s.setWeather { s.weather with startWindow := false }) s)

/-- STORM_EXPIRY (R70): the storm part of a tick whose condition does not hold and whose deadline has passed. -/
def execStormExpiry (s : State) : Host.Outcome State Fault Refusal :=
  .next (liveWhen stormExpires (fun s =>
    takeResult false true false false (s.setWeather { s.weather with stormQuietDl := none })) s)

/-- RAIN_EXPIRY (R75): the rain part of a tick whose condition does not hold and whose deadline has passed. -/
def execRainExpiry (s : State) : Host.Outcome State Fault Refusal :=
  .next (liveWhen rainExpires (fun s =>
    takeResult false false false true (s.setWeather { s.weather with rainQuietDl := none })) s)

/-- PERIODIC_OBSERVE_DEADLINE (R36, R38): no placement while an OBSERVE of class 0 or 1 is queued; the first one
also places a STATE. -/
def execPeriodicObserveDeadline (s : State) : Host.Outcome State Fault Refusal :=
  .next (liveWhen periodicDue (fun s =>
    let urgent := s.line.queue.any fun e => e.kind == .observe && (e.cls == .storm || e.cls == .rain)
    let s1 := if urgent then s else placeObserve .routine s
    let s2 := if s.weather.firstPeriodic then noteOccasion s1 else s1
    s2.setWeather { s2.weather with periodicDl := after s.weather.periodicDl 2000, firstPeriodic := false }) s)

/-- IMMEDIATE_HOLDOFF_EXPIRY (R37): a deferred trigger is placed, or refused without trace; with none deferred the
passed deadline becomes none (notes/assumptions/16.md). -/
def execImmediateHoldoffExpiry (s : State) : Host.Outcome State Fault Refusal :=
  .next (liveWhen holdoffPassed (fun s =>
    match s.weather.deferred with
    | none => s.setWeather { s.weather with holdoffDl := none }
    | some cls =>
      if refusesPlacement .observe s then s.setWeather { s.weather with deferred := none }
      else placeImmediate cls s) s)

end Sys2Proof.Machine
end

