-- ==== Sys2Proof/Machine/Sensing.lean ====
section
/-! DEFINITION. Chapter 1: the anemometer, the windows, the vane, the wetness grid, the buttons and the service key. -/

namespace Sys2Proof.Machine

/-! ### Anemometer -/

/-- The length of the period an accepted edge ends, when it is recorded (R5): 2 to 65,535 ms. -/
def recordedPeriod (nt : Time) (prev : Option Time) : Option Nat :=
  match prev with
  | none => none
  | some p => if 2 ≤ age nt p ∧ age nt p ≤ 65535 then some (age nt p) else none

/-- A recorded period offered to a window's shortest (R5). -/
def offerPeriod (p : Option Nat) (kept : Option Nat) : Option Nat :=
  match p with
  | none => kept
  | some n => shorter n kept

/-- The Sensor Front after an accepted edge (R4, R5). The edge belongs to the window its stamp falls in, whether or
not the end of the window before it has been taken (R3). -/
def countEdge (nt : Time) (f : Sensor) : Sensor :=
  let p := recordedPeriod nt f.prevEdge
  let g := { f with prevEdge := some nt }
  if nt.toNat / 1000 = f.windowBegin.toNat / 1000 then
    { g with count := f.count + 1, shortest := offerPeriod p f.shortest }
  else { g with nextCount := f.nextCount + 1, nextShortest := offerPeriod p f.nextShortest }

/-- An edge on ANE (R4, R14); in the safe profile the Assessor's state stays, the anemometer state with it (R58, R79,
notes/assumptions/34.md). -/
def takeEdge (s : State) : State :=
  if !s.cfg.windFitted || s.sensor.prevEdge == some s.nt then s
  else
    let s1 := s.setSensor { countEdge s.nt s.sensor with zeroRun := 0 }
    if s.weather.anem = .stuck ∧ s.safe = false then s1.setWeather { s1.weather with anem := .ok } else s1

/-- ANEMOMETER_EDGE (R4). -/
def execAnemometerEdge (s : State) : Host.Outcome State Fault Refusal := .next (live takeEdge s)

/-! ### Window end -/

/-- The vane history with a new reading: the three most recent (R11). -/
def vaneWith (reading : Nat) (history : List Nat) : List Nat :=
  if history.length < 3 then history ++ [reading] else history.drop (history.length - 2) ++ [reading]

/-- The Sensor Front after a window end with the wind part set (R5 to R9, R11 to R13). -/
def closedWindow (cfg : Loaded) (nt : Time) (vane : BitVec 4) (f : Sensor) : Sensor :=
  let speed := countSpeedOf f.count cfg.factor
  let mem := shiftIn f.shortest f.periodMem
  let gusts := shiftIn speed f.gustMem
  let ring := shiftIn speed f.ring
  let period := periodSpeedOf cfg.factor mem
  let history := vaneWith (graySector vane) f.vane
  { f with
    windowBegin := nt, count := f.nextCount, shortest := f.nextShortest, nextCount := 0, nextShortest := none
    periodMem := mem, gustMem := gusts, ring := ring, countSpeed := speed, periodSpeed := period
    gust := max period (largest gusts), mean := meanOf ring, vane := history
    direction := (acceptedOf history).or f.direction
    zeroRun := if meanOf ring = 0 then min 600 (f.zeroRun + 1) else 0 }

/-- The Sensor Front after a window end with the wind part clear (R10, R11). -/
def calmWindow (nt : Time) (f : Sensor) : Sensor :=
  { f with
    windowBegin := nt, count := 0, shortest := none, nextCount := 0, nextShortest := none
    countSpeed := 0, periodSpeed := 0, gust := 0, mean := 0, direction := none }

/-- A peer whose report marks a still anemometer STUCK (R13): FRESH, wind-capable, a mean of 50 or more. -/
def windyPeer (r : PeerRecord) : Bool :=
  match r.obs with
  | none => false
  | some o => o.fresh && o.windCapable && decide (50 ≤ o.mean)

/-- The anemometer state after a window end (R10, R13). -/
def anemAfter (s : State) (zeroRun : Nat) : Anem :=
  if !s.cfg.windFitted then .absent
  else if s.weather.anem = .ok ∧ zeroRun = 600 ∧ s.peers.any windyPeer = true then .stuck
  else s.weather.anem

/-- A window end (R6 to R13), and the assessment tick taken on it outside the safe profile (R58). In the safe profile
the Assessor's state stays as the start left it, the anemometer state of R13 with it (R58, R79,
notes/assumptions/34.md). -/
def takeWindowEnd (vane : BitVec 4) (s : State) : State :=
  let f := if s.cfg.windFitted then closedWindow s.cfg s.nt vane s.sensor else calmWindow s.nt s.sensor
  let s1 := (s.setPins { s.pins with vane := vane }).setSensor f
  if s1.safe then s1 else assessmentTick (s1.setWeather { s1.weather with anem := anemAfter s f.zeroRun })

/-- WINDOW_END (R6). -/
def execWindowEnd (vane : BitVec 4) (s : State) : Host.Outcome State Fault Refusal :=
  .next (liveWhen windowEnds (takeWindowEnd vane) s)

/-! ### Wetness grid -/

/-- The Sensor Front after the agreement test of a proposal (R16). -/
def agreeOn (proposal : Wet) (f : Sensor) : Sensor :=
  if proposal = f.wet then { f with candidate := none, agree := 0 }
  else if f.candidate = some proposal then
    if 4 ≤ f.agree + 1 then { f with wet := proposal, candidate := none, agree := 0 }
    else { f with agree := f.agree + 1 }
  else { f with candidate := some proposal, agree := 1 }

/-- The Sensor Front after a grid sample (R15 to R17). -/
def sampleGrid (v : Nat) (f : Sensor) : Sensor :=
  if f.wet = .fault then
    if v < 4080 then
      if 4 ≤ f.clearRun + 1 then
        { f with wet := .dry, clearRun := 4, highRun := 0, agree := 0, candidate := none }
      else { f with clearRun := f.clearRun + 1 }
    else { f with clearRun := 0 }
  else
    let g := agreeOn (proposedWet f.wet v) f
    let high := if 4080 ≤ v then f.highRun + 1 else 0
    if 2400 ≤ high then { g with wet := .fault, candidate := none, agree := 0, clearRun := 0, highRun := 2400 }
    else { g with highRun := high }

/-- The class of the trigger of a wet-state change (R77). -/
def wetTriggerClass : Wet → Class
  | .damp => .rain
  | .wet => .rain
  | .dry => .routine
  | .fault => .routine

/-- A grid sample (R15 to R17), and on a change of the wet state the trigger of R77. -/
def takeGridSample (v : BitVec 12) (s : State) : State :=
  let f := sampleGrid v.toNat s.sensor
  let s1 := (s.setPins { s.pins with grid := v }).setSensor { f with gridAt := some s.nt }
  if f.wet = s.sensor.wet then s1 else triggerObserve (wetTriggerClass f.wet) s1

/-- GRID_SAMPLE (R15). -/
def execGridSample (sample : BitVec 12) (s : State) : Host.Outcome State Fault Refusal :=
  .next (liveWhen gridDue (takeGridSample sample) s)

/-! ### Buttons -/

/-- A contact settled by a run of samples (R18, R19): settled level and run after a sample reading `level`. -/
def settleContact (need : Nat) (level : Bool) (settled : Option Bool) (run : Nat) : Option Bool × Nat :=
  if settled = some level then (settled, 0)
  else if need ≤ run + 1 then (some level, 0) else (settled, run + 1)

/-- A button after a sample (R18). -/
def sampleButton (down : Bool) (b : Button) : Button :=
  { b with settled := (settleContact 5 down b.settled b.run).1, run := (settleContact 5 down b.settled b.run).2 }

/-- A sample settled a button from up to down (R18). -/
def pressed (before now : Button) : Bool := before.settled == some false && now.settled == some true

/-- The Sensor Front after a sample of both buttons (R18): a press is discarded when, after the same sample, the
other button's settled level is down. -/
def sampleButtons (openDown closeDown : Bool) (f : Sensor) : Sensor :=
  let o := sampleButton openDown f.openButton
  let c := sampleButton closeDown f.closeButton
  let openPress := pressed f.openButton o && c.settled != some true
  let closePress := pressed f.closeButton c && o.settled != some true
  { f with openButton := { o with latch := o.latch || openPress }, closeButton := { c with latch := c.latch || closePress } }

/-- The Level Controller takes a latched OPEN press and clears the latch (R89). -/
def takeOpenLatch (s : State) : State :=
  if s.sensor.openButton.latch then
    takePress false (s.setSensor { s.sensor with openButton := { s.sensor.openButton with latch := false } })
  else s

/-- The Level Controller takes a latched CLOSE press and clears the latch (R89). -/
def takeCloseLatch (s : State) : State :=
  if s.sensor.closeButton.latch then
    takePress true (s.setSensor { s.sensor with closeButton := { s.sensor.closeButton with latch := false } })
  else s

/-- A sample of the buttons (R18), and the presses it latched (R89). Of two latches set, which one sample never brings, the
OPEN press is taken first: R92 lets it be either, and the order is the model's choice (notes/assumptions/41.md). -/
def takeButtonSample (openDown closeDown : Bool) (s : State) : State :=
  let f := sampleButtons openDown closeDown s.sensor
  takeCloseLatch (takeOpenLatch
    ((s.setPins { s.pins with openDown := openDown, closeDown := closeDown }).setSensor
      { f with buttonsAt := some s.nt }))

/-- BUTTON_SAMPLE (R18). -/
def execButtonSample (openDown closeDown : Bool) (s : State) : Host.Outcome State Fault Refusal :=
  .next (liveWhen buttonsDue (takeButtonSample openDown closeDown) s)

/-! ### Service key -/

/-- A key-on (R93, R163): service hold on, the appointment, and the end of a safe seat under way. -/
def takeKeyOn (s : State) : State :=
  let s1 := appointFrom (acting s) (s.setLevels { s.levels with serviceHold := true })
  if s1.safe then interruptSafeSeat s1 else s1

/-- A key-off (R93, R156, R163): service hold off, the appointment, the commissioning window closed, and in the safe
profile the safe seat begun. -/
def takeKeyOff (s : State) : State :=
  let s1 := appointFrom (acting s) (s.setLevels { s.levels with serviceHold := false })
  beginSafeSeat (endWindow s1)

/-- A sample of the key (R19): each settled change is handed on; the first settling to off is not a change. -/
def takeKeySample (on : Bool) (s : State) : State :=
  let r := settleContact 20 on s.sensor.keySettled s.sensor.keyRun
  let s1 := (s.setPins { s.pins with keyOn := on }).setSensor
    { s.sensor with keySettled := r.1, keyRun := r.2, keyAt := some s.nt }
  if r.1 = some true ∧ s.sensor.keySettled ≠ some true then takeKeyOn s1
  else if r.1 = some false ∧ s.sensor.keySettled = some true then takeKeyOff s1
  else s1

/-- KEY_SAMPLE (R19). -/
def execKeySample (on : Bool) (s : State) : Host.Outcome State Fault Refusal :=
  .next (liveWhen keyDue (takeKeySample on) s)

end Sys2Proof.Machine
end

