-- ==== Sys2Proof/Machine/Startup.lean ====
section
/-! DEFINITION. Chapter 10 and R165: starts, losses of power, LISTEN, the commanded restart and the safe seat's
deadline. -/

namespace Sys2Proof.Machine

/-- The kind of start of a rise of the logic supply (R159, R160). -/
def riseKind (s : State) : StartKind := if s.retained.valid then .warm else .cold

/-- A rise of the logic supply (R160). The first Hall sample is the level at the pins then, which a motor that coasted
has moved (R142, R165, notes/assumptions/33.md): nothing of that is decoded. A rise of a supply that the model holds to
be up means that it fell first (notes/assumptions/19.md). -/
def takePowerUp (s : State) : State :=
  let s0 := if s.power then losePower false s else s
  startSequence (riseKind s0) s0

/-- POWER_UP (R160). -/
def execPowerUp (s : State) : Host.Outcome State Fault Refusal := .next (takePowerUp s)

/-- LOGIC_SUPPLY_LOSS (R165). -/
def execLogicSupplyLoss (duringRenewal : Bool) (s : State) : Host.Outcome State Fault Refusal :=
  .next (if s.power then losePower duringRenewal s else s)

/-- BACKUP_RAIL_LOSS (R159): the latch is set, with or without logic supply. What the sixteen bytes hold after the
rail's fall the spec does not say; the model leaves them, so a restart before any loss of power restores them
(notes/assumptions/36.md). -/
def execBackupRailLoss (s : State) : Host.Outcome State Fault Refusal :=
  .next (s.setRetained { s.retained with lossLatch := true })

/-- LISTEN_END (R95, R160, R163): the appointment, or in the safe profile the safe seat. -/
def execListenEnd (s : State) : Host.Outcome State Fault Refusal :=
  .next (liveWhen listenEnds (fun s => beginSafeSeat (appoint (s.setListen false))) s)

/-- SAFE_SEAT_DEADLINE (R163): STOPPING, then IDLE; SEAT_UNCONFIRMED. Which continuation this braking records, neither R163
nor Figure 7-3 says; GOAL is the model's choice (notes/assumptions/47.md). The safe seat has ended at the deadline, before
its braking has: the model's choice too (DESIGN CHOICE, notes/assumptions/50.md). -/
def execSafeSeatDeadline (s : State) : Host.Outcome State Fault Refusal :=
  .next (liveWhen safeSeatDue (fun s =>
    addReason .seatUnconfirmed (enterStopping .goal (s.setDrive { s.drive with safePhase := .ended }))) s)

/-- The controlled stop of R138. The phase of a safe seat whose warning or seating it ends becomes not begun: R163 and
R138 do not say what it becomes, and this is the model's choice (notes/assumptions/43.md). -/
def controlledStop (s : State) : State :=
  let s1 := s.setDrive { s.drive with controlledStop := true }
  let s2 := s1.setDrive { s1.drive with safePhase := .notBegun }
  match s.drive.state with
  | .ramp => enterStopping .halt s1
  | .travel => enterStopping .halt s1
  | .approach => enterStopping .halt s1
  | .seating => enterStopping .halt s2
  | .backoff => enterStopping .halt s1
  | .stopping => s1.setDrive { s1.drive with continuation := some .halt }
  | .waitSlot => enterIdle s1
  | .warning => enterIdle s2
  | .retryWait => enterIdle s1
  | .sagWait => enterIdle s1
  | .blocked => enterIdle s1
  | .idle => s1

/-- A RESTART handed to start-up (R162): taken outside the safe profile, in it while the commissioning window is
open; a second one has no further effect. -/
def takeRestart (s : State) : State :=
  if s.drive.controlledStop || (s.safe && !s.store.isOpen) then s else controlledStop s

/-- REQUEST_RESTART (R162, R40). -/
def execRequestRestart (bits : List Bool) (s : State) : Host.Outcome State Fault Refusal :=
  .next (live (arrival (ofAction 4) bits fun f s =>
    if restartAddressed f.payload s then takeRestart s else s) s)

/-- RESTART_START (R162): the record is restored without test; a write still in progress is cut
(notes/assumptions/9.md). -/
def execRestartStart (s : State) : Host.Outcome State Fault Refusal :=
  .next (if s.power && restartReady s then startSequence .restart (cutWrite s) else s)

end Sys2Proof.Machine
end

