-- ==== Sys2Proof/Machine/SupplyCommands.lean ====
section
/-! DEFINITION. Chapter 6: the Intent List's arrivals, evaluations, refreshes, yields and sags. -/

namespace Sys2Proof.Machine

/-- A yield (R112, R136): the Unit releases, and the drive is ordered to stop. With the controlled-stop mark set the order
has no effect on the drive (R138); that the Unit releases then too, as R112 and R136 say without that case, is the
model's choice (DESIGN CHOICE, notes/assumptions/49.md). -/
def orderYield (s : State) : State :=
  let s1 := releaseSupply s
  if s1.drive.controlledStop then s1
  else match s1.drive.state with
    | .warning => enterStopping .yield s1
    | .ramp => enterStopping .yield s1
    | .travel => enterStopping .yield s1
    | .approach => enterStopping .yield s1
    | .seating => enterStopping .yield s1
    | .backoff => s1.setDrive { s1.drive with yieldMark := true }
    | .stopping =>
      match s1.drive.continuation with
      | some .goal => s1.setDrive { s1.drive with continuation := some .yield }
      | some .backoff => s1.setDrive { s1.drive with yieldMark := true }
      | some .verdict => s1.setDrive { s1.drive with yieldMark := true }
      | _ => s1
    | _ => s1

/-- The handed goal names DEMAND (R112). -/
def handedDemand (s : State) : Bool :=
  match s.levels.handed with
  | some ⟨.demand, _⟩ => true
  | _ => false

/-- The Intent List after an INTENT (R101); in the safe profile nothing is stored (R116). -/
def listAfterIntent (src : Nat) (p : List Byte) (s : State) : List Entry :=
  if s.safe || !recordable src then s.supply.entries
  else if payloadGroup p = s.cfg.group then
    storeEntry ⟨src, (intentLevel p).1, (intentLevel p).2, payloadWeight p, s.nt, false⟩ s.supply.entries
  else withoutSource src s.supply.entries

/-- An INTENT orders a yield (R112). -/
def intentYields (p : List Byte) (s : State) : Bool :=
  handedDemand s && payloadGroup p == s.cfg.group && (intentLevel p).1 != .demand &&
  decide (s.cfg.budget < runningWeight s + s.cfg.weight + payloadWeight p)

/-- The Supply Share Unit takes an INTENT (R101): the list, then an evaluation while WAITING (R108) or the yield
test while ADMITTED (R112). -/
def takeIntent (src : Nat) (p : List Byte) (s : State) : State :=
  let s1 := s.setSupply { s.supply with entries := listAfterIntent src p s }
  match s1.supply.admission with
  | .waiting => evaluate s1
  | .admitted => if intentYields p s1 then orderYield s1 else s1
  | .settling => s1
  | .none => s1

/-- INTENT_ARRIVAL (R101, R49, R51): the Peer Table first. -/
def execIntentArrival (bits : List Bool) (s : State) : Host.Outcome State Fault Refusal :=
  .next (live (arrival (ofKind .intent) bits fun f s =>
    takeIntent f.source.toNat f.payload (hearPeer f.source.toNat s)) s)

/-- An entry removed, and the evaluation occasion of the arrival (R103). -/
def dropAndEvaluate (src : Nat) (s : State) : State :=
  occasionToEvaluate (s.setSupply { s.supply with entries := withoutSource src s.supply.entries })

/-- WITHDRAW_ARRIVAL (R103, R49). -/
def execWithdrawArrival (bits : List Bool) (s : State) : Host.Outcome State Fault Refusal :=
  .next (live (arrival (ofKind .withdraw) bits fun f s =>
    dropAndEvaluate f.source.toNat (hearPeer f.source.toNat s)) s)

/-- STATE_ARRIVAL (R46, R103): the Peer Table first; a STATE saying running removes the sender's entry; it is an
evaluation occasion. -/
def execStateArrival (bits : List Bool) (s : State) : Host.Outcome State Fault Refusal :=
  .next (live (arrival (ofKind .state) bits fun f s =>
    let st := peerStateOf f.payload s.nt
    let s1 := notePeer f.source.toNat none (some st) s
    if st.running then dropAndEvaluate f.source.toNat s1 else occasionToEvaluate s1) s)

/-- SETTLE_DEADLINE (R108). -/
def execSettleDeadline (s : State) : Host.Outcome State Fault Refusal :=
  .next (liveWhen settleDue (fun s => evaluate (s.setSupply { s.supply with settleDl := none })) s)

/-- The own entry heard now (R105). -/
def renewOwn (nt : Time) (l : List Entry) : List Entry := l.map fun e => if e.own then { e with heardAt := nt } else e

/-- The own intent announced again (R105). -/
def refreshIntent (s : State) : State :=
  let s1 := match s.supply.own with
    | none => s
    | some (level, dir) => placeIntent level dir s
  s1.setSupply { s1.supply with
    entries := renewOwn s.nt s1.supply.entries
    refreshDl := s.supply.refreshDl.map fun d => after d 2000 }

/-- INTENT_REFRESH_DEADLINE (R105). -/
def execIntentRefreshDeadline (s : State) : Host.Outcome State Fault Refusal :=
  .next (liveWhen intentRefreshDue refreshIntent s)

/-- INTENT_ENTRY_AGED (R104): the peer's entry, once its age exceeds 5,000 ms, is removed. -/
def execIntentEntryAged (source : BitVec 6) (s : State) : Host.Outcome State Fault Refusal :=
  .next (liveWhen (fun s => s.supply.entries.any fun e => e.source == source.toNat && entryAged s e)
    (dropAndEvaluate source.toNat) s)

/-- A sag (R113, R137): k rises to at most 6, the hold-off is worked out from it, and the drive stops for sag. -/
def takeSag (s : State) : State :=
  let k := min 6 (s.supply.sagCount + 1)
  let s1 := s.setSupply { s.supply with sagCount := k, sagTimer := none }
  enterStopping .sag (s1.setDrive { s1.drive with
    holdoff := sagHoldoff (lineId s) k
    obstructionPending := s1.drive.state == .backoff })

/-- SAG (R113). -/
def execSag (s : State) : Host.Outcome State Fault Refusal := .next (liveWhen sagDue takeSag s)

end Sys2Proof.Machine
end

