-- ==== Sys2Proof/Machine/Dispatch.lean ====
section
/-! DEFINITION. One arm per command. -/

namespace Sys2Proof.Machine

/-- A command's effect on everything but the queue of commands. -/
def exec (i : Instr) (s : State) : Host.Outcome State Fault Refusal :=
  match i with
  | .powerUp => Sys2Proof.Machine.execPowerUp s
  | .logicSupplyLoss duringRenewal => Sys2Proof.Machine.execLogicSupplyLoss duringRenewal s
  | .backupRailLoss => Sys2Proof.Machine.execBackupRailLoss s
  | .listenEnd => Sys2Proof.Machine.execListenEnd s
  | .safeSeatDeadline => Sys2Proof.Machine.execSafeSeatDeadline s
  | .anemometerEdge => Sys2Proof.Machine.execAnemometerEdge s
  | .windowEnd vane => Sys2Proof.Machine.execWindowEnd vane s
  | .startWindowEnd => Sys2Proof.Machine.execStartWindowEnd s
  | .stormExpiry => Sys2Proof.Machine.execStormExpiry s
  | .rainExpiry => Sys2Proof.Machine.execRainExpiry s
  | .gridSample sample => Sys2Proof.Machine.execGridSample sample s
  | .buttonSample openDown closeDown => Sys2Proof.Machine.execButtonSample openDown closeDown s
  | .keySample on => Sys2Proof.Machine.execKeySample on s
  | .demandExpiry => Sys2Proof.Machine.execDemandExpiry s
  | .transmissionStart => Sys2Proof.Machine.execTransmissionStart s
  | .transmissionLost read => Sys2Proof.Machine.execTransmissionLost read s
  | .identityClash read => Sys2Proof.Machine.execIdentityClash read s
  | .transmissionComplete read => Sys2Proof.Machine.execTransmissionComplete read s
  | .observeArrival bits => Sys2Proof.Machine.execObserveArrival bits s
  | .stateArrival bits => Sys2Proof.Machine.execStateArrival bits s
  | .intentArrival bits => Sys2Proof.Machine.execIntentArrival bits s
  | .withdrawArrival bits => Sys2Proof.Machine.execWithdrawArrival bits s
  | .requestOpenTo bits => Sys2Proof.Machine.execRequestOpenTo bits s
  | .requestClose bits => Sys2Proof.Machine.execRequestClose bits s
  | .requestStop bits => Sys2Proof.Machine.execRequestStop bits s
  | .requestRelease bits => Sys2Proof.Machine.execRequestRelease bits s
  | .requestRestart bits => Sys2Proof.Machine.execRequestRestart bits s
  | .restartStart => Sys2Proof.Machine.execRestartStart s
  | .configureOpen bits => Sys2Proof.Machine.execConfigureOpen bits s
  | .configureWrite bits => Sys2Proof.Machine.execConfigureWrite bits s
  | .configureRead bits => Sys2Proof.Machine.execConfigureRead bits s
  | .recordArrival bits => Sys2Proof.Machine.execRecordArrival bits s
  | .writeComplete value check => Sys2Proof.Machine.execWriteComplete value check s
  | .commissioningWindowDeadline => Sys2Proof.Machine.execCommissioningWindowDeadline s
  | .isolationDeadline => Sys2Proof.Machine.execIsolationDeadline s
  | .periodicObserveDeadline => Sys2Proof.Machine.execPeriodicObserveDeadline s
  | .immediateHoldoffExpiry => Sys2Proof.Machine.execImmediateHoldoffExpiry s
  | .runningRefreshDeadline => Sys2Proof.Machine.execRunningRefreshDeadline s
  | .peerScan => Sys2Proof.Machine.execPeerScan s
  | .settleDeadline => Sys2Proof.Machine.execSettleDeadline s
  | .intentRefreshDeadline => Sys2Proof.Machine.execIntentRefreshDeadline s
  | .intentEntryAged source => Sys2Proof.Machine.execIntentEntryAged source s
  | .sag => Sys2Proof.Machine.execSag s
  | .supplyBelowHallFloor reading => Sys2Proof.Machine.execSupplyBelowHallFloor reading s
  | .overCurrent => Sys2Proof.Machine.execOverCurrent s
  | .velocityWindowEnd => Sys2Proof.Machine.execVelocityWindowEnd s
  | .warningDeadline => Sys2Proof.Machine.execWarningDeadline s
  | .rampStep => Sys2Proof.Machine.execRampStep s
  | .stopDeadline => Sys2Proof.Machine.execStopDeadline s
  | .seatTimeout => Sys2Proof.Machine.execSeatTimeout s
  | .backoffDeadline => Sys2Proof.Machine.execBackoffDeadline s
  | .retryDeadline => Sys2Proof.Machine.execRetryDeadline s
  | .sagHoldoffDeadline => Sys2Proof.Machine.execSagHoldoffDeadline s
  | .refuseEnd => Sys2Proof.Machine.execRefuseEnd s
  | .hallStep pair => Sys2Proof.Machine.execHallStep pair s
  | .hallSkip pair => Sys2Proof.Machine.execHallSkip pair s
  | .crossCheckDeadline stroke => Sys2Proof.Machine.execCrossCheckDeadline stroke s
  | .arrivalNotHandedOn bits => Sys2Proof.Machine.execArrivalNotHandedOn bits s

end Sys2Proof.Machine
end

