-- ==== Sys2Proof/Machine/Step.lean ====
section
/-! DEFINITION. One step of the node. -/

namespace Sys2Proof.Machine

/-- A step: the command at the front of the queue is taken and carried out with the rest; on an empty queue the
node's clock runs (notes/assumptions/1.md). -/
def step (s : State) : Host.Outcome State Fault Refusal :=
  match s.pending with
  | c :: rest => exec c (s.setPending rest)
  | [] => .next (tick s)

/-- The state with the command that a word spells put at the front of the queue; the table gives no row any bits, so
no word spells one and the state stays. -/
def State.withFetchWord (s : State) (nbits w : Nat) : State :=
  match decodeTableWord nbits w with
  | some c => s.setPending (c :: s.pending)
  | none => s

end Sys2Proof.Machine
end

