-- ==== Sys2Proof/Machine/Outputs.lean ====
section
/-! DEFINITION. The output pins as functions of the state: the four gates (R118), the line (R21), the grid drive
(R15), the sounder (R139), the status lamp (R164). Without logic supply every one of them is off (R165). -/

namespace Sys2Proof.Machine

/-- What a gate output does (R118): off, on, or switched at 20 kHz, conducting for a duty in 1/256 of each
period. -/
inductive Gate where
  | off | on
  | switched (duty : Nat)
  deriving DecidableEq, Repr

/-- The four gate outputs (R118). -/
structure Gates where
  gh1 : Gate
  gl1 : Gate
  gh2 : Gate
  gl2 : Gate
  deriving DecidableEq, Repr

/-- All four switches off. -/
def Gates.allOff : Gates := ⟨.off, .off, .off, .off⟩

/-- The gates of an energised bridge (R118). -/
def Gates.energised (dir : Option Dir) (duty : Nat) : Gates :=
  match dir with
  | none => Gates.allOff
  | some .closing => ⟨.switched duty, .off, .off, .on⟩
  | some .opening => ⟨.off, .on, .switched duty, .off⟩

/-- The four gate outputs (R118, R165). -/
def gates (s : State) : Gates :=
  if energised s then Gates.energised s.drive.dir s.drive.duty
  else if s.power && s.drive.state == .stopping then ⟨.off, .on, .off, .on⟩
  else Gates.allOff

/-- The node drives the line dominant (R21, R165). -/
def lineDriven (s : State) : Bool := s.power && decide (0 < s.line.driven)

/-- The wetness grid is driven through WGD (R15): when the wet part of the sensors-fitted field is set, and not when it
is clear. That it is driven between samples too is the model's choice (notes/assumptions/38.md). -/
def gridDriven (s : State) : Bool := s.power && s.cfg.wetFitted

/-- Whether a pattern sounds at a time since its pattern start, in ms (R139). -/
def Pattern.sounds (p : Pattern) (t : Nat) : Bool :=
  match p with
  | .warn => decide (t % 500 < 250)
  | .moving => decide (t % 1000 < 100)
  | .fault =>
    let u := t % 10000
    decide (u < 100) || (decide (200 ≤ u) && decide (u < 300)) || (decide (400 ≤ u) && decide (u < 500))

/-- REFUSE is sounding (R139). -/
def refuseSounds (s : State) : Bool :=
  match s.drive.refuseUntil with
  | none => false
  | some d => !passed s.nt d

/-- The sounder is on (R139, R165): REFUSE lies over the pattern that is playing. -/
def sounderOn (s : State) : Bool :=
  s.power && (refuseSounds s ||
    match s.drive.pattern with
    | none => false
    | some p => p.sounds (age s.nt s.drive.patternStart))

/-- The tone of the sounder in units of 100 Hz (R139); 2.0 kHz in the safe profile (R163). -/
def toneOf (s : State) : Nat :=
  let part := if s.safe then 0 else s.cfg.tone
  if part = 0 then 20 else if part = 1 then 25 else if part = 2 then 31 else 40

/-- The status lamp is lit (R164, R165): the first pattern of Figure 10-3 whose condition holds, timed from the NT
multiples of its period. -/
def lampOn (s : State) : Bool :=
  s.power &&
  if s.safe || s.line.listenOnly then
    let u := s.nt.toNat % 2000
    decide (u < 150) || (decide (300 ≤ u) && decide (u < 450))
  else if s.drive.state = .blocked then decide (s.nt.toNat % 250 < 125)
  else if suspect s then decide (s.nt.toNat % 1000 < 500)
  else true

end Sys2Proof.Machine
end

