-- ==== Sys2Proof/Safety.lean ====
section
/-! DEFINITION. The terms statements are made in: the node between two commands, and the laws that every step keeps. -/

namespace Sys2Proof.Machine

/-- The Retained Record holds what the blocks mirror into it, with a check byte that agrees (R97, R153, R159). -/
def Mirrors (s : State) : Prop :=
  s.retained.items = mirrored s ∧ s.retained.check = recordCheck s.retained.items

/-- A node with logic supply between two commands: no occasion for a STATE is open (the model's own mark,
notes/assumptions/11.md) and the Retained Record mirrors the blocks. -/
def Ready (s : State) : Prop := s.power = true ∧ s.occasion = false ∧ Mirrors s

/-- While the node has logic supply it is ready between two commands; every step keeps this. -/
def ReadyWhilePowered (s : State) : Prop := s.power = true → Ready s

/-- A STATE was placed at the end of a command that led from `s` to `t` (R38, R144): the transmit queue holds it with
the fields of that moment, unless placements are refused (R35); every other queued telegram stays; the position
reported becomes the last reported position; while running is 1 the running refresh deadline is set, where the STATE
is refused too (the model's reading, notes/assumptions/23.md). -/
def Reported (s t : State) : Prop :=
  t.pos.lastReported = position t ∧
  t.drive.refreshDl = (if t.supply.running then some (after s.nt 2000) else s.drive.refreshDl) ∧
  t.line = { s.line with queue := t.line.queue } ∧
  (t.line.queue.filter (fun e => e.kind != .state)).Perm (s.line.queue.filter (fun e => e.kind != .state)) ∧
  (if refusesPlacement .state s then t.line.queue = s.line.queue
   else ∃ e ∈ t.line.queue, e.kind = .state ∧ e.cls = .drive ∧ e.payload = statePayload t)

/-- The position tests of R124 and R126 for a drive that moves towards a goal in a direction, at a count, led from `s` to
`t`: SEATING or arrival at the goal, APPROACH within its band, and beyond it the state the drive else goes on in. -/
def PositionTested (g : Goal) (dir : Dir) (count : Int) (goesOn : DriveState) (s t : State) : Prop :=
  let target : Int := match g.target with
    | .seat => 0
    | .pm p => ((p * s.cfg.stroke / 1000 : Nat) : Int)
  let rest := if dir = .closing then count - target else target - count
  (g.target = .seat → count ≤ (s.cfg.seatBand : Int) → t.drive.state = .seating ∧
    t.drive.duty = s.cfg.creepDuty ∧ t.drive.seatTimeoutDl = some (after s.nt 8000)) ∧
  (g.target ≠ .seat → rest ≤ 0 → t.drive.state = .stopping ∧ t.drive.continuation = some .goal ∧
    t.drive.stopDl = some (after s.nt 200) ∧ t.supply.sagCount = 0) ∧
  ((g.target = .seat → (s.cfg.seatBand : Int) < count) → (g.target ≠ .seat → 0 < rest) →
    (rest ≤ (s.cfg.approachBand : Int) → t.drive.state = .approach ∧
      (goesOn ≠ .approach → t.drive.duty = s.cfg.creepDuty)) ∧
    ((s.cfg.approachBand : Int) < rest → t.drive.state = goesOn)) ∧
  (t.drive.state.energised = true → t.drive.dir = some dir ∧ t.supply.sagCount = s.supply.sagCount) ∧
  t.drive.goal = some g ∧ t.supply.admission = s.supply.admission ∧ t.supply.running = s.supply.running ∧
  t.pos.count = count

/-- An entry into RAMP with a goal in hand led from `s` to `t` (R123): in the direction of the goal at the start duty with
the checks clear, and the position tests at once; TRAVEL where the start duty is the travel duty or more. With the
position suspect and a goal that is not closed it is an entry into STOPPING (R134, notes/assumptions/14.md). -/
def RampEntered (g : Goal) (s t : State) : Prop :=
  t.drive.seatRecord = none ∧
  (suspect s = true → g.target ≠ .seat → t.drive.state = .stopping ∧ t.drive.continuation = some .goal ∧
    t.drive.stopDl = some (after s.nt 200) ∧ t.drive.goal = some g ∧ t.supply.admission = s.supply.admission) ∧
  ((suspect s = true → g.target = .seat) →
    PositionTested g
      (match g.target with
        | .seat => .closing
        | .pm p => if ((p * s.cfg.stroke / 1000 : Nat) : Int) < s.pos.count then .closing else .opening)
      s.pos.count (if s.cfg.startDuty < s.cfg.travelDuty then .ramp else .travel) s t ∧
    (t.drive.state = .ramp → t.drive.duty = s.cfg.startDuty ∧ t.drive.rampStepDl = some (after s.nt 20)) ∧
    (t.drive.state = .travel → t.drive.duty = s.cfg.travelDuty) ∧
    (t.drive.state.energised = true → t.drive.checkStart = some (after s.nt 300) ∧ t.drive.ocTimer = none ∧
      t.drive.stallRun = 0 ∧ t.drive.pattern = (if s.cfg.skylight then some .moving else none) ∧
      t.drive.patternStart = s.nt ∧ t.supply = s.supply))

/-- A WAITING node evaluates its load at a command (R107, R108), `given` being what the command brings before the
evaluation: above the budget it goes on WAITING and nothing else changes; within it the node is admitted, a STATE
tells so, and a drive in WAIT_SLOT warns, or with a warning time of 0 enters RAMP directly (R121). -/
def Evaluated (c : Instr) (s given : State) : Prop :=
  let load := (given.peers.map fun r => match r.st with
      | none => 0
      | some p => if p.running && p.group == s.cfg.group then p.weight else 0).sum +
    ((given.supply.entries.takeWhile fun e => !e.own).map Entry.weight).sum + s.cfg.weight
  let admitted : State := { given with supply := { given.supply with
    entries := given.supply.entries.filter (fun e => !e.own), own := none, admission := .admitted, running := true
    settleDl := none, refreshDl := none } }
  (s.cfg.budget < load → exec c s = .next { given with
    supply := { given.supply with admission := .waiting, settleDl := none } }) ∧
  (load ≤ s.cfg.budget → ∃ t, exec c s = .next t ∧ t.peers = given.peers ∧
    t.supply.entries = admitted.supply.entries ∧ t.supply.own = none ∧
    t.supply.admission = .admitted ∧ t.supply.running = true ∧ t.supply.settleDl = none ∧ t.supply.refreshDl = none ∧
    (s.drive.state ≠ .waitSlot → t.drive = { s.drive with refreshDl := t.drive.refreshDl }) ∧
    (s.drive.state = .waitSlot → s.safe = false → s.supply.running = false → Reported given t) ∧
    (s.drive.state = .waitSlot → warningTime s.drive.goal s ≠ 0 →
      t.drive.state = .warning ∧ t.drive.goal = s.drive.goal ∧
      t.drive.warningDl = some (after s.nt (100 * warningTime s.drive.goal s))) ∧
    (s.drive.state = .waitSlot → warningTime s.drive.goal s = 0 → ∀ g, s.drive.goal = some g →
      RampEntered g admitted t))

/-- A stall or an over-current of an energised drive led from `s` to `t`: a seat, an obstruction or the end of a backoff by
where the drive stands (R128), with what each brings (R125, R129, R130, R148; when the notices of a seat are handed is
the model's reading, notes/assumptions/18.md). -/
def Detected (s t : State) : Prop :=
  let apart := s.cfg.strokeFitted = true ∧
    s.cfg.mismatch < strokePosition s.pins.stroke.toNat s.cfg.closedReading s.cfg.openReading
  t.drive.state = .stopping ∧ t.drive.stopDl = some (after s.nt 200) ∧
  ((s.drive.state = .seating ∨ (s.drive.state ≠ .backoff ∧ s.drive.dir = some .closing ∧
      s.pos.count ≤ (s.cfg.seatBand : Int))) →
    t.drive.continuation = some .goal ∧ t.drive.seatRecord = some 0 ∧ t.supply.sagCount = 0 ∧
    t.pos.count = 0 ∧ t.pos.windowStart = s.pos.windowStart - s.pos.count ∧ t.pos.referenced = true ∧
    (¬apart → suspect t = false) ∧ (apart → t.pos.reasons = Reasons.empty.add .mismatch) ∧
    t.drive.retry = s.drive.retry ∧
    ((suspect s = true ↔ apart) ∨ acting s = none → t.levels = s.levels ∧ t.drive.goal = s.drive.goal) ∧
    (∀ l, acting s = some l →
      (suspect s = true → ¬apart →
        let own : Goal := ⟨l, if l = .demand then s.levels.demandTarget.getD .seat else .seat⟩
        t.levels.handed = some own ∧ t.drive.goal = some own) ∧
      (suspect s = false → apart → t.levels.handed = some ⟨l, .seat⟩ ∧ t.drive.goal = some ⟨l, .seat⟩))) ∧
  (s.drive.state = .ramp ∨ s.drive.state = .travel ∨ s.drive.state = .approach →
    (s.drive.dir = some .closing → (s.cfg.seatBand : Int) < s.pos.count →
      t.drive.continuation = some .backoff ∧ t.drive.retry = s.drive.retry + 1 ∧ t.pos.count = s.pos.count) ∧
    (s.drive.dir = some .opening →
      t.drive.continuation = some .verdict ∧ t.drive.retry = s.drive.retry + 1 ∧ t.pos.count = s.pos.count)) ∧
  (s.drive.state = .backoff → t.drive.continuation = some .verdict ∧ t.drive.retry = s.drive.retry ∧
    t.pos.count = s.pos.count)

/-- The Intent List: at most 8 entries, each before those it outranks, no two of one source (R100), the own entry,
which is the one of the line id, standing in it just while a request is SETTLING or WAITING (R105, R108, R111), and
running set just while ADMITTED (R108, R110). -/
def EntriesLawful (s : State) : Prop :=
  s.supply.entries.length ≤ 8 ∧
  s.supply.entries.Pairwise (fun a b => a.outranks b = true ∧ a.source ≠ b.source) ∧
  (∀ e ∈ s.supply.entries, e.own = (e.source == lineId s)) ∧
  ((∃ e ∈ s.supply.entries, e.own = true) ↔
    (s.supply.admission = .settling ∨ s.supply.admission = .waiting)) ∧
  (s.supply.own.isSome = true ↔ (s.supply.admission = .settling ∨ s.supply.admission = .waiting)) ∧
  (s.supply.running = true ↔ s.supply.admission = .admitted)

/-- An entry of the drive into IDLE led from `s` to `t`: the supply left (R110, R111), the retry count 0, the marks clear
(R127, R129), the hold reference renewed while a level acts (R86) and the cross-check deadline set, in a node without
the stroke part too (notes/assumptions/28.md). In a node with it the comparison of R151 is made: a sensor that is apart
adds MISMATCH, and where that is the onset of suspect while a level acts closed-seated is handed in its name (R85), for
which the drive asks for the supply where that goal needs motion (R120), unless a controlled stop holds it (R138). -/
def CameToRest (s t : State) : Prop :=
  let apart := s.cfg.strokeFitted = true ∧ s.pos.referenced = true ∧ s.cfg.mismatch <
    gap (strokePosition s.pins.stroke.toNat s.cfg.closedReading s.cfg.openReading) (position s)
  let stays := t.drive.state = .idle ∧ t.supply.admission = .none ∧ (EntriesLawful s → t.supply.own = none) ∧
    t.pos.crossCheckDl = some (after s.nt 10000)
  t.drive.retry = 0 ∧ t.drive.yieldMark = false ∧ t.drive.heldChange = false ∧ t.drive.heldClose = false ∧
  (EntriesLawful s → t.supply.running = false) ∧
  t.pos.count = s.pos.count ∧ t.pos.referenced = s.pos.referenced ∧
  (apart → t.pos.reasons = s.pos.reasons.add .mismatch) ∧ (¬apart → t.pos.reasons = s.pos.reasons) ∧
  t.levels.holdRef = (if acting s = none then s.levels.holdRef else some (position s)) ∧
  (¬apart ∨ suspect s = true ∨ acting s = none →
    stays ∧ t.drive.goal = s.drive.goal ∧ t.levels.handed = s.levels.handed) ∧
  (∀ l, apart → suspect s = false → acting s = some l →
    t.drive.goal = some ⟨l, .seat⟩ ∧ t.levels.handed = some ⟨l, .seat⟩ ∧
    (needsMotion ⟨l, .seat⟩ s = false ∨ s.drive.controlledStop = true → stays) ∧
    (needsMotion ⟨l, .seat⟩ s = true → s.drive.controlledStop = false →
      t.drive.state = .waitSlot ∧ t.pos.crossCheckDl = none ∧
      (s.safe = false → t.supply.admission = .settling ∧ t.supply.own = some (l, .closing) ∧
        t.supply.settleDl = some (after s.nt 250))))

/-- A drive that waited went on from `s` to `t` by its goal in hand (R131, R132, R137): where that needs motion it is in
WAIT_SLOT with this retry count and has asked for the supply (R105); otherwise it came to rest. -/
def WentOn (retry : Nat) (s t : State) : Prop :=
  (∀ g, s.drive.goal = some g → needsMotion g s = true →
    t.drive.state = .waitSlot ∧ t.drive.goal = some g ∧ t.drive.retry = retry ∧ t.drive.yieldMark = false ∧
    t.drive.heldChange = false ∧ t.drive.heldClose = false ∧ t.pos.count = s.pos.count ∧
    t.pos.reasons = s.pos.reasons ∧ t.levels.handed = s.levels.handed ∧ t.levels.holdRef = s.levels.holdRef ∧
    (s.safe = false → t.supply.admission = .settling ∧ t.supply.own = some (g.level, requestDir g s) ∧
      t.supply.settleDl = some (after s.nt 250))) ∧
  ((∀ g, s.drive.goal = some g → needsMotion g s = false) → CameToRest s t)

/-- `s` with a goal in hand, and with the levels of `t` but for the hold reference and a handed goal. -/
def withGoal (g handed : Option Goal) (s t : State) : State :=
  { s with
    levels := { t.levels with handed := handed, holdRef := s.levels.holdRef }
    drive := { s.drive with goal := g } }

/-- A CLOSE, by the line or by the button, led from `s` to `t` in a drive that waits or carries out an obstruction (R88,
R89): the closing goal of a DEMAND that acts is handed, then the close notice. BLOCKED goes on with the retry count
forgiven (R132), RETRY_WAIT with it kept unless the goal changed (R131); in BACKOFF and in the braking for BACKOFF,
VERDICT or SAG the notice is held (R127, R135), with a change of goal held beside it but for SAG; a braking of another
continuation and SAG_WAIT take the goal alone. -/
def CloseTaken (s t : State) : Prop :=
  let g := if t.levels.demand = .acting then some ⟨.demand, .seat⟩ else s.drive.goal
  let given := withGoal g (if t.levels.demand = .acting then g else s.levels.handed) s t
  let changed := decide (g ≠ s.drive.goal)
  let holds := fun (close change : Bool) => t.drive = { s.drive with
    goal := g, heldClose := s.drive.heldClose || close, heldChange := s.drive.heldChange || change
    refreshDl := t.drive.refreshDl, refuseUntil := t.drive.refuseUntil }
  (s.supply.admission ≠ .admitted →
    (s.drive.state = .blocked → WentOn 0 given t) ∧
    (s.drive.state = .retryWait → WentOn (if changed then 0 else s.drive.retry) given t)) ∧
  (s.drive.state = .backoff → holds true changed) ∧
  (s.drive.state = .stopping →
    (s.drive.continuation = some .backoff ∨ s.drive.continuation = some .verdict → holds true changed) ∧
    (s.drive.continuation = some .sag → holds true false) ∧
    (s.drive.continuation = some .goal ∨ s.drive.continuation = some .yield ∨ s.drive.continuation = some .halt →
      holds false false)) ∧
  (s.drive.state = .sagWait → holds false false)

/-- Every block stands at its start values (Figures 1-10, 2-18, 4-5, 5-3, 6-4, 7-4 and 8-4, R160), count, referenced flag
and reasons apart; `storm` and `rain` say which levels are restored as ARMED (R79, R98). The start values that the spec
does not give are the model's choice (notes/assumptions/4.md, 17.md, 31.md and 37.md). -/
def AtStart (storm rain : Bool) (t : State) : Prop :=
  t.nt = 0 ∧ t.listen = true ∧ t.cfg = (loadConfig t.stored).1 ∧ t.safe = (loadConfig t.stored).2 ∧
  t.store = startStore ∧ t.sensor = startSensor ∧ t.line = startLine ∧ t.peers = [] ∧ t.supply = startSupply ∧
  t.drive = startDrive ∧
  t.weather = {
    startWindow := true, windStatus := .pending, source := none, sourceDir := none, exposure := none, load := none
    limit := t.cfg.stormLimit, stormHolds := false, rainHolds := false
    stormQuietDl := if storm then some (after 0 (1000 * t.cfg.stormQuiet)) else none
    rainQuietDl := if rain then some (after 0 (1000 * t.cfg.rainQuiet)) else none
    evidence := 0, prevGust := 0, anem := if t.cfg.windFitted then .ok else .absent
    periodicDl := after 2000 (32 * lineId t), firstPeriodic := true, holdoffDl := none, deferred := none } ∧
  t.levels = {
    storm := if storm then .armed else .quiet, rain := if rain then .armed else .quiet, demand := .quiet
    rainTarget := none, demandTarget := none, expiryDl := none, serviceHold := false, handed := none
    holdRef := none } ∧
  t.pos = { t.pos with
    hall := t.pins.hall, windowStart := t.pos.count, windowBegin := 0, velocity := 0, crossCheckDl := some 10000
    lastReported := position t }

/-- The Position Tracker has taken the items of a record (R154, R161): POWER_IN_MOTION is added where they were in motion,
and a count outside its bounds is brought to the nearer one with OVERRANGE. -/
def Restored (items : RecordItems) (t : State) : Prop :=
  let reasons := if items.inMotion then items.reasons.add .powerInMotion else items.reasons
  (-1024 ≤ items.count → items.count ≤ (t.cfg.stroke : Int) + 1024 → t.pos.count = items.count ∧
    t.pos.reasons = reasons ∧ t.pos.referenced = (items.referenced && !items.inMotion)) ∧
  (items.count < -1024 → t.pos.count = -1024 ∧ t.pos.reasons = reasons.add .overrange ∧ t.pos.referenced = false) ∧
  ((t.cfg.stroke : Int) + 1024 < items.count → t.pos.count = (t.cfg.stroke : Int) + 1024 ∧
    t.pos.reasons = reasons.add .overrange ∧ t.pos.referenced = false)

/-- A falling edge of the line as a receiver meets it: the µs without one since the sample of the edge before, or from
now, and its own sample 40 µs later, `true` for recessive (1). -/
structure LineEdge where
  quiet : Nat
  read : Bool
  deriving DecidableEq, Repr

/-- The receive assembly after so many µs without a falling edge, and the bits of the telegram that ended in them. -/
def Assembly.lapse (t : Nat) (a : Assembly) : Assembly × Option (List Bool) :=
  match a.stopIn with
  | none => (a.pass t, none)
  | some u => if u ≤ t then (.rest (a.quiet + t), a.ended) else (a.pass t, none)

/-- The receive assembly through a series of falling edges, up to the sample of the last, and the bits of the telegrams
that ended before one of them. -/
def Assembly.hear : Assembly → List LineEdge → Assembly × List (List Bool)
  | a, [] => (a, [])
  | a, e :: es =>
    let r := a.lapse e.quiet
    let n := (((r.1.fall 0).pass 40).sample e.read).hear es
    (n.1, r.2.toList ++ n.2)

/-- Each response level is in the state that an appointment gives it (R81). -/
def LevelsLawful (s : State) : Prop :=
  s.levels.storm = appointed .storm (chosenLevel s) s.levels.storm ∧
  s.levels.rain = appointed .rain (chosenLevel s) s.levels.rain ∧
  s.levels.demand = appointed .demand (chosenLevel s) s.levels.demand

/-- The transmit queue holds at most one telegram of each kind, never an INTENT together with a WITHDRAW (R31), and
nothing in a listen-only node (R30). -/
def QueueLawful (s : State) : Prop :=
  (s.line.queue.map Queued.kind).Nodup ∧
  (s.line.holds .intent = true → s.line.holds .withdraw = false) ∧
  (s.line.listenOnly = true → s.line.queue = [])

/-- A peer record is one that R43, R44 and R47 allow: an id from 1 to 62 that is not the line id, at least one part,
and the keep class its parts earn. -/
def recordLawful (s : State) (r : PeerRecord) : Prop :=
  r.source ≠ 0 ∧ r.source ≤ 62 ∧ r.source ≠ lineId s ∧ (r.obs.isSome = true ∨ r.st.isSome = true) ∧
  r.keep = keepOf s r.obs r.st

/-- The Peer Table: at most 24 lawful records, in strictly rising order of source id (R43). -/
def PeersLawful (s : State) : Prop :=
  s.peers.length ≤ 24 ∧ s.peers.Pairwise (fun a b => a.source < b.source) ∧ ∀ r ∈ s.peers, recordLawful s r

/-- The count lies within −1024 and stroke + 1024 (R143). -/
def CountInBounds (s : State) : Prop := -1024 ≤ s.pos.count ∧ s.pos.count ≤ (s.cfg.stroke : Int) + 1024

/-- The retry count never exceeds the retry limit plus one (R129). -/
def RetryBounded (s : State) : Prop := s.drive.retry ≤ s.cfg.retryLimit + 1

/-- The deadline that ends a drive state, for the states that one ends (R122, R123, R126, R127, R130, R131, R137,
R163). -/
def Drive.endsBy (d : Drive) : Prop :=
  match d.state with
  | .warning => d.warningDl.isSome = true
  | .ramp => d.rampStepDl.isSome = true
  | .seating => d.seatTimeoutDl.isSome = true ∨ d.safeSeatDl.isSome = true
  | .stopping => d.stopDl.isSome = true
  | .backoff => d.backoffDl.isSome = true
  | .retryWait => d.retryDl.isSome = true
  | .sagWait => d.holdoffDl.isSome = true
  | .idle => True
  | .waitSlot => True
  | .travel => True
  | .approach => True
  | .blocked => True

/-- The drive hangs in no state that a deadline ends, and the cross-check deadline is set just in IDLE (R151). -/
def DriveTimed (s : State) : Prop :=
  s.drive.endsBy ∧ (s.pos.crossCheckDl.isSome = true ↔ s.drive.state = .idle)

/-- The pattern that the drive's state plays (Figure 7-1, R139): WARN in WARNING, FAULT in BLOCKED, on skylights MOVING
while the bridge is energised, otherwise none. -/
def DriveSounded (s : State) : Prop :=
  s.drive.pattern = match s.drive.state with
    | .warning => some .warn
    | .blocked => some .fault
    | .ramp => if s.cfg.skylight then some .moving else none
    | .travel => if s.cfg.skylight then some .moving else none
    | .approach => if s.cfg.skylight then some .moving else none
    | .seating => if s.cfg.skylight then some .moving else none
    | .backoff => if s.cfg.skylight then some .moving else none
    | .idle => none
    | .waitSlot => none
    | .stopping => none
    | .retryWait => none
    | .sagWait => none

/-- The safe seat belongs to the safe profile (R163), in which no goal is handed (R96); its warning is a WARNING of the
drive (a controlled stop ends both at once, notes/assumptions/43.md). -/
def SafeSeatLawful (s : State) : Prop :=
  (s.safe = false → s.drive.safePhase = .notBegun) ∧
  (s.safe = true → s.levels.handed = none ∧
    (s.drive.safePhase = .warning → s.drive.state = .warning))

end Sys2Proof.Machine
end

