-- ==== Sys2Proof/WellFormed.lean ====
section
/-! DEFINITION. Well-formed commands: their operands are what their own event can bring. -/

namespace Sys2Proof

open Machine

/-- A read-back is of at least one bit and of at most the 72 bits of the longest telegram (Figure 2-3). -/
def wfRead (read : List Bool) : Bool := decide (0 < read.length) && decide (read.length ≤ 72)

/-- The bits of an arrival are a telegram that is received and is of the command's own form. -/
def wfArrival (mine : Frame → Bool) (bits : List Bool) : Bool :=
  match receive bits with
  | none => false
  | some f => mine f

/-- Well-formedness of a command. -/
def Instr.wf : Instr → Bool
  | .powerUp => true
  | .logicSupplyLoss _ => true
  | .backupRailLoss => true
  | .listenEnd => true
  | .safeSeatDeadline => true
  | .anemometerEdge => true
  | .windowEnd _ => true
  | .startWindowEnd => true
  | .stormExpiry => true
  | .rainExpiry => true
  | .gridSample _ => true
  | .buttonSample _ _ => true
  | .keySample _ => true
  | .demandExpiry => true
  | .transmissionStart => true
  | .transmissionLost read => wfRead read
  | .identityClash read => wfRead read
  | .transmissionComplete read => wfRead read
  | .observeArrival bits => wfArrival (ofKind .observe) bits
  | .stateArrival bits => wfArrival (ofKind .state) bits
  | .intentArrival bits => wfArrival (ofKind .intent) bits
  | .withdrawArrival bits => wfArrival (ofKind .withdraw) bits
  | .requestOpenTo bits => wfArrival (ofAction 0) bits
  | .requestClose bits => wfArrival (ofAction 1) bits
  | .requestStop bits => wfArrival (ofAction 2) bits
  | .requestRelease bits => wfArrival (ofAction 3) bits
  | .requestRestart bits => wfArrival (ofAction 4) bits
  | .restartStart => true
  | .configureOpen bits => wfArrival (ofOperation 0) bits
  | .configureWrite bits => wfArrival (ofOperation 1) bits
  | .configureRead bits => wfArrival (ofOperation 2) bits
  | .recordArrival bits => wfArrival (ofKind .record) bits
  | .writeComplete _ _ => true
  | .commissioningWindowDeadline => true
  | .isolationDeadline => true
  | .periodicObserveDeadline => true
  | .immediateHoldoffExpiry => true
  | .runningRefreshDeadline => true
  | .peerScan => true
  | .settleDeadline => true
  | .intentRefreshDeadline => true
  | .intentEntryAged source => decide (1 ≤ source.toNat) && decide (source.toNat ≤ 62)
  | .sag => true
  | .supplyBelowHallFloor reading => decide (reading < 160)
  | .overCurrent => true
  | .velocityWindowEnd => true
  | .warningDeadline => true
  | .rampStep => true
  | .stopDeadline => true
  | .seatTimeout => true
  | .backoffDeadline => true
  | .retryDeadline => true
  | .sagHoldoffDeadline => true
  | .refuseEnd => true
  | .hallStep _ => true
  | .hallSkip _ => true
  | .crossCheckDeadline _ => true
  | .arrivalNotHandedOn bits => wfArrival (fun f => ofKind .request f || ofKind .configure f) bits

/-- The bits of a command that carries a telegram received. -/
def Instr.arrivalBits : Instr → Option (List Bool)
  | .powerUp => none
  | .logicSupplyLoss _ => none
  | .backupRailLoss => none
  | .listenEnd => none
  | .safeSeatDeadline => none
  | .anemometerEdge => none
  | .windowEnd _ => none
  | .startWindowEnd => none
  | .stormExpiry => none
  | .rainExpiry => none
  | .gridSample _ => none
  | .buttonSample _ _ => none
  | .keySample _ => none
  | .demandExpiry => none
  | .transmissionStart => none
  | .transmissionLost _ => none
  | .identityClash _ => none
  | .transmissionComplete _ => none
  | .observeArrival bits => some bits
  | .stateArrival bits => some bits
  | .intentArrival bits => some bits
  | .withdrawArrival bits => some bits
  | .requestOpenTo bits => some bits
  | .requestClose bits => some bits
  | .requestStop bits => some bits
  | .requestRelease bits => some bits
  | .requestRestart bits => some bits
  | .restartStart => none
  | .configureOpen bits => some bits
  | .configureWrite bits => some bits
  | .configureRead bits => some bits
  | .recordArrival bits => some bits
  | .writeComplete _ _ => none
  | .commissioningWindowDeadline => none
  | .isolationDeadline => none
  | .periodicObserveDeadline => none
  | .immediateHoldoffExpiry => none
  | .runningRefreshDeadline => none
  | .peerScan => none
  | .settleDeadline => none
  | .intentRefreshDeadline => none
  | .intentEntryAged _ => none
  | .sag => none
  | .supplyBelowHallFloor _ => none
  | .overCurrent => none
  | .velocityWindowEnd => none
  | .warningDeadline => none
  | .rampStep => none
  | .stopDeadline => none
  | .seatTimeout => none
  | .backoffDeadline => none
  | .retryDeadline => none
  | .sagHoldoffDeadline => none
  | .refuseEnd => none
  | .hallStep _ => none
  | .hallSkip _ => none
  | .crossCheckDeadline _ => none
  | .arrivalNotHandedOn bits => some bits

end Sys2Proof
end

