-- ==== Sys2Proof/Certificates/Slice0/Obligations.lean ====
section
/-! DEFINITION. The statements for the provers. In each, `Ready s` says that the node has logic supply and stands
between two commands; a next state written as an update of `s` says what the command changes and that nothing else
changes. -/

section

open Sys2Proof Sys2Proof.Machine

/-! ### The machine and its clock -/

/-- A step on a queue of commands carries out the one at its front with the rest. -/
def Obligations.StepTakesTheFrontCommand : Prop :=
  ∀ (c : Instr) (rest : List Instr) (s : State), s.pending = c :: rest → step s = exec c (s.setPending rest)

/-- The clock on an empty queue (the model's choice, notes/assumptions/1.md, 3.md, 4.md and 12.md): without supply only
the levels outside go on, unsampled (notes/assumptions/33.md); with it the commands due at this NT, once; then, at any
instant of the millisecond, a restart whose drive has come to rest and a transmission on an idle line begin at once;
else time goes on to the line's next event: the stop of the assembly, where a telegram that ends waits as its command;
the sample 40 µs after a falling edge, 0 when the line is dominant, where the outcome of a transmission waits as its
command; the begin of a pulse, a falling edge where the line was recessive (or, the model's choice, at the node's own
next bit); or, with none of them before it, the end of the millisecond, where NT rises, the pins take their next levels
and the supply is read. Which commands are due is said one by one: each sample at its multiple of NT, each Hall change,
each timer that has run its time, each deadline that has passed in the state it belongs to, and nothing else. The
reading runs the sag timer and the over-current timer of an energised bridge. -/
def Obligations.ClockIssuesThenAdvances : Prop :=
  (∀ s : State, s.pending = [] →
     (s.power = false → step s = .next { s with
       pins := s.pinFeed.headD s.pins, pinFeed := s.pinFeed.tail
       lineFeed := ⟨1000, (unwatched s.lineFeed.left s.lineFeed.held s.lineFeed.pulses).1,
         (unwatched s.lineFeed.left s.lineFeed.held s.lineFeed.pulses).2⟩ }) ∧
     (s.power = true → s.served = false →
       step s = .next { s with served := true, pending := dueCommands s }) ∧
     (s.power = true → s.served = true → restartReady s = true →
       step s = .next { s with pending := [.restartStart] }) ∧
     (s.power = true → s.served = true → restartReady s = false → mayTransmit s = true →
       step s = .next { s with pending := [.transmissionStart] }) ∧
     (s.power = true → s.served = true → restartReady s = false → mayTransmit s = false →
       (∀ u e, nextEvent s = some (u, e) → u < s.lineFeed.left →
         let line : Line := { s.line with
           assembly := s.line.assembly.pass u, samples := s.line.samples.map (· + u), driven := s.line.driven - u }
         let feed : LineFeed := ⟨s.lineFeed.left - u, s.lineFeed.held - u, sooner u s.lineFeed.pulses⟩
         let dominant := 0 < line.driven ∨ 0 < feed.held
         (e = .stop → step s = .next { s with
           line := { line with assembly := .rest line.assembly.quiet }
           lineFeed := feed
           pending := line.assembly.ended.toList.filterMap (arrivalCommand s) }) ∧
         (e = .sample → ∀ read : Bool, (read = true ↔ ¬dominant) → step s = .next { s with
           line := line.sample read
           lineFeed := feed
           pending := (match s.line.inFlight with
             | none => []
             | some f =>
               let bits := f.read ++ [read]
               match readBack f.frame.bits bits with
               | .ongoing => []
               | .lost => [.transmissionLost bits]
               | .clash => [.identityClash bits]
               | .completed => [.transmissionComplete bits]) }) ∧
         (e = .begin →
           let came := feed.pulses.takeWhile (fun p => p.wait == 0) |>.take 1
           let now : LineFeed :=
             ⟨feed.left, came.foldl (fun h p => max h p.width) feed.held, feed.pulses.drop came.length⟩
           let falls := (line.nextBit.isSome = true ∧ 80 ≤ line.assembly.quiet) ∨
             ((∃ p ∈ came, 0 < p.width) ∧ ¬dominant)
           (¬falls → step s = .next { s with line := line, lineFeed := now }) ∧
           (falls → step s = .next { s with
             line := { line with
               assembly := line.assembly.fall line.samples.length
               samples := line.samples ++ [0]
               driven := match line.nextBit with
                 | none => line.driven
                 | some b => if b then 27 else 54 }
             lineFeed := now }))) ∧
       ((∀ u e, nextEvent s = some (u, e) → s.lineFeed.left ≤ u) → ∃ t, step s = .next t ∧
         t = { s with
           nt := s.nt + 1, served := false, pins := s.pinFeed.headD s.pins, pinFeed := s.pinFeed.tail
           lineFeed := ⟨1000, s.lineFeed.held - s.lineFeed.left, sooner s.lineFeed.left s.lineFeed.pulses⟩
           line := { s.line with
             assembly := s.line.assembly.pass s.lineFeed.left
             samples := s.line.samples.map (· + s.lineFeed.left)
             driven := s.line.driven - s.lineFeed.left }
           supply := { s.supply with sagTimer := t.supply.sagTimer }
           drive := { s.drive with ocTimer := t.drive.ocTimer } }))) ∧
  (∀ (s : State) (c : Instr), c ∈ dueCommands s ↔ match c with
     | .supplyBelowHallFloor v => v = s.pins.supply ∧ v < 160 ∧ energised s = true
     | .overCurrent => energised s = true ∧ ∃ since, s.drive.ocTimer = some since ∧ 100 ≤ (s.nt - since).toNat
     | .sag => energised s = true ∧ s.safe = false ∧ ∃ since, s.supply.sagTimer = some since ∧ 50 ≤ (s.nt - since).toNat
     | .hallStep pair => pair = s.pins.hall ∧ (pair = hallNext s.pos.hall ∨ s.pos.hall = hallNext pair)
     | .hallSkip pair => pair = s.pins.hall ∧ pair = ~~~s.pos.hall
     | .gridSample v => v = s.pins.grid ∧ s.cfg.wetFitted = true ∧ s.nt.toNat % 250 = 0 ∧ s.sensor.gridAt ≠ some s.nt
     | .buttonSample openDown closeDown => openDown = s.pins.openDown ∧ closeDown = s.pins.closeDown ∧
         s.nt.toNat % 10 = 0 ∧ s.sensor.buttonsAt ≠ some s.nt
     | .keySample on => on = s.pins.keyOn ∧ s.nt.toNat % 10 = 0 ∧ s.sensor.keyAt ≠ some s.nt
     | .velocityWindowEnd => s.nt.toNat % 100 = 0 ∧ s.nt.toNat / 100 ≠ s.pos.windowBegin.toNat / 100
     | .windowEnd vane => vane = s.pins.vane ∧ s.nt.toNat % 1000 = 0 ∧
         s.nt.toNat / 1000 ≠ s.sensor.windowBegin.toNat / 1000
     | .peerScan => s.nt.toNat % 1000 = 500
     | .listenEnd => s.listen = true ∧ passed s.nt 2000 = true
     | .demandExpiry => due s.nt s.levels.expiryDl = true
     | .isolationDeadline => s.line.isolated = false ∧ passed s.nt s.line.isolationDl = true
     | .periodicObserveDeadline => s.safe = false ∧ passed s.nt s.weather.periodicDl = true
     | .immediateHoldoffExpiry => due s.nt s.weather.holdoffDl = true
     | .runningRefreshDeadline => s.supply.running = true ∧ due s.nt s.drive.refreshDl = true
     | .intentEntryAged source => ∃ e ∈ s.supply.entries, e.own = false ∧ passed s.nt (after e.heardAt 5001) = true ∧
         source = BitVec.ofNat 6 e.source
     | .settleDeadline => s.supply.admission = .settling ∧ due s.nt s.supply.settleDl = true
     | .intentRefreshDeadline => (s.supply.admission = .settling ∨ s.supply.admission = .waiting) ∧
         due s.nt s.supply.refreshDl = true
     | .warningDeadline => s.drive.state = .warning ∧ due s.nt s.drive.warningDl = true
     | .rampStep => s.drive.state = .ramp ∧ due s.nt s.drive.rampStepDl = true
     | .stopDeadline => s.drive.state = .stopping ∧ due s.nt s.drive.stopDl = true
     | .seatTimeout => s.drive.state = .seating ∧ due s.nt s.drive.seatTimeoutDl = true
     | .safeSeatDeadline => s.drive.state = .seating ∧ s.drive.safePhase = .seating ∧ due s.nt s.drive.safeSeatDl = true
     | .backoffDeadline => s.drive.state = .backoff ∧ due s.nt s.drive.backoffDl = true
     | .retryDeadline => s.drive.state = .retryWait ∧ due s.nt s.drive.retryDl = true
     | .sagHoldoffDeadline => s.drive.state = .sagWait ∧ due s.nt s.drive.holdoffDl = true
     | .refuseEnd => due s.nt s.drive.refuseUntil = true
     | .crossCheckDeadline stroke => stroke = s.pins.stroke ∧ s.cfg.strokeFitted = true ∧ s.drive.state = .idle ∧
         due s.nt s.pos.crossCheckDl = true
     | .writeComplete value check => ∃ w, s.store.writing = some w ∧ passed s.nt w.deadline = true ∧ value = w.value ∧
         check = checkBits w.value
     | .commissioningWindowDeadline => s.store.isOpen = true ∧ due s.nt s.store.deadline = true
     | _ => False) ∧
  (∀ s : State, s.pending = [] → s.power = true → s.served = true → restartReady s = false →
     mayTransmit s = false → (∀ u e, nextEvent s = some (u, e) → s.lineFeed.left ≤ u) →
     ∃ t, step s = .next t ∧
       (s.drive.state.energised = false →
         t.supply.sagTimer = s.supply.sagTimer ∧ t.drive.ocTimer = s.drive.ocTimer) ∧
       (s.drive.state.energised = true → s.safe = false → t.pins.supply < s.cfg.sagThreshold →
         t.supply.sagTimer = some (s.supply.sagTimer.getD (s.nt + 1))) ∧
       (s.drive.state.energised = true → s.safe = false → s.cfg.sagThreshold ≤ t.pins.supply →
         t.supply.sagTimer = none) ∧
       (s.drive.state.energised = true → due (s.nt + 1) s.drive.checkStart = false →
         t.drive.ocTimer = s.drive.ocTimer) ∧
       (s.drive.state.energised = true → due (s.nt + 1) s.drive.checkStart = true →
         currentLimit s < t.pins.current → t.drive.ocTimer = some (s.drive.ocTimer.getD (s.nt + 1))) ∧
       (s.drive.state.energised = true → due (s.nt + 1) s.drive.checkStart = true →
         t.pins.current ≤ currentLimit s → t.drive.ocTimer = none))

/-- Every command, in every state, ends in a next state, and touches neither the commands that wait nor what the pins
and the line will show. That no command stops the node and that a command whose event has not come is none, without
supply every one but a rise of it, the rail's fall and a move of the Hall pins (notes/assumptions/33.md), is the
model's choice (notes/assumptions/5.md and 22.md), and so are the queue and the two feeds (notes/assumptions/3.md and
4.md), of which a start begins a new millisecond (notes/assumptions/1.md). -/
def Obligations.EveryCommandGoesOn : Prop :=
  ∀ (c : Instr) (s : State), ∃ t, exec c s = .next t ∧ t.pending = s.pending ∧ t.pinFeed = s.pinFeed ∧
    t.lineFeed.held = s.lineFeed.held ∧ t.lineFeed.pulses = s.lineFeed.pulses ∧ (c ≠ .powerUp → c ≠ .restartStart → t.lineFeed = s.lineFeed)

/-- Right after reset: node time 0 in LISTEN, the factory's stored fields (all of them valid, with the factory id 0 that
puts the node in the safe profile), and every block at the values the spec gives for a cold start. That reset is this
start is the model's choice (notes/assumptions/2.md), and so is the 0 µs since a falling edge in the receive assembly,
for which the spec gives no start value (notes/assumptions/4.md). -/
def Obligations.ResetIsTheFirstColdStart : Prop :=
  State.reset.nt = 0 ∧ State.reset.listen = true ∧ State.reset.safe = true ∧
  State.reset.stored.map (fun f => (checkField f).1.toNat) = defaultValues ∧
  State.reset.stored.all (fun f => (checkField f).2 == .ok) = true ∧
  State.reset.cfg = defaultConfig ∧ State.reset.store.isOpen = false ∧
  State.reset.retained.items = ⟨0, false, ⟨false, false, false, false, false, true, false⟩, false, false, false⟩ ∧
  State.reset.retained.valid = true ∧
  State.reset.pos.count = 0 ∧ State.reset.pos.referenced = false ∧ suspect State.reset = true ∧
  position State.reset = 0 ∧ State.reset.pos.crossCheckDl = some 10000 ∧
  State.reset.line.queue = [] ∧ State.reset.line.assembly = .absent 0 ∧ State.reset.line.inFlight = none ∧
  State.reset.line.samples = [] ∧ lineDriven State.reset = false ∧
  State.reset.line.clashes = [] ∧
  State.reset.line.isolationDl = 60000 ∧ State.reset.peers = [] ∧
  State.reset.levels.storm = .quiet ∧ State.reset.levels.rain = .quiet ∧ State.reset.levels.demand = .quiet ∧
  State.reset.levels.handed = none ∧ State.reset.levels.serviceHold = false ∧
  State.reset.supply.entries = [] ∧ State.reset.supply.admission = .none ∧ State.reset.supply.running = false ∧
  State.reset.drive.state = .idle ∧ State.reset.drive.goal = none ∧ State.reset.drive.retry = 0 ∧
  State.reset.weather.startWindow = true ∧ State.reset.weather.windStatus = .pending ∧
  State.reset.weather.anem = .absent ∧ State.reset.weather.periodicDl = 2000 ∧
  State.reset.sensor.wet = .dry ∧ State.reset.sensor.ring = [0, 0, 0, 0, 0, 0, 0, 0] ∧
  State.reset.sensor.keySettled = none ∧ energised State.reset = false

/-- The state after reset satisfies every law that the invariant statements below say each step keeps (which start
reset stands for is the model's choice, notes/assumptions/2.md). -/
def Obligations.ResetMeetsTheLaws : Prop :=
  ReadyWhilePowered State.reset ∧ LevelsLawful State.reset ∧ QueueLawful State.reset ∧ PeersLawful State.reset ∧
  EntriesLawful State.reset ∧ CountInBounds State.reset ∧ RetryBounded State.reset ∧ DriveTimed State.reset ∧
  DriveSounded State.reset ∧ SafeSeatLawful State.reset

/-! ### Laws that every step keeps -/

/-- Every step ends with the Retained Record renewed: it mirrors the blocks, with a check byte that agrees, whenever the
node has logic supply (one renewal, at the end of a command, serves all its changes: the model's reading,
notes/assumptions/11.md). That it does so after a fall of the backup rail, which leaves the sixteen bytes as they are,
is the model's choice (notes/assumptions/36.md), and so is the layout under the check byte (notes/assumptions/7.md). -/
def Obligations.StepKeepsTheRecordRenewed : Prop :=
  ∀ s t : State, ReadyWhilePowered s → step s = .next t → ReadyWhilePowered t

/-- Every step keeps the law of the appointment: the levels are as an appointment leaves them. So after every step at
most one level is ACTING, none while service hold is on, in LISTEN or in the safe profile, no level above the ACTING
one is ARMED, and while a level may act one acts unless all are QUIET. -/
def Obligations.StepKeepsTheAppointment : Prop :=
  ∀ s t : State, LevelsLawful s → step s = .next t → LevelsLawful t ∧
    ¬(t.levels.storm = .acting ∧ t.levels.rain = .acting) ∧ ¬(t.levels.storm = .acting ∧ t.levels.demand = .acting) ∧
    ¬(t.levels.rain = .acting ∧ t.levels.demand = .acting) ∧
    (t.levels.serviceHold = true ∨ t.listen = true ∨ t.safe = true →
      t.levels.storm ≠ .acting ∧ t.levels.rain ≠ .acting ∧ t.levels.demand ≠ .acting) ∧
    (t.levels.rain = .acting → t.levels.storm ≠ .armed) ∧
    (t.levels.demand = .acting → t.levels.storm ≠ .armed ∧ t.levels.rain ≠ .armed) ∧
    (t.levels.serviceHold = false → t.listen = false → t.safe = false →
      (t.levels.storm = .quiet ∧ t.levels.rain = .quiet ∧ t.levels.demand = .quiet) ∨
      t.levels.storm = .acting ∨ t.levels.rain = .acting ∨ t.levels.demand = .acting)

/-- Every step keeps the transmit queue lawful; every step keeps the Peer Table within its bounds, in order, and each
record lawful; every step keeps the Intent List and the admission in agreement. -/
def Obligations.StepKeepsTheTablesLawful : Prop :=
  (∀ s t : State, QueueLawful s → step s = .next t → QueueLawful t) ∧
  (∀ s t : State, PeersLawful s → step s = .next t → PeersLawful t) ∧
  (∀ s t : State, EntriesLawful s → step s = .next t → EntriesLawful t)

/-- Every step keeps the count within its bounds and the retry count within the retry limit plus one (the clamp of the
second is the model's choice, notes/assumptions/32.md); every step keeps the drive timed: no state that a deadline
ends is without its deadline, and the cross-check deadline is set just in IDLE, in a node without the stroke part too
(notes/assumptions/28.md); the drive plays the sounder pattern of its state; and the safe seat stays within the safe
profile, its warning a WARNING of the drive (a controlled stop ends both, the model's choice,
notes/assumptions/43.md). -/
def Obligations.StepKeepsTheDriveTimedAndBounded : Prop :=
  (∀ s t : State, CountInBounds s → RetryBounded s → step s = .next t → CountInBounds t ∧ RetryBounded t) ∧
  (∀ s t : State, DriveTimed s → step s = .next t → DriveTimed t) ∧
  (∀ s t : State, DriveSounded s → step s = .next t → DriveSounded t) ∧
  (∀ s t : State, LevelsLawful s → SafeSeatLawful s → step s = .next t → SafeSeatLawful t)

/-- The bridge never drives one leg through both of its switches; energised it drives the diagonal of its direction with
its duty, in STOPPING it brakes, and in every other state, and without supply, all four gates are off. -/
def Obligations.BridgeNeverShootsThrough : Prop :=
  ∀ s : State,
    ((gates s).gh1 = .off ∨ (gates s).gl1 = .off) ∧ ((gates s).gh2 = .off ∨ (gates s).gl2 = .off) ∧
    (energised s = false → (gates s).gh1 = .off ∧ (gates s).gh2 = .off) ∧
    (s.power = false → gates s = ⟨.off, .off, .off, .off⟩) ∧
    (energised s = true → s.drive.dir = some .closing →
      gates s = ⟨.switched s.drive.duty, .off, .off, .on⟩) ∧
    (energised s = true → s.drive.dir = some .opening →
      gates s = ⟨.off, .on, .switched s.drive.duty, .off⟩) ∧
    (s.power = true → s.drive.state = .stopping → gates s = ⟨.off, .on, .off, .on⟩) ∧
    (energised s = false → s.drive.state ≠ .stopping → gates s = ⟨.off, .off, .off, .off⟩)

/-- An energised bridge never changes its direction in one step, and while the node keeps its supply and its safe seat
is lawful (which every step keeps) it leaves its energised states only into STOPPING: between two directions lies a
braking. A bridge that was not energised is energised by a step only out of the end of a warning or of a braking, or
of an admission with a warning time of 0. (A POWER_UP of a node that has supply stands for a loss and a rise, which is
the model's choice, notes/assumptions/19.md.) -/
def Obligations.NoMotionWithoutWarningOrBraking : Prop :=
  (∀ s t : State, step s = .next t → energised s = true → energised t = true → t.drive.dir = s.drive.dir) ∧
  (∀ s t : State, SafeSeatLawful s → step s = .next t → energised s = true → energised t = false → t.power = true →
     (∀ rest, s.pending ≠ .powerUp :: rest) →
     t.drive.state = .stopping ∧ gates t = ⟨.off, .on, .off, .on⟩) ∧
  (∀ s t : State, step s = .next t → energised s = false → energised t = true →
     s.drive.state = .warning ∨ s.drive.state = .stopping ∨
       (s.drive.state = .waitSlot ∧ warningTime s.drive.goal s = 0))

/-- Whenever a command changes motion, acting level, suspect, blocked, service hold or running, a STATE is in the
transmit queue after it, unless placements are refused. That one STATE, with the fields as they are when the command
ends, serves all the changes of a command is the model's reading (notes/assumptions/11.md). -/
def Obligations.ChangedReportIsQueued : Prop :=
  ∀ (c : Instr) (s t : State), exec c s = .next t → reportedFields t ≠ reportedFields s →
    refusesPlacement .state t = false →
    ∃ e ∈ t.line.queue, e.kind = .state ∧ e.cls = .drive ∧ e.payload = statePayload t

/-- The loaded configuration and the profile change only at a start; a stored field changes only while a write of it is
in progress, and then only at the completion of the write or at a loss of power or a start, which cuts it short (that a
restart cuts a write, and that what a cut leaves may be a third valid value, is the model's choice,
notes/assumptions/9.md). -/
def Obligations.ConfigurationChangesOnlyAtStartsAndWrites : Prop :=
  (∀ (c : Instr) (s t : State), exec c s = .next t → c ≠ .powerUp → c ≠ .restartStart →
     t.cfg = s.cfg ∧ t.safe = s.safe) ∧
  (∀ (c : Instr) (s t : State), exec c s = .next t → c ≠ .powerUp → c ≠ .restartStart →
     (∀ torn, c ≠ .logicSupplyLoss torn) → (∀ value check, c ≠ .writeComplete value check) → t.stored = s.stored) ∧
  (∀ (c : Instr) (s t : State) (i : Nat), exec c s = .next t →
     (∀ w, s.store.writing = some w → w.index ≠ i) → t.stored[i]? = s.stored[i]?)

/-! ### Telegrams and the line (Chapter 2) -/

/-- A telegram made of any class, kind and source and of a payload of the kind's length is received as itself; and a
telegram received is the bits it was received from, so that no two bit sequences are received as one telegram. The
receive assembly takes a telegram from its falling edges, whatever edges of a 1 came before its start pulse: no earlier
than the quiet after its last check bit does it end, and then with just its bits (each quiet is counted from the sample,
40 µs after its edge). Cut short by a quiet of 160 µs it ends without trace, and an edge before its end spoils it until
the line has been quiet for 320 µs; an edge that comes with its end begins the next assembly (how the others' pulses
reach the node, and which of two events of one µs comes first, is the model's choice, notes/assumptions/4.md). The
payloads sent are byte by byte those of Figures 2-6 to 2-9, for fields that their bits can hold. -/
def Obligations.SendingAndReceivingAgree : Prop :=
  (∀ (cls : Machine.Class) (k : Kind) (src : Nat) (p : List Byte), p.length = k.payloadBytes →
     receive (makeFrame cls k src p).bits = some (makeFrame cls k src p)) ∧
  (∀ (bits : List Bool) (f : Frame), receive bits = some f → f.bits = bits) ∧
  (∀ (bits : List Bool) (f : Frame) (before after : List LineEdge) (gaps : List Nat), receive bits = some f →
     (∀ e ∈ before, e.read = true) → gaps.length = bits.length → (∀ g ∈ gaps, g < 120) →
     let edges := List.zipWith (fun g b => LineEdge.mk g b) gaps bits
     (∀ q, (Assembly.absent q).hear (before ++ edges) = (.reading bits 40, [])) ∧
     (∀ q, q < 200 → Assembly.lapse q (.reading bits 40) = (.reading bits (40 + q), none)) ∧
     (∀ q, 200 ≤ q → Assembly.lapse q (.reading bits 40) = (.absent (min 320 (40 + q)), some bits)) ∧
     (∀ n q, 1 ≤ n → n < bits.length → 120 ≤ q →
       ((Assembly.absent 0).hear (before ++ edges.take n)).1.lapse q = (.absent (min 320 (40 + q)), none)) ∧
     ((Assembly.absent 0).hear (before ++ edges ++ [⟨200, false⟩])) = (.reading [false] 40, [bits]) ∧
     (∀ e, e.quiet < 200 → (∀ x ∈ after, x.quiet < 280) →
       ((Assembly.absent 0).hear (before ++ edges ++ e :: after)) = (.spoiled 40, []) ∧
       Assembly.lapse 280 (.spoiled 40) = (.absent 320, none))) ∧
  (∀ (level : Level) (dir : Dir) (weight group : Nat), weight ≤ 15 → group ≤ 15 →
     intentPayload level dir weight group =
       [BitVec.ofNat 8 (64 * (match level with | .storm => 0 | .rain => 1 | .demand => 2) +
         32 * (match dir with | .closing => 0 | .opening => 1)), BitVec.ofNat 8 (16 * weight + group)] ∧
     withdrawPayload group = [BitVec.ofNat 8 group]) ∧
  (∀ s : State, s.cfg.weight ≤ 15 → s.cfg.group ≤ 15 → s.drive.retry ≤ 15 →
     let moves := match s.drive.state with
       | .backoff => 2
       | .ramp | .travel | .approach | .seating => (match s.drive.dir with
         | some .closing => 1
         | some .opening => 2
         | none => 0)
       | _ => 0
     let level := match acting s with
       | none => 0
       | some .storm => 1
       | some .rain => 2
       | some .demand => 3
     statePayload s =
       [BitVec.ofNat 8 (64 * moves + 16 * level + (if suspect s then 8 else 0) +
          (if s.drive.state = .blocked then 4 else 0) + (if s.levels.serviceHold then 2 else 0) +
          (if s.supply.running then 1 else 0)),
        BitVec.ofNat 8 (16 * s.cfg.weight + s.cfg.group),
        BitVec.ofNat 8 (position s / 256), BitVec.ofNat 8 (position s % 256),
        BitVec.ofNat 8 ((if s.levels.storm = .armed then 128 else 0) + (if s.levels.rain = .armed then 64 else 0) +
          (if s.levels.demand = .armed then 32 else 0) + s.drive.retry)]) ∧
  (∀ s : State, s.cfg.facade ≤ 15 → (∀ d ∈ s.sensor.direction, d ≤ 15) →
     let wet := match s.sensor.wet with
       | .dry => 0
       | .damp => 1
       | .wet => 2
       | .fault => 3
     let anem := match s.weather.anem with
       | .absent => 0
       | .ok => 1
       | .stuck => 2
     observePayload s =
       [BitVec.ofNat 8 (64 * wet + (if s.cfg.skylight then 32 else 0) + (if s.cfg.windFitted then 16 else 0) +
          s.cfg.facade),
        BitVec.ofNat 8 (64 * anem + (if s.cfg.wetFitted then 32 else 0) +
          (match s.sensor.direction with | none => 0 | some d => 16 + d)),
        BitVec.ofNat 8 (s.sensor.mean / 256), BitVec.ofNat 8 (s.sensor.mean % 256),
        BitVec.ofNat 8 (s.sensor.gust / 256), BitVec.ofNat 8 (s.sensor.gust % 256)])

/-- A telegram with any one of its bits inverted, from the start pulse to the last check bit, is not received. -/
def Obligations.OneWrongBitIsNeverReceived : Prop :=
  ∀ (pre post : List Bool) (b : Bool) (f : Frame), receive (pre ++ b :: post) = some f →
    receive (pre ++ (!b) :: post) = none

/-- Of two telegrams that begin together, the one of the higher arbitration field reads itself lost at their first
differing bit, which lies within the arbitration field, where the line carries a dominant level whenever either drives
one; the other has seen no difference up to and with that bit. -/
def Obligations.LowerArbitrationFieldWins : Prop :=
  ∀ a b : Frame, a.arbitration < b.arbitration →
    ∃ n, 1 ≤ n ∧ n ≤ 12 ∧ a.bits.take n = b.bits.take n ∧ a.bits[n]? ≠ b.bits[n]? ∧
      readBack a.bits (List.zipWith (· && ·) (a.bits.take (n + 1)) (b.bits.take (n + 1))) = .ongoing ∧
      readBack b.bits (List.zipWith (· && ·) (a.bits.take (n + 1)) (b.bits.take (n + 1))) = .lost

/-- The line is idle when no falling edge has been seen for 320 µs, whatever edges came before the last, and it reads
recessive, driven neither by the node nor by another station (how the others' pulses reach the node is the model's
choice, notes/assumptions/4.md). An idle line begins the head of the queue, with the line id as its source and with the
start pulse as the first falling edge of the node's own assembly, driven for 53.3 µs (54 whole ones,
notes/assumptions/4.md); nothing begins before the line is idle or while it is held dominant, while a transmission is in
progress, with an empty queue, or while the head's kind is refused. The node begins it by itself: at any instant at
which the line is idle and the head may be sent its clock begins the transmission (once the commands due at the NT are
taken, the model's choice, notes/assumptions/1.md), and its time passes none of the line's instants: that at which the
line becomes idle for a telegram that waits, the end of an assembly, the sample 40 µs after a falling edge, the node's
own next bit 80 µs after the last, and another station's pulse; at one µs the first two come before a sample, and a
sample before a pulse (the model's choice, notes/assumptions/4.md). -/
def Obligations.TransmissionBeginsWithTheQueueHead : Prop :=
  (∀ (a : Assembly) (edges : List LineEdge) (e : LineEdge) (q : Nat),
    (((a.hear (edges ++ [e])).1.lapse q).1.quietLong = true ↔ 280 ≤ q)) ∧
  (∀ s : State, lineIdle s = true ↔
    s.line.assembly.quietLong = true ∧ s.line.driven = 0 ∧ s.lineFeed.held = 0) ∧
  (∀ (s : State) (e : Queued) (rest : List Queued), Ready s → s.line.inFlight = none → s.line.queue = e :: rest →
    lineIdle s = true → refusesPlacement e.kind s = false →
    exec .transmissionStart s = .next { s with line := { s.line with
      inFlight := some ⟨e.kind, makeFrame e.cls e.kind (lineId s) e.payload, false, []⟩
      assembly := .reading [] 0, samples := [0], driven := 54 } }) ∧
  (∀ s : State, Ready s →
    (lineIdle s = false ∨ s.line.inFlight.isSome = true ∨
      s.line.queue = [] ∨ ∃ e ∈ s.line.queue.head?, refusesPlacement e.kind s = true) →
    exec .transmissionStart s = .next s) ∧
  (∀ (s : State) (e : Queued) (rest : List Queued), s.power = true → s.pending = [] → s.served = true →
    s.drive.controlledStop = false → s.line.inFlight = none → s.line.queue = e :: rest →
    refusesPlacement e.kind s = false →
    (lineIdle s = true → step s = .next { s with pending := [.transmissionStart] }) ∧
    (∀ q, s.line.assembly = .absent q → s.line.samples = [] →
      let u := max (320 - q) (max s.line.driven s.lineFeed.held)
      0 < u → u < s.lineFeed.left → (∀ p ∈ s.lineFeed.pulses.head?, u ≤ p.wait) →
      step s = .next { s with
        line := { s.line with assembly := .absent 320, driven := 0 }
        lineFeed := ⟨s.lineFeed.left - u, 0, sooner u s.lineFeed.pulses⟩ })) ∧
  (∀ s : State,
    let dueIn := fun (u : Nat) (e : LineEvent) => match e with
      | .stop => stopIn s = some u
      | .sample => ∃ old, s.line.samples.head? = some old ∧ u = 40 - old
      | .begin => (s.line.nextBit.isSome = true ∧ u = 80 - s.line.assembly.quiet) ∨
          ∃ p, s.lineFeed.pulses.head? = some p ∧ u = p.wait
    (nextEvent s = none ↔ ∀ u e, ¬dueIn u e) ∧
    (∀ u e, nextEvent s = some (u, e) → dueIn u e ∧ (∀ v x, dueIn v x → u ≤ v) ∧
      (e ≠ .stop → ¬dueIn u .stop) ∧ (e = .begin → ¬dueIn u .sample)))

/-- Placements are refused in LISTEN, in a listen-only node, and in the safe profile but for a RECORD while the
commissioning window is open; a refused one leaves the node as it was. One that is not refused, of a kind other than
INTENT and WITHDRAW: a queued telegram of the kind keeps its age and takes the new class and payload, marked when its
transmission is in progress; otherwise the telegram joins with the present NT as its age. The other telegrams stay, and
the queue stands in the order of class and age. -/
def Obligations.PlacementIsRefusedReplacesOrJoins : Prop :=
  (∀ (k : Kind) (cls : Machine.Class) (p : List Byte) (s : State),
     (refusesPlacement k s = true ↔
       s.listen = true ∨ s.line.listenOnly = true ∨ (s.safe = true ∧ ¬(k = .record ∧ s.store.isOpen = true))) ∧
     (refusesPlacement k s = true → place k cls p s = s)) ∧
  (∀ (k : Kind) (cls : Machine.Class) (p : List Byte) (s : State), refusesPlacement k s = false →
     k ≠ .intent → k ≠ .withdraw →
     ∃ q, place k cls p s = { s with line := { s.line with queue := q } } ∧
       (q.filter fun e => e.kind != k).Perm (s.line.queue.filter fun e => e.kind != k) ∧
       (s.line.queue.filter (fun e => e.kind == k) = [] →
         q.filter (fun e => e.kind == k) = [⟨k, cls, p, s.nt, false⟩]) ∧
       (∀ old, s.line.queue.filter (fun e => e.kind == k) = [old] →
         q.filter (fun e => e.kind == k) = [⟨k, cls, p, old.age, old.replaced || s.line.flying k⟩]) ∧
       q.Pairwise (fun a b => b.precedes s.nt a = false))

/-- A read-back whose first difference is a 1 sent and dominant read in the arbitration field, or a dominant bit read
recessive anywhere, ends the transmission as lost: the node drives the line no further, and the telegram stays in the
queue, its replaced-in-flight mark clear. A transmission read back whole is complete: its entry leaves the queue, or
stays with its new contents when it was replaced in flight; an INTENT sets the intent-sent mark and a WITHDRAW clears
it. A node in transmission begins each further bit 80 µs after the last falling edge, or with the falling edge of
another station that comes before, and drives it for 53.3 µs when it is 0 and 26.7 when it is 1; a pulse that begins
while the line is dominant still makes no edge. The sample 40 µs after an edge reads 0 while the node or another station
holds the line, and the outcome waits as its command with the sample that decides it (the whole 54 and 27 µs, and the
pulses of the others, are the model's choice, notes/assumptions/4.md). -/
def Obligations.TransmissionEndsLostOrComplete : Prop :=
  (∀ (s : State) (f : InFlight) (n : Nat) (sent : Bool), Ready s → s.line.inFlight = some f →
     f.frame.bits[n]? = some sent → (sent = true → 1 ≤ n ∧ n ≤ 12) →
     exec (.transmissionLost (f.frame.bits.take n ++ [!sent])) s = .next { s with line := { s.line with
       inFlight := none, driven := 0
       queue := s.line.queue.map fun e =>
         if e.kind = f.kind ∧ f.entryGone = false then { e with replaced := false } else e } }) ∧
  (∀ (s : State) (f : InFlight), Ready s → s.line.inFlight = some f →
     exec (.transmissionComplete f.frame.bits) s = .next { s with line := { s.line with
       inFlight := none
       queue := if f.entryGone then s.line.queue else s.line.queue.filterMap fun e =>
         if e.kind = f.kind then (if e.replaced then some { e with replaced := false } else none) else some e
       intentSent := if f.kind = .intent then true else if f.kind = .withdraw then false else s.line.intentSent } }) ∧
  (∀ (s : State) (f : InFlight) (bits : List Bool) (q : Nat) (sent : Bool), s.power = true → s.pending = [] →
     s.served = true → s.drive.controlledStop = false → s.line.inFlight = some f →
     s.line.assembly = .reading bits q →
     let outcome := fun read : List Bool => match readBack f.frame.bits read with
       | .ongoing => []
       | .lost => [.transmissionLost read]
       | .clash => [.identityClash read]
       | .completed => [.transmissionComplete read]
     let goesOn := fun (u : Nat) (line : Line) (held : Nat) (pulses : List Pulse) (pending : List Instr) =>
       step s = .next { s with
         line := line, lineFeed := ⟨s.lineFeed.left - u, held, pulses⟩, pending := pending }
     (s.line.samples = [] → q < 80 → wholeEdges bits 0 = false → f.frame.bits[f.read.length]? = some sent →
       (80 - q < s.lineFeed.left → (∀ p ∈ s.lineFeed.pulses.head?, 80 - q < p.wait) →
         goesOn (80 - q)
           { s.line with assembly := .reading bits 0, samples := [0], driven := if sent then 27 else 54 }
           (s.lineFeed.held - (80 - q)) (sooner (80 - q) s.lineFeed.pulses) []) ∧
       (∀ p ps, s.lineFeed.pulses = p :: ps → p.wait < s.lineFeed.left → q + p.wait < 80 → 0 < p.width →
         (s.line.driven ≤ p.wait → s.lineFeed.held ≤ p.wait →
           goesOn p.wait
             { s.line with assembly := .reading bits 0, samples := [0], driven := if sent then 27 else 54 }
             p.width ps []) ∧
         (p.wait < s.line.driven ∨ p.wait < s.lineFeed.held →
           goesOn p.wait
             { s.line with assembly := .reading bits (q + p.wait), driven := s.line.driven - p.wait }
             (max (s.lineFeed.held - p.wait) p.width) ps []))) ∧
     (∀ read : Bool, s.line.samples = [q] → q ≤ 40 → 40 - q < s.lineFeed.left →
       (∀ p ∈ s.lineFeed.pulses.head?, 40 - q ≤ p.wait) → wholeBits bits = false →
       (bits = [] → read = false) →
       (read = true ↔ s.line.driven + q ≤ 40 ∧ s.lineFeed.held + q ≤ 40) →
       goesOn (40 - q)
         { s.line with
           assembly := .reading (bits ++ [read]) 40, samples := [], driven := s.line.driven - (40 - q)
           inFlight := some { f with read := f.read ++ [read] } }
         (s.lineFeed.held - (40 - q)) (sooner (40 - q) s.lineFeed.pulses) (outcome (f.read ++ [read]))))

/-- A 1 sent and dominant read after the arbitration field is an identity clash: it ends the transmission and is
stamped; stamps older than 60,000 ms leave; with three stamps the node becomes listen-only and its queue empty. -/
def Obligations.IdentityClashIsRecorded : Prop :=
  ∀ (s : State) (f : InFlight) (n : Nat), Ready s → s.line.inFlight = some f →
    f.frame.bits[n]? = some true → 12 < n →
    let stamps := s.line.clashes.filter (fun t => decide (age s.nt t ≤ 60000)) ++ [s.nt]
    (stamps.length < 3 → exec (.identityClash (f.frame.bits.take n ++ [false])) s = .next { s with
      line := { s.line with
        inFlight := none, driven := 0, clashes := stamps
        queue := s.line.queue.map fun e =>
          if e.kind = f.kind ∧ f.entryGone = false then { e with replaced := false } else e } }) ∧
    (3 ≤ stamps.length → exec (.identityClash (f.frame.bits.take n ++ [false])) s = .next { s with
      line := { s.line with
        inFlight := none, driven := 0, clashes := stamps, queue := [], listenOnly := true } })

/-- The placement of a WITHDRAW takes a queued INTENT out of the queue; the WITHDRAW joins when the intent-sent mark
is set or that INTENT's transmission is in progress, which then runs on without its entry: with the class and payload
placed, and the present NT as its age unless a WITHDRAW was queued already. The placement of an INTENT takes a queued
WITHDRAW out, a transmission of it running on without its entry, and the INTENT joins or replaces the queued one. -/
def Obligations.WithdrawAndIntentCancelEachOther : Prop :=
  (∀ (cls : Machine.Class) (p : List Byte) (s : State), refusesPlacement .withdraw s = false → QueueLawful s →
     let t := place .withdraw cls p s
     t = { s with line := { s.line with queue := t.line.queue, inFlight := t.line.inFlight } } ∧
     t.line.holds .intent = false ∧
     (t.line.holds .withdraw = true ↔
       s.line.intentSent = true ∨ (s.line.holds .intent = true ∧ s.line.flying .intent = true) ∨
         s.line.holds .withdraw = true) ∧
     (s.line.intentSent = true ∨ (s.line.holds .intent = true ∧ s.line.flying .intent = true) →
       ∃ e, t.line.queue.filter (fun x => x.kind == .withdraw) = [e] ∧ e.cls = cls ∧ e.payload = p ∧
         (s.line.queue.filter (fun x => x.kind == .withdraw) = [] → e.age = s.nt ∧ e.replaced = false) ∧
         (∀ old, s.line.queue.filter (fun x => x.kind == .withdraw) = [old] → e.age = old.age)) ∧
     (s.line.holds .intent = true → s.line.flying .intent = true →
       t.line.inFlight = s.line.inFlight.map fun f => { f with entryGone := true }) ∧
     (t.line.queue.filter fun e => e.kind != .intent && e.kind != .withdraw).Perm
       (s.line.queue.filter fun e => e.kind != .intent && e.kind != .withdraw)) ∧
  (∀ (cls : Machine.Class) (p : List Byte) (s : State), refusesPlacement .intent s = false → QueueLawful s →
     let t := place .intent cls p s
     t = { s with line := { s.line with queue := t.line.queue, inFlight := t.line.inFlight } } ∧
     t.line.holds .withdraw = false ∧
     (∃ e, t.line.queue.filter (fun x => x.kind == .intent) = [e] ∧ e.cls = cls ∧ e.payload = p ∧
       (s.line.queue.filter (fun x => x.kind == .intent) = [] → e.age = s.nt ∧ e.replaced = false) ∧
       (∀ old, s.line.queue.filter (fun x => x.kind == .intent) = [old] → e.age = old.age)) ∧
     (s.line.flying .withdraw = true → t.line.inFlight = s.line.inFlight.map fun f => { f with entryGone := true }) ∧
     (t.line.queue.filter fun e => e.kind != .intent && e.kind != .withdraw).Perm
       (s.line.queue.filter fun e => e.kind != .intent && e.kind != .withdraw))

/-- A discarded telegram and an echo of the node's own line id leave no trace, whatever command brings them. -/
def Obligations.DiscardedTelegramAndEchoLeaveNoTrace : Prop :=
  ∀ (c : Instr) (bits : List Bool) (s : State), Ready s → c.arrivalBits = some bits →
    (receive bits = none ∨ ∃ f, receive bits = some f ∧ f.source.toNat = lineId s) → exec c s = .next s

/-- An arrival from another source, of any kind, refreshes the last-heard-other time, sets the isolation deadline 60,000
ms on, and ends ISOLATED; a RECORD, and a REQUEST or CONFIGURE that no block takes, do nothing but that. The isolation
deadline, once passed, makes the node ISOLATED; before, nothing happens (that a command before its time is no event is
the model's choice, notes/assumptions/5.md). The telegram that ends on the line is dispatched by its kind, and a REQUEST
and a CONFIGURE by their action or operation to the node they name; a discarded one and an echo are no command. -/
def Obligations.ArrivalsAndTheDeadlineGovernIsolation : Prop :=
  (∀ (c : Instr) (bits : List Bool) (f : Frame) (s : State), s.power = true → c.arrivalBits = some bits → c.wf = true →
     receive bits = some f → f.source.toNat ≠ lineId s → (c = .arrivalNotHandedOn bits → handedOn f s = false) →
     ∃ t, exec c s = .next t ∧ t.line.lastHeard = s.nt ∧ t.line.isolationDl = after s.nt 60000 ∧
       t.line.isolated = false) ∧
  (∀ (bits : List Bool) (f : Frame) (s : State), Ready s → receive bits = some f → f.source.toNat ≠ lineId s →
     let heard := { s with line := { s.line with
       lastHeard := s.nt, isolationDl := after s.nt 60000, isolated := false } }
     (f.kind = Kind.record.code → exec (.recordArrival bits) s = .next heard) ∧
     ((f.kind = Kind.request.code ∨ f.kind = Kind.configure.code) → handedOn f s = false →
       exec (.arrivalNotHandedOn bits) s = .next heard)) ∧
  (∀ s : State, Ready s →
     (s.line.isolated = false → passed s.nt s.line.isolationDl = true →
       exec .isolationDeadline s = .next { s with line := { s.line with isolated := true } }) ∧
     (passed s.nt s.line.isolationDl = false → exec .isolationDeadline s = .next s)) ∧
  (∀ (bits : List Bool) (s : State),
     (receive bits = none → arrivalCommand s bits = none) ∧
     ∀ f, receive bits = some f →
       let mode := (f.payload.getD 0 0).toNat / 64
       let value := (f.payload.getD 0 0).toNat % 64
       let code := (f.payload.getD 1 0).toNat
       let named := mode = 0 ∧ (value = lineId s ∨ value = 63) ∨ mode = 2 ∨
         s.safe = false ∧ (mode = 1 ∧ value = s.cfg.group ∨ mode = 3 ∧ value = s.cfg.facade)
       let takes := fun c : Instr => arrivalCommand s bits = some c
       (f.source.toNat = lineId s → arrivalCommand s bits = none) ∧
       (f.source.toNat ≠ lineId s →
         (f.kind.toNat = 1 → takes (.intentArrival bits)) ∧ (f.kind.toNat = 2 → takes (.withdrawArrival bits)) ∧
         (f.kind.toNat = 3 → takes (.stateArrival bits)) ∧ (f.kind.toNat = 4 → takes (.observeArrival bits)) ∧
         (f.kind.toNat = 5 →
           (named → (code = 0 → takes (.requestOpenTo bits)) ∧ (code = 1 → takes (.requestClose bits)) ∧
             (code = 2 → takes (.requestStop bits)) ∧ (code = 3 → takes (.requestRelease bits))) ∧
           (code = 4 → mode = 0 ∧ value = lineId s → takes (.requestRestart bits)) ∧
           (code ≤ 3 ∧ ¬named ∨ code = 4 ∧ ¬(mode = 0 ∧ value = lineId s) ∨ 5 ≤ code →
             takes (.arrivalNotHandedOn bits))) ∧
         (f.kind.toNat = 6 →
           (value = lineId s → (code = 0 → takes (.configureOpen bits)) ∧ (code = 1 → takes (.configureWrite bits)) ∧
             (code = 2 → takes (.configureRead bits))) ∧
           (value ≠ lineId s ∨ 3 ≤ code → takes (.arrivalNotHandedOn bits))) ∧
         (f.kind.toNat = 7 → takes (.recordArrival bits))))

/-- The periodic OBSERVE deadline: unless an OBSERVE of class 0 or 1 is queued an OBSERVE of class 3 is placed with
the payload of that moment; the first also places a STATE; the deadline moves on by 2,000 from itself. The end of the
hold-off places an OBSERVE of the deferred class with the payload of that moment and begins a new hold-off of 500 ms;
a trigger inside a hold-off waits in the lower of the two classes. That the passed deadline becomes none when nothing
is deferred is the model's choice (notes/assumptions/16.md). -/
def Obligations.ObservesArePlacedAtTheirDeadlines : Prop :=
  (∀ s : State, Ready s → s.safe = false → passed s.nt s.weather.periodicDl = true →
     ∃ t, exec .periodicObserveDeadline s = .next t ∧
       t.weather = { s.weather with periodicDl := after s.weather.periodicDl 2000, firstPeriodic := false } ∧
       t = { s with
         weather := t.weather
         line := { s.line with queue := t.line.queue }
         drive := { s.drive with refreshDl := t.drive.refreshDl }
         pos := { s.pos with lastReported := t.pos.lastReported } } ∧
       (refusesPlacement .observe s = true → t.line.queue = s.line.queue) ∧
       (refusesPlacement .observe s = false →
         (∀ e ∈ s.line.queue, e.kind = .observe → e.cls ≠ .storm ∧ e.cls ≠ .rain) →
         ∃ e ∈ t.line.queue, e.kind = .observe ∧ e.cls = .routine ∧ e.payload = observePayload s) ∧
       ((∃ e ∈ s.line.queue, e.kind = .observe ∧ (e.cls = .storm ∨ e.cls = .rain)) →
         (t.line.queue.filter fun e => e.kind == .observe).Perm (s.line.queue.filter fun e => e.kind == .observe)) ∧
       (s.weather.firstPeriodic = true → refusesPlacement .state s = false →
         ∃ e ∈ t.line.queue, e.kind = .state ∧ e.cls = .drive ∧ e.payload = statePayload s) ∧
       (s.weather.firstPeriodic = false → t.pos = s.pos ∧ t.drive = s.drive ∧
         (t.line.queue.filter fun e => e.kind != .observe).Perm (s.line.queue.filter fun e => e.kind != .observe))) ∧
  ((∀ (s : State) (cls : Machine.Class), Ready s → due s.nt s.weather.holdoffDl = true → s.weather.deferred = some cls →
     refusesPlacement .observe s = false →
     ∃ q, exec .immediateHoldoffExpiry s = .next { s with
         weather := { s.weather with holdoffDl := some (after s.nt 500), deferred := none }
         line := { s.line with queue := q } } ∧
       (∃ e ∈ q, e.kind = .observe ∧ e.cls = cls ∧ e.payload = observePayload s) ∧
       (q.filter fun e => e.kind != .observe).Perm (s.line.queue.filter fun e => e.kind != .observe)) ∧
   (∀ (s : State), Ready s → due s.nt s.weather.holdoffDl = true → s.weather.deferred = none →
     exec .immediateHoldoffExpiry s = .next { s with weather := { s.weather with holdoffDl := none } }) ∧
   (∀ (s : State) (cls old : Machine.Class), refusesPlacement .observe s = false →
     due s.nt s.weather.holdoffDl = false → s.weather.holdoffDl.isSome = true → s.weather.deferred = some old →
     ∃ c, (triggerObserve cls s).weather.deferred = some c ∧ (triggerObserve cls s).line = s.line ∧
       c.code.toNat = min cls.code.toNat old.code.toNat))

/-! ### Sensing (Chapter 1) -/

/-- An accepted edge is counted in its window, offers its period, becomes the previous accepted edge, clears the
zero-run count and returns a STUCK anemometer to OK; a second edge at one NT, and any edge with the wind part clear,
does nothing. In the safe profile the anemometer state stays (the model's reading of R14 beside R58 and R79,
notes/assumptions/34.md). -/
def Obligations.AcceptedEdgeIsCounted : Prop :=
  (∀ s : State, Ready s → (s.cfg.windFitted = false ∨ s.sensor.prevEdge = some s.nt) →
    exec .anemometerEdge s = .next s) ∧
  (∀ s : State, Ready s → s.cfg.windFitted = true → s.sensor.prevEdge ≠ some s.nt →
    s.nt.toNat / 1000 = s.sensor.windowBegin.toNat / 1000 →
    exec .anemometerEdge s = .next { s with
      sensor := { s.sensor with
        count := s.sensor.count + 1, prevEdge := some s.nt, zeroRun := 0
        shortest := match s.sensor.prevEdge with
          | none => s.sensor.shortest
          | some p =>
            if 2 ≤ (s.nt - p).toNat ∧ (s.nt - p).toNat ≤ 65535 then
              some (min (s.nt - p).toNat (s.sensor.shortest.getD (s.nt - p).toNat))
            else s.sensor.shortest }
      weather := { s.weather with anem := if s.weather.anem = .stuck ∧ s.safe = false then .ok else s.weather.anem } })

/-- A window end with the wind part set forms the count speed, the period speed, the gust, the mean and the accepted
direction of the closed window, opens the next window, and keeps them whatever the assessment then does. The next
window begins with the edges stamped in it before its window end was taken (notes/assumptions/24.md), none of them as
a rule. -/
def Obligations.WindowEndFormsTheWind : Prop :=
  ∀ (vane : BitVec 4) (s : State), s.power = true → windowEnds s = true → s.cfg.windFitted = true →
    ∃ t, exec (.windowEnd vane) s = .next t ∧
      t.sensor.countSpeed = min 600 ((s.sensor.count * s.cfg.factor + 5) / 10) ∧
      t.sensor.count = s.sensor.nextCount ∧ t.sensor.shortest = s.sensor.nextShortest ∧
      t.sensor.windowBegin = s.nt ∧
      t.sensor.periodMem = s.sensor.periodMem.drop 1 ++ [s.sensor.shortest] ∧
      ((∀ o ∈ t.sensor.periodMem, o = none) → t.sensor.periodSpeed = 0) ∧
      (∀ p, some p ∈ t.sensor.periodMem → (∀ q, some q ∈ t.sensor.periodMem → p ≤ q) →
        t.sensor.periodSpeed = min 600 (s.cfg.factor * 100 / p)) ∧
      t.sensor.gustMem = s.sensor.gustMem.drop 1 ++ [t.sensor.countSpeed] ∧
      (∀ v ∈ t.sensor.gustMem, v ≤ t.sensor.gust) ∧ t.sensor.periodSpeed ≤ t.sensor.gust ∧
      (t.sensor.gust = t.sensor.periodSpeed ∨ t.sensor.gust ∈ t.sensor.gustMem) ∧
      t.sensor.ring = s.sensor.ring.drop 1 ++ [t.sensor.countSpeed] ∧
      t.sensor.mean = (t.sensor.ring.sum + 4) / 8 ∧
      (s.sensor.vane.length ≤ 3 →
        t.sensor.vane = (s.sensor.vane ++ [graySector vane]).drop ((s.sensor.vane ++ [graySector vane]).length - 3)) ∧
      (∀ a b c, t.sensor.vane = [a, b, c] → sectorDiff a b ≤ 1 → sectorDiff a c ≤ 1 → sectorDiff b c ≤ 1 →
        t.sensor.direction = some c) ∧
      (∀ a b c, t.sensor.vane = [a, b, c] → (1 < sectorDiff a b ∨ 1 < sectorDiff a c ∨ 1 < sectorDiff b c) →
        t.sensor.direction = s.sensor.direction) ∧
      (t.sensor.vane.length ≠ 3 → t.sensor.direction = s.sensor.direction) ∧
      (∀ sector : BitVec 4, graySector (sector ^^^ (sector >>> 1)) = sector.toNat)

/-- A window end runs the zero-run count and marks a still anemometer STUCK when a fresh wind-capable peer reports a
mean of 50 or more; with the wind part clear every wind quantity is 0, the direction unknown and the state NONE. In
the safe profile the Assessor's state stays, the anemometer state with it (notes/assumptions/34.md): no assessment is
made. -/
def Obligations.WindowEndJudgesTheAnemometer : Prop :=
  (∀ (vane : BitVec 4) (s : State), s.power = true → windowEnds s = true → s.cfg.windFitted = true →
    ∃ t, exec (.windowEnd vane) s = .next t ∧
      t.sensor.zeroRun = (if t.sensor.mean = 0 then min 600 (s.sensor.zeroRun + 1) else 0) ∧
      (s.safe = false → (t.weather.anem = .stuck ↔
        s.weather.anem = .stuck ∨ (s.weather.anem = .ok ∧ t.sensor.zeroRun = 600 ∧
        ∃ r ∈ s.peers, ∃ o, r.obs = some o ∧ o.fresh = true ∧ o.windCapable = true ∧ 50 ≤ o.mean))) ∧
      (t.weather.anem = .ok → s.weather.anem = .ok)) ∧
  (∀ (vane : BitVec 4) (s : State), s.power = true → windowEnds s = true → s.cfg.windFitted = false →
    ∃ t, exec (.windowEnd vane) s = .next t ∧ (s.safe = false → t.weather.anem = .absent) ∧
      t.sensor = { s.sensor with
        windowBegin := s.nt, count := 0, shortest := none, nextCount := 0, nextShortest := none
        countSpeed := 0, periodSpeed := 0, gust := 0, mean := 0, direction := none }) ∧
  (∀ (vane : BitVec 4) (s : State), Ready s → windowEnds s = true → s.safe = true →
    ∃ t, exec (.windowEnd vane) s = .next t ∧
      t = { s with sensor := t.sensor, pins := { s.pins with vane := vane } })

/-- A grid sample proposes a wet state by the present one; four agreeing samples change it, 2,400 samples at full
scale make it FAULT, four samples below full scale clear that; nothing else changes while the wet state stays, and its
change raises an OBSERVE of class 1 (DAMP, WET) or 3 (DRY, FAULT). With the wet part clear the grid is neither driven
nor sampled; with it set it is driven at its samples (and in the model between them, notes/assumptions/38.md). -/
def Obligations.GridSampleMovesTheWetState : Prop :=
  (∀ (v : BitVec 12) (s : State), Ready s → s.cfg.wetFitted = false →
    gridDriven s = false ∧ exec (.gridSample v) s = .next s) ∧
  ∀ (v : BitVec 12) (s : State), Ready s → gridDue s = true → gridDriven s = true ∧
    ∃ t, exec (.gridSample v) s = .next t ∧
      (s.sensor.wet ≠ .fault →
        let proposal := match s.sensor.wet with
          | .dry => if v.toNat < 800 then Wet.dry else if v.toNat < 2000 then .damp else .wet
          | .damp => if v.toNat < 600 then .dry else if v.toNat < 2000 then .damp else .wet
          | _ => if v.toNat < 600 then .dry else if v.toNat < 1600 then .damp else .wet
        let high := if 4080 ≤ v.toNat then s.sensor.highRun + 1 else 0
        (high < 2400 → t.sensor.highRun = high ∧ t.sensor.clearRun = s.sensor.clearRun ∧
          (proposal = s.sensor.wet → t.sensor.wet = s.sensor.wet ∧ t.sensor.candidate = none ∧ t.sensor.agree = 0) ∧
          (proposal ≠ s.sensor.wet → s.sensor.candidate = some proposal → s.sensor.agree < 3 →
            t.sensor.wet = s.sensor.wet ∧ t.sensor.candidate = some proposal ∧
              t.sensor.agree = s.sensor.agree + 1) ∧
          (proposal ≠ s.sensor.wet → s.sensor.candidate = some proposal → 3 ≤ s.sensor.agree →
            t.sensor.wet = proposal ∧ t.sensor.candidate = none ∧ t.sensor.agree = 0) ∧
          (proposal ≠ s.sensor.wet → s.sensor.candidate ≠ some proposal →
            t.sensor.wet = s.sensor.wet ∧ t.sensor.candidate = some proposal ∧ t.sensor.agree = 1)) ∧
        (2400 ≤ high → t.sensor.wet = .fault ∧ t.sensor.candidate = none ∧ t.sensor.agree = 0 ∧
          t.sensor.clearRun = 0 ∧ t.sensor.highRun = 2400)) ∧
      (s.sensor.wet = .fault →
        (4080 ≤ v.toNat → t.sensor.wet = .fault ∧ t.sensor.clearRun = 0) ∧
        (v.toNat < 4080 → s.sensor.clearRun < 3 → t.sensor.wet = .fault ∧
          t.sensor.clearRun = s.sensor.clearRun + 1) ∧
        (v.toNat < 4080 → 3 ≤ s.sensor.clearRun → t.sensor.wet = .dry ∧ t.sensor.candidate = none ∧
          t.sensor.agree = 0 ∧ t.sensor.highRun = 0 ∧ t.sensor.clearRun = 4)) ∧
      t = { s with
        pins := { s.pins with grid := v }
        sensor := { s.sensor with
          wet := t.sensor.wet, candidate := t.sensor.candidate, agree := t.sensor.agree
          highRun := t.sensor.highRun, clearRun := t.sensor.clearRun, gridAt := some s.nt }
        weather := { s.weather with holdoffDl := t.weather.holdoffDl, deferred := t.weather.deferred }
        line := { s.line with queue := t.line.queue } } ∧
      (t.sensor.wet = s.sensor.wet → t.line = s.line ∧ t.weather = s.weather) ∧
      (t.sensor.wet ≠ s.sensor.wet → refusesPlacement .observe s = false → s.weather.holdoffDl = none →
        t.weather.holdoffDl = some (after s.nt 500) ∧
        ∃ e ∈ t.line.queue, e.kind = .observe ∧ e.payload = observePayload t ∧
          e.cls = (if t.sensor.wet = .damp ∨ t.sensor.wet = .wet then .rain else .routine))

/-- A button settles at its fifth sample running that differs from its settled level, a settled change from up to down
being a press unless the other button is then down; the safe profile takes no press. A press outside the safe profile
raises DEMAND: to the present position while DEMAND acts and the drive is moving, otherwise to max open (OPEN) or
closed-seated (CLOSE); the expiry begins anew; when a weather level stands above DEMAND the sounder plays REFUSE for
200 ms. A press that stops a moving drive at an unsuspected position it may hold brings it to STOPPING as an arrival,
and a warning drive to rest. A CLOSE press hands the close notice too: BLOCKED is left with the retry count forgiven,
RETRY_WAIT with it kept, and an obstruction's braking, a sag's and a backoff keep the notice. (The cross-check deadline
of a drive that came to rest follows notes/assumptions/28.md.) -/
def Obligations.ButtonsSettleAndPressesDemand : Prop :=
  (∀ (openDown closeDown : Bool) (s : State), Ready s → buttonsDue s = true →
     ∃ t, exec (.buttonSample openDown closeDown) s = .next t ∧
       (s.sensor.openButton.settled = some openDown → t.sensor.openButton.settled = some openDown ∧
         t.sensor.openButton.run = 0) ∧
       (s.sensor.openButton.settled ≠ some openDown → s.sensor.openButton.run < 4 →
         t.sensor.openButton.settled = s.sensor.openButton.settled ∧
         t.sensor.openButton.run = s.sensor.openButton.run + 1) ∧
       (s.sensor.openButton.settled ≠ some openDown → 4 ≤ s.sensor.openButton.run →
         t.sensor.openButton.settled = some openDown ∧ t.sensor.openButton.run = 0) ∧
       (s.sensor.closeButton.settled = some closeDown → t.sensor.closeButton.settled = some closeDown ∧
         t.sensor.closeButton.run = 0) ∧
       (s.sensor.closeButton.settled ≠ some closeDown → s.sensor.closeButton.run < 4 →
         t.sensor.closeButton.settled = s.sensor.closeButton.settled ∧
         t.sensor.closeButton.run = s.sensor.closeButton.run + 1) ∧
       (s.sensor.closeButton.settled ≠ some closeDown → 4 ≤ s.sensor.closeButton.run →
         t.sensor.closeButton.settled = some closeDown ∧ t.sensor.closeButton.run = 0) ∧
       t.sensor.openButton.latch = false ∧ t.sensor.closeButton.latch = false ∧
       (s.sensor.openButton.latch = false → s.sensor.closeButton.latch = false →
         ¬(s.sensor.openButton.settled = some false ∧ t.sensor.openButton.settled = some true ∧
           t.sensor.closeButton.settled ≠ some true) →
         ¬(s.sensor.closeButton.settled = some false ∧ t.sensor.closeButton.settled = some true ∧
           t.sensor.openButton.settled ≠ some true) →
         t.levels = s.levels ∧ t.drive = s.drive ∧ t.supply = s.supply) ∧
       (s.safe = true → t.levels = s.levels ∧ t.drive = s.drive ∧ t.supply = s.supply)) ∧
  (∀ (closes : Bool) (s : State), Ready s → LevelsLawful s → s.safe = false → buttonsDue s = true →
     s.sensor.openButton.latch = false → s.sensor.closeButton.latch = false →
     s.sensor.openButton.settled = some false → s.sensor.closeButton.settled = some false →
     (if closes then s.sensor.closeButton.run else s.sensor.openButton.run) = 4 →
     ∃ t, exec (.buttonSample (!closes) closes) s = .next t ∧
       t.levels.demandTarget = some
         (if s.levels.demand = .acting ∧ s.drive.state.movingForPress = true then demandAt (position s) s
          else if closes then .seat else demandAt s.cfg.maxOpen s) ∧
       t.levels.demand ≠ .quiet ∧ t.levels.storm = s.levels.storm ∧ t.levels.rain = s.levels.rain ∧
       t.levels.expiryDl =
         (if s.cfg.demandExpiry = 0 then none else some (after s.nt (1000 * s.cfg.demandExpiry))) ∧
       (s.levels.storm = .quiet → s.levels.rain = .quiet → mayAct s = true → t.levels.demand = .acting) ∧
       (t.levels.demand = .armed → s.listen = false → t.drive.refuseUntil = some (after s.nt 200)) ∧
       (t.levels.demand = .acting → t.drive.refuseUntil = s.drive.refuseUntil) ∧
       (s.levels.demand = .acting → suspect s = false → s.drive.controlledStop = false → position s ≠ 0 →
         position s ≤ s.cfg.maxOpen → s.drive.goal ≠ some ⟨.demand, .pm (position s)⟩ →
         (s.drive.state = .ramp ∨ s.drive.state = .travel ∨ s.drive.state = .approach ∨ s.drive.state = .seating →
           t.drive.state = .stopping ∧ t.drive.continuation = some .goal ∧ t.drive.duty = 0 ∧
             t.drive.stopDl = some (after s.nt 200) ∧ t.supply.sagCount = 0) ∧
         (s.drive.state = .warning →
           let g : Option Goal := some ⟨.demand, .pm (position s)⟩
           CameToRest (withGoal g g s t) t)) ∧
       (closes = true → s.drive.controlledStop = false → CloseTaken s t ∧
         (s.drive.state = .blocked → (t.drive.state = .idle ∨ t.drive.state = .waitSlot) ∧ t.drive.retry = 0)) ∧
       t.sensor = { s.sensor with
         openButton := t.sensor.openButton, closeButton := t.sensor.closeButton, buttonsAt := some s.nt })

/-- The key settles at its twentieth sample running. Settled on, it turns service hold on and no level acts any more;
settled from on to off, it turns service hold off, the highest raised level acts, and an open commissioning window
without a write in progress closes; one with a write in progress waits for it, its deadline none meanwhile (the model's
choice, notes/assumptions/37.md); the first settling to off, and every other sample, only counts. In the safe profile a
key-on ends the safe seat, through STOPPING when it moves, and the next key-off begins it again with its warning of
3,000 ms; once ended it begins no more, which it has, by the model's choice, from the recognition of the seat or its
deadline on, in the braking already (notes/assumptions/50.md). That the deadline of the warning or of the seat is none
when its state has been left, and that the braking of the seat records GOAL, are the model's choices
(notes/assumptions/29.md and 47.md). -/
def Obligations.KeyTurnsServiceHold : Prop :=
  ∀ (on : Bool) (s : State), Ready s → LevelsLawful s → keyDue s = true →
    (s.sensor.keySettled = some on → exec (.keySample on) s = .next { s with
      pins := { s.pins with keyOn := on }, sensor := { s.sensor with keyRun := 0, keyAt := some s.nt } }) ∧
    (s.sensor.keySettled ≠ some on → s.sensor.keyRun < 19 → exec (.keySample on) s = .next { s with
      pins := { s.pins with keyOn := on }
      sensor := { s.sensor with keyRun := s.sensor.keyRun + 1, keyAt := some s.nt } }) ∧
    (s.sensor.keySettled = none → on = false → 19 ≤ s.sensor.keyRun →
      exec (.keySample on) s = .next { s with
        pins := { s.pins with keyOn := on }
        sensor := { s.sensor with keySettled := some false, keyRun := 0, keyAt := some s.nt } }) ∧
    (s.sensor.keySettled ≠ some true → on = true → 19 ≤ s.sensor.keyRun →
      ∃ t, exec (.keySample on) s = .next t ∧ t.sensor.keySettled = some true ∧ t.levels.serviceHold = true ∧
        acting t = none ∧ t.store = s.store ∧
        (t.levels.storm = .quiet ↔ s.levels.storm = .quiet) ∧ (t.levels.rain = .quiet ↔ s.levels.rain = .quiet) ∧
        (t.levels.demand = .quiet ↔ s.levels.demand = .quiet) ∧
        (acting s ≠ none → t.levels.handed = none ∧ t.levels.holdRef = none)) ∧
    (s.sensor.keySettled = some true → on = false → 19 ≤ s.sensor.keyRun →
      ∃ t, exec (.keySample on) s = .next t ∧ t.sensor.keySettled = some false ∧ t.levels.serviceHold = false ∧
        acting t = (if s.listen = true ∨ s.safe = true then none
          else if s.levels.storm ≠ .quiet then some .storm
          else if s.levels.rain ≠ .quiet then some .rain
          else if s.levels.demand ≠ .quiet then some .demand else none) ∧
        (s.store.writing = none → t.store.isOpen = false) ∧
        (s.store.isOpen = true → s.store.writing.isSome = true →
          t.store = { s.store with closePending := true, deadline := none })) ∧
    (s.safe = true → s.sensor.keySettled ≠ some true → on = true → 19 ≤ s.sensor.keyRun →
      ∃ t, exec (.keySample on) s = .next t ∧ t.levels.serviceHold = true ∧
        (s.drive.safePhase = .warning → t.drive.state = .idle ∧ t.drive.safePhase = .notBegun ∧
          t.drive.warningDl = none ∧ t.drive.pattern = none) ∧
        (s.drive.safePhase = .seating → s.drive.state = .seating →
          t.drive.state = .stopping ∧ t.drive.safePhase = .notBegun ∧
          t.drive.continuation = some .goal ∧ t.drive.stopDl = some (after s.nt 200) ∧ t.drive.safeSeatDl = none) ∧
        (s.drive.safePhase = .notBegun ∨ s.drive.safePhase = .ended → t.drive = s.drive)) ∧
    (s.safe = true → s.sensor.keySettled = some true → on = false → 19 ≤ s.sensor.keyRun → s.listen = false →
      ∃ t, exec (.keySample on) s = .next t ∧ t.levels.serviceHold = false ∧
        (s.drive.safePhase = .notBegun → s.drive.state = .idle → s.drive.controlledStop = false →
          t.drive.state = .warning ∧ t.drive.safePhase = .warning ∧ t.drive.pattern = some .warn ∧
          t.drive.patternStart = s.nt ∧ t.drive.warningDl = some (after s.nt 3000)) ∧
        (s.drive.safePhase = .ended → t.drive = s.drive))

/-! ### The Peer Table (Chapter 3) -/

/-- An OBSERVE from another source brings its record up to date, or makes one where the table has room; into a full
table an ORDINARY newcomer is not taken, and every other record stays. A KEEP newcomer into a full table evicts the
ORDINARY record longest not heard, and the Supply Share Unit drops that peer's intent; without an ORDINARY record it
is not taken (that the notice is taken when the table is finished, that of two records of one heard-at, which the spec
says cannot be, the lower id goes, and that a record may be made before the first scan, are the model's choices,
notes/assumptions/15.md, 39.md and 42.md). -/
def Obligations.ObserveRenewsCreatesOrEvicts : Prop :=
  (∀ (bits : List Bool) (f : Frame) (s : State), Ready s → receive bits = some f → f.kind = Kind.observe.code →
     f.source.toNat ≠ lineId s → f.source.toNat ≠ 0 → f.source.toNat ≠ 63 →
     let src := f.source.toNat
     let b0 := f.payload.getD 0 0
     let b1 := f.payload.getD 1 0
     let seen : Observation := {
       wet := if b0.toNat / 64 = 0 then .dry else if b0.toNat / 64 = 1 then .damp
         else if b0.toNat / 64 = 2 then .wet else .fault
       skylight := b0.toNat / 32 % 2 == 1, windCapable := b0.toNat / 16 % 2 == 1, facade := b0.toNat % 16
       anem := if b1.toNat / 64 = 0 then .absent else if b1.toNat / 64 = 1 then .ok else .stuck
       direction := if b1.toNat / 16 % 2 = 1 then some (b1.toNat % 16) else none
       mean := min 600 ((f.payload.getD 2 0).toNat * 256 + (f.payload.getD 3 0).toNat)
       gust := min 600 ((f.payload.getD 4 0).toNat * 256 + (f.payload.getD 5 0).toNat)
       observedAt := s.nt, fresh := true }
     let heard := { s with line := { s.line with
       lastHeard := s.nt, isolationDl := after s.nt 60000, isolated := false } }
     let inGroup := fun st : Option PeerState => match st with
       | none => false
       | some p => !s.safe && p.group == s.cfg.group
     ((∃ r ∈ s.peers, r.source = src) →
       exec (.observeArrival bits) s = .next { heard with
         peers := s.peers.map fun r => if r.source = src then
           { r with heardAt := s.nt, obs := some seen, keep := seen.windCapable || inGroup r.st } else r }) ∧
     ((∀ r ∈ s.peers, r.source ≠ src) → s.peers.length < 24 →
       ∃ l, exec (.observeArrival bits) s = .next { heard with peers := l } ∧
         ∀ r, r ∈ l ↔ r ∈ s.peers ∨ r = ⟨src, seen.windCapable, s.nt, some seen, none⟩) ∧
     ((∀ r ∈ s.peers, r.source ≠ src) → 24 ≤ s.peers.length → seen.windCapable = false →
       exec (.observeArrival bits) s = .next heard)) ∧
  (∀ (bits : List Bool) (f : Frame) (s : State), Ready s → receive bits = some f → f.kind = Kind.observe.code →
     f.source.toNat ≠ lineId s → f.source.toNat ≠ 0 → f.source.toNat ≠ 63 →
     (observationOf f.payload s.nt).windCapable = true → s.peers.length = 24 → PeersLawful s →
     (∀ r ∈ s.peers, r.source ≠ f.source.toNat) →
     ((∀ r ∈ s.peers, r.keep = true) → ∃ t, exec (.observeArrival bits) s = .next t ∧ t.peers = s.peers) ∧
     (∀ old ∈ s.peers, old.keep = false →
       (∀ r ∈ s.peers, r.keep = false → age s.nt r.heardAt ≤ age s.nt old.heardAt ∧
         (age s.nt r.heardAt = age s.nt old.heardAt → old.source ≤ r.source)) →
       ∃ t, exec (.observeArrival bits) s = .next t ∧
         (∀ r, r ∈ t.peers ↔ (r ∈ s.peers ∧ r ≠ old) ∨
           r = ⟨f.source.toNat, true, s.nt, some (observationOf f.payload s.nt), none⟩) ∧
         (∀ e ∈ t.supply.entries, e.own = true ∨ e.source ≠ old.source)))

/-- A STATE from a peer with a record brings its state part up to date. One from a peer without a record makes a record
where the table has room; into a full table an ORDINARY newcomer is not taken, and a KEEP newcomer (of the node's group)
evicts the ORDINARY record longest not heard, whose intent the Supply Share Unit drops (the notice taken when the table
is finished, of two records of one heard-at the lower id gone, and a record made before the first scan, are the model's
choices, notes/assumptions/15.md, 39.md and 42.md), or is not taken where every record is KEEP. A STATE that says
running, stored or not, takes the peer's intent out of the Intent List. A node that is not WAITING changes nothing else;
one that is WAITING evaluates its load anew, is admitted within its budget (to a warning, or with a warning time of 0 to
RAMP, R134 as the model reads it, notes/assumptions/14.md), and goes on waiting above it. The admission places a STATE;
where that STATE is refused the running refresh deadline is set all the same (the model's reading,
notes/assumptions/23.md). -/
def Obligations.StateRenewsTheRunningMark : Prop :=
  ∀ (bits : List Bool) (f : Frame) (s : State), Ready s → receive bits = some f → f.kind = Kind.state.code →
    f.source.toNat ≠ lineId s → f.source.toNat ≠ 0 → f.source.toNat ≠ 63 →
    let runs := (f.payload.getD 0 0).toNat % 2 == 1
    let told : PeerState := {
      running := runs, weight := max 1 (min 4 ((f.payload.getD 1 0).toNat / 16))
      group := (f.payload.getD 1 0).toNat % 16, stateAt := s.nt }
    let line := { s.line with lastHeard := s.nt, isolationDl := after s.nt 60000, isolated := false }
    let kept := fun gone : Option Nat => s.supply.entries.filter fun e =>
      e.own || (!(runs && e.source == f.source.toNat) && gone != some e.source)
    let noted := fun (l : List PeerRecord) (gone : Option Nat) =>
      { s with line := line, peers := l, supply := { s.supply with entries := kept gone } }
    let taken := fun given : State =>
      (s.supply.admission ≠ .waiting → exec (.stateArrival bits) s = .next given) ∧
      (s.supply.admission = .waiting → Evaluated (.stateArrival bits) s given)
    let ours := !s.safe && told.group == s.cfg.group
    let fresh : PeerRecord := ⟨f.source.toNat, ours, s.nt, none, some told⟩
    ((∃ r ∈ s.peers, r.source = f.source.toNat) →
      taken (noted (s.peers.map fun r => if r.source = f.source.toNat then
        { r with
          heardAt := s.nt, st := some told
          keep := (match r.obs with | none => false | some o => o.windCapable) || ours } else r) none)) ∧
    ((∀ r ∈ s.peers, r.source ≠ f.source.toNat) →
      (s.peers.length < 24 → ∃ l, taken (noted l none) ∧ ∀ r, r ∈ l ↔ r ∈ s.peers ∨ r = fresh) ∧
      (24 ≤ s.peers.length → (ours = false ∨ ∀ r ∈ s.peers, r.keep = true) → taken (noted s.peers none)) ∧
      (s.peers.length = 24 → PeersLawful s → ours = true → ∀ old ∈ s.peers, old.keep = false →
        (∀ r ∈ s.peers, r.keep = false → age s.nt r.heardAt ≤ age s.nt old.heardAt ∧
          (age s.nt r.heardAt = age s.nt old.heardAt → old.source ≤ r.source)) →
        ∃ l, taken (noted l (some old.source)) ∧ ∀ r, r ∈ l ↔ (r ∈ s.peers ∧ r ≠ old) ∨ r = fresh))

/-- A scan removes every record not heard for more than 30,000 ms, makes observations older than 7,000 ms STALE and
clears running marks older than 7,000 ms; the Supply Share Unit drops the intents of the peers removed. A node that is
not WAITING changes nothing else. One that is WAITING evaluates its load at each removal and each running mark cleared
(that these notices are taken when the table is finished is the model's choice, notes/assumptions/15.md), and is
admitted when the load that the whole scan leaves is within its budget, to a warning, or with a warning time of 0 to
RAMP (R134 as the model reads it, notes/assumptions/14.md). A part that an arrival of the same NT did not renew is aged
all the same, by R52 and beside R54 (notes/assumptions/46.md). The admission places a STATE; where that STATE is refused
the running refresh deadline is set all the same (the model's reading, notes/assumptions/23.md). -/
def Obligations.ScanAgesTheTable : Prop :=
  ∀ s : State, Ready s → s.nt.toNat % 1000 = 500 →
    let given : State := { s with
      peers := (s.peers.filter fun r => decide (age s.nt r.heardAt ≤ 30000)).map fun r =>
        { r with
          obs := r.obs.map fun o => { o with fresh := o.fresh && decide (age s.nt o.observedAt ≤ 7000) }
          st := r.st.map fun p => { p with running := p.running && decide (age s.nt p.stateAt ≤ 7000) } }
      supply := { s.supply with
        entries := s.supply.entries.filter fun e =>
          e.own || s.peers.all fun r => r.source != e.source || decide (age s.nt r.heardAt ≤ 30000) } }
    let noticed := ∃ r ∈ s.peers, 30000 < age s.nt r.heardAt ∨
      ∃ p, r.st = some p ∧ p.running = true ∧ 7000 < age s.nt p.stateAt
    (s.supply.admission ≠ .waiting ∨ ¬noticed → exec .peerScan s = .next given) ∧
    (s.supply.admission = .waiting → noticed → Evaluated .peerScan s given)

/-! ### Weather (Chapter 4) -/

/-- The tick of a window end outside the safe profile selects the wind source (own sensor, else the peer of the highest
gust, the lowest id on a tie), works out exposure, wind load and effective limit, and takes the start window's end. -/
def Obligations.TickFindsTheWindLoad : Prop :=
  ∀ (vane : BitVec 4) (s : State), s.power = true → s.safe = false → windowEnds s = true →
    let exposure := fun d : Option Nat => match d with
      | none => 16
      | some d => if s.cfg.skylight then 16 else [16, 15, 11, 6].getD (sectorDiff d s.cfg.facade) 0
    let usable := fun o : Observation => o.fresh = true ∧ o.windCapable = true ∧ o.anem = .ok
    ∃ t, exec (.windowEnd vane) s = .next t ∧
      t.weather.startWindow = (s.weather.startWindow && !passed s.nt 10000#32) ∧
      t.weather.limit = (if s.levels.storm = .quiet then
          s.cfg.stormLimit + s.cfg.stormLimit * (1000 - (if suspect s then 1000 else position s)) / 1000
        else s.cfg.stormLimit) ∧
      (t.weather.anem = .ok → t.weather.windStatus = .known ∧ t.weather.source = some .own ∧
        t.weather.sourceDir = t.sensor.direction ∧ t.weather.exposure = some (exposure t.sensor.direction) ∧
        t.weather.load = some ((t.sensor.gust * exposure t.sensor.direction + 8) / 16)) ∧
      (t.weather.anem ≠ .ok → PeersLawful s → ∀ r ∈ s.peers, ∀ o, r.obs = some o → usable o →
        (∀ r' ∈ s.peers, ∀ o', r'.obs = some o' → usable o' →
          o'.gust < o.gust ∨ (o'.gust = o.gust ∧ r.source ≤ r'.source)) →
        t.weather.windStatus = .known ∧ t.weather.source = some (.peer r.source) ∧
          t.weather.sourceDir = o.direction ∧ t.weather.exposure = some (exposure o.direction) ∧
          t.weather.load = some ((o.gust * exposure o.direction + 8) / 16)) ∧
      (t.weather.anem ≠ .ok → (∀ r ∈ s.peers, ∀ o, r.obs = some o → ¬ usable o) →
        t.weather.source = none ∧ t.weather.exposure = none ∧ t.weather.load = none ∧
          t.weather.windStatus = (if t.weather.startWindow then .pending else .unknown))

/-- The tick decides the storm condition, keeps its quiet deadline, and raises or clears STORM; a gust that crosses the
storm limit from below raises an OBSERVE of class 0. -/
def Obligations.TickJudgesTheStorm : Prop :=
  ∀ (vane : BitVec 4) (s : State), s.power = true → s.safe = false → windowEnds s = true →
    ∃ t, exec (.windowEnd vane) s = .next t ∧
      (t.weather.stormHolds = true ↔
        (∃ w, t.weather.load = some w ∧ (t.weather.limit ≤ w ∨
          (s.levels.storm ≠ .quiet ∧ t.weather.limit - s.cfg.hysteresis ≤ w))) ∨
        (t.weather.load = none ∧ (s.levels.storm ≠ .quiet ∨
          (t.weather.windStatus = .unknown ∧ s.cfg.windLossClose = true))) ∨
        (s.line.isolated = true ∧ s.cfg.isolationClose = true)) ∧
      t.weather.stormQuietDl = (if t.weather.stormHolds then some (after s.nt (1000 * s.cfg.stormQuiet))
        else if due s.nt s.weather.stormQuietDl then none else s.weather.stormQuietDl) ∧
      (t.levels.storm = .quiet ↔ t.weather.stormHolds = false ∧
        (s.levels.storm = .quiet ∨ due s.nt s.weather.stormQuietDl = true)) ∧
      (t.levels.storm ≠ .quiet → (t.levels.storm = .acting ↔ mayAct s = true)) ∧
      t.weather.prevGust = t.sensor.gust ∧
      (s.weather.prevGust < s.cfg.stormLimit → s.cfg.stormLimit ≤ t.sensor.gust →
        refusesPlacement .observe s = false → s.weather.holdoffDl = none →
        t.weather.holdoffDl = some (after s.nt 500) ∧
        ∃ e ∈ t.line.queue, e.kind = .observe ∧ e.cls = .storm ∧ e.payload = observePayload t) ∧
      (s.cfg.stormLimit ≤ s.weather.prevGust ∨ t.sensor.gust < s.cfg.stormLimit →
        t.weather.holdoffDl = s.weather.holdoffDl ∧ t.weather.deferred = s.weather.deferred)

/-- The tick forms the rain evidence from the own and the peers' grids, decides the rain condition, keeps its quiet
deadline, and raises or clears RAIN; a RAIN that becomes ACTING hands its ceiling as the formed target. -/
def Obligations.TickJudgesTheRain : Prop :=
  ∀ (vane : BitVec 4) (s : State), s.power = true → LevelsLawful s → s.safe = false → windowEnds s = true →
    let weight := fun w : Wet => match w with
      | .dry => 0
      | .damp => 1
      | .wet => 2
      | .fault => 1
    ∃ t, exec (.windowEnd vane) s = .next t ∧
      t.weather.evidence = min 63 (2 * weight s.sensor.wet + (s.peers.map fun r => match r.obs with
        | none => 0
        | some o => if o.fresh then
            weight o.wet * (if o.skylight = s.cfg.skylight ∧
              (s.cfg.skylight = true ∨ sectorDiff o.facade s.cfg.facade ≤ 1) then 2 else 1) else 0).sum) ∧
      (t.weather.rainHolds = true ↔ s.cfg.rainThreshold ≤ t.weather.evidence ∨
        (s.levels.rain ≠ .quiet ∧ 1 ≤ t.weather.evidence)) ∧
      t.weather.rainQuietDl = (if t.weather.rainHolds then some (after s.nt (1000 * s.cfg.rainQuiet))
        else if due s.nt s.weather.rainQuietDl then none else s.weather.rainQuietDl) ∧
      (t.levels.rain = .quiet ↔ t.weather.rainHolds = false ∧
        (s.levels.rain = .quiet ∨ due s.nt s.weather.rainQuietDl = true)) ∧
      (t.levels.rain ≠ .quiet → (t.levels.rain = .acting ↔ mayAct s = true ∧ t.levels.storm = .quiet)) ∧
      (t.levels.demand = .quiet ↔ s.levels.demand = .quiet) ∧
      (acting s ≠ some .rain → t.levels.rain = .acting → t.levels.handed = some ⟨.rain,
        if suspect t = true ∨ s.cfg.skylight = true ∨ s.cfg.rainGap = 0 then .seat
        else if min s.cfg.rainGap (position s) = 0 then .seat else .pm (min s.cfg.rainGap (position s))⟩)

/-- The parts of a tick given as commands of their own: the start window ends, and a quiet deadline passed while its
condition does not hold clears STORM or RAIN, upon which the highest level left acts (that these are parts of a tick
the model also takes within WINDOW_END is its choice, notes/assumptions/12.md). -/
def Obligations.QuietDeadlinesClearTheWeatherLevels : Prop :=
  ∀ s : State, Ready s → LevelsLawful s → s.safe = false → s.nt.toNat % 1000 = 0 →
    (s.weather.startWindow = true → passed s.nt 10000#32 = true →
      exec .startWindowEnd s = .next { s with weather := { s.weather with startWindow := false } }) ∧
    (s.weather.stormHolds = false → due s.nt s.weather.stormQuietDl = true →
      ∃ t, exec .stormExpiry s = .next t ∧ t.weather = { s.weather with stormQuietDl := none } ∧
        t.levels.storm = .quiet ∧ (t.levels.rain = .quiet ↔ s.levels.rain = .quiet) ∧
        (t.levels.demand = .quiet ↔ s.levels.demand = .quiet) ∧
        (s.levels.rain ≠ .quiet → mayAct s = true → t.levels.rain = .acting) ∧
        (s.levels.rain = .quiet → s.levels.demand ≠ .quiet → mayAct s = true → t.levels.demand = .acting) ∧
        (s.levels.storm = .quiet → t = { s with
          weather := t.weather, levels := { s.levels with rainTarget := t.levels.rainTarget } }) ∧
        (s.levels.storm = .acting → s.levels.rain = .quiet → s.levels.demand = .quiet → t.levels.handed = none)) ∧
    (s.weather.rainHolds = false → due s.nt s.weather.rainQuietDl = true →
      ∃ t, exec .rainExpiry s = .next t ∧ t.weather = { s.weather with rainQuietDl := none } ∧
        t.levels.rain = .quiet ∧ t.levels.storm = s.levels.storm ∧
        (t.levels.demand = .quiet ↔ s.levels.demand = .quiet) ∧
        (s.levels.storm = .quiet → s.levels.demand ≠ .quiet → mayAct s = true → t.levels.demand = .acting) ∧
        (s.levels.rain ≠ .acting → t.drive = s.drive ∧ t.levels.rainTarget = none) ∧
        (s.levels.rain = .acting → s.levels.demand = .quiet → t.levels.handed = none))

/-! ### Response levels (Chapter 5) -/

/-- STOP, RELEASE and the demand expiry clear DEMAND with its target and its expiry, and leave the weather levels. A
DEMAND that acted withdraws the goal: a moving drive stops, a waiting one goes to rest; one that did not act leaves the
drive and the supply as they were. -/
def Obligations.DemandIsCleared : Prop :=
  ∀ (c : Instr) (s : State), Ready s → LevelsLawful s → EntriesLawful s → s.safe = false →
    (c = .demandExpiry ∧ due s.nt s.levels.expiryDl = true ∨
      ∃ (bits : List Bool) (f : Frame), (c = .requestStop bits ∧ (f.payload.getD 1 0) = 2 ∨
          c = .requestRelease bits ∧ (f.payload.getD 1 0) = 3) ∧
        receive bits = some f ∧ f.kind = Kind.request.code ∧ f.source.toNat ≠ lineId s ∧
        requestAddressed f.payload s = true) →
    ∃ t, exec c s = .next t ∧
      t.levels.demand = .quiet ∧ t.levels.demandTarget = none ∧ t.levels.expiryDl = none ∧
      t.levels.storm = s.levels.storm ∧ t.levels.rain = s.levels.rain ∧ t.pos.count = s.pos.count ∧
      (s.levels.demand ≠ .acting → t.drive = s.drive ∧ t.supply = s.supply ∧ t.levels.handed = s.levels.handed) ∧
      (s.levels.demand = .acting → t.levels.handed = none ∧ t.levels.holdRef = none ∧ t.drive.goal = none) ∧
      (s.levels.demand = .acting → s.drive.goal ≠ none → s.drive.controlledStop = false →
        (s.drive.state = .ramp ∨ s.drive.state = .travel ∨ s.drive.state = .approach ∨ s.drive.state = .seating ∨
          s.drive.state = .backoff → t.drive.state = .stopping ∧ t.drive.continuation = some .goal ∧
            t.drive.stopDl = some (after s.nt 200)) ∧
        (s.drive.state = .waitSlot ∨ s.drive.state = .warning ∨ s.drive.state = .retryWait ∨
          s.drive.state = .sagWait ∨ s.drive.state = .blocked →
          t.drive.state = .idle ∧ t.drive.retry = 0 ∧ t.supply.admission = .none ∧ t.supply.running = false))

/-- OPEN_TO and CLOSE addressed to the node (by its id or 63, its group, everyone, or its façade) set the DEMAND target,
raise DEMAND and begin its expiry anew; a CLOSE takes the drive out of BLOCKED with its retry count forgiven and out of
RETRY_WAIT with it kept, and is held in an obstruction's braking, in a sag's and in a backoff. (The cross-check deadline
of a drive that came to rest follows notes/assumptions/28.md.) -/
def Obligations.DemandIsTaken : Prop :=
  ∀ (bits : List Bool) (f : Frame) (s : State), Ready s → LevelsLawful s → s.safe = false →
    receive bits = some f → f.kind = Kind.request.code → f.source.toNat ≠ lineId s →
    let mode := (f.payload.getD 0 0).toNat / 64
    let value := (f.payload.getD 0 0).toNat % 64
    let asked := (f.payload.getD 2 0).toNat * 256 + (f.payload.getD 3 0).toNat
    let taken := fun (t : State) (target : Target) =>
      t.levels.demandTarget = some target ∧ t.levels.storm = s.levels.storm ∧ t.levels.rain = s.levels.rain ∧
      t.levels.demand = (if s.levels.storm = .quiet ∧ s.levels.rain = .quiet ∧ mayAct s = true then .acting
        else .armed) ∧
      t.levels.expiryDl =
        (if s.cfg.demandExpiry = 0 then none else some (after s.nt (1000 * s.cfg.demandExpiry)))
    (mode = 0 ∧ (value = s.cfg.id ∨ value = 63) ∨ mode = 1 ∧ value = s.cfg.group ∨ mode = 2 ∨
      mode = 3 ∧ value = s.cfg.facade) →
    ((f.payload.getD 1 0) = 0 → ∃ t, exec (.requestOpenTo bits) s = .next t ∧
      taken t (if min s.cfg.maxOpen asked = 0 then .seat else .pm (min s.cfg.maxOpen asked)) ∧
      (t.levels.demand = .armed → t.levels.handed = s.levels.handed ∧ t.drive = s.drive ∧ t.supply = s.supply)) ∧
    ((f.payload.getD 1 0) = 1 → ∃ t, exec (.requestClose bits) s = .next t ∧
      taken t .seat ∧
      (t.levels.demand = .armed → s.cfg.strokeFitted = false ∨
          (s.drive.state ≠ .blocked ∧ s.drive.state ≠ .retryWait) → t.levels.handed = s.levels.handed) ∧
      (s.drive.controlledStop = false → CloseTaken s t ∧
        (s.drive.state = .blocked → (t.drive.state = .idle ∨ t.drive.state = .waitSlot) ∧ t.drive.retry = 0)))

/-- What the drive makes of a handing, whatever level the goal names and wherever it lies. At rest in IDLE a goal that
needs motion makes it ask for the supply: WAIT_SLOT, SETTLING for 250 ms, the own entry in the Intent List, and an
INTENT in the transmit queue; any other handing only becomes the goal in hand. An OPEN_TO that may act hands such a
goal. Out of IDLE a re-handing does nothing, and a change becomes the goal in hand. In WAIT_SLOT it is announced anew;
in WARNING the deadline is worked out again from the same entry, and passed by it the warning ends at once; in both,
and in RETRY_WAIT and BLOCKED, a withdrawn goal or one that needs no motion ends in IDLE. In RAMP, TRAVEL, APPROACH
and SEATING a goal in the present direction goes on by the position tests, out of SEATING in APPROACH; one in the
other direction, a withdrawal, and closed-seated in place of another goal while suspect brake; one that needs no
motion is an arrival. In an obstruction's braking and in BACKOFF it is held, and a withdrawal ends the backoff. In
RETRY_WAIT and BLOCKED it asks with the retry count forgiven; in SAG_WAIT it waits. Under a controlled stop it begins
no move. A goal needs motion when it is more than 5 pm away, or closed-seated with the seat record none or more than 20
pm away, and its direction is that of its count. (An entry into RAMP follows the model's reading of R134,
notes/assumptions/14.md, and the cross-check deadline of an entry into IDLE is set in a node without the stroke part
too, notes/assumptions/28.md.) -/
def Obligations.HandedGoalAsksForTheSupply : Prop :=
  let asks := fun (g : Goal) (s t : State) =>
    let dir : Dir := match g.target with
      | .seat => .closing
      | .pm p => if p < position s then .closing else .opening
    let own : Entry := ⟨lineId s, g.level, dir, s.cfg.weight, s.nt, true⟩
    t.drive.state = .waitSlot ∧ t.drive.goal = some g ∧ t.drive.seatRecord = s.drive.seatRecord ∧
    t.levels = s.levels ∧ t.pos = { s.pos with crossCheckDl := t.pos.crossCheckDl } ∧
    t.supply.admission = .settling ∧ t.supply.own = some (g.level, dir) ∧
    t.supply.settleDl = some (after s.nt 250) ∧ t.supply.refreshDl = some (after s.nt 2000) ∧
    t.supply.running = s.supply.running ∧ own ∈ t.supply.entries ∧
    (∀ e ∈ t.supply.entries, e.own = true → e = own) ∧
    (refusesPlacement .intent s = true → t.line = s.line) ∧
    (refusesPlacement .intent s = false → ∃ e ∈ t.line.queue, e.kind = .intent ∧ e.cls.code = g.level.code ∧
      e.payload = intentPayload g.level dir s.cfg.weight s.cfg.group)
  let brakes := fun (g : Option Goal) (s t : State) =>
    t.drive.state = .stopping ∧ t.drive.continuation = some .goal ∧ t.drive.stopDl = some (after s.nt 200) ∧
    t.drive.goal = g ∧ t.supply.admission = s.supply.admission
  (∀ (g : Goal) (s : State), s.safe = false → s.drive.state = .idle → s.drive.controlledStop = false →
    s.supply.admission = .none → needsMotion g s = true → EntriesLawful s →
    asks g s (takeGoal (some g) s) ∧ (takeGoal (some g) s).drive.retry = s.drive.retry ∧
    (takeGoal (some g) s).pos.crossCheckDl = none) ∧
  (∀ (g : Option Goal) (s : State), s.drive.state = .idle → (∀ goal, g = some goal → needsMotion goal s = false) →
    takeGoal g s = { s with drive := { s.drive with goal := g } }) ∧
  (∀ (g : Option Goal) (s : State),
    (s.drive.controlledStop = true → takeGoal g s = { s with drive := { s.drive with goal := g } }) ∧
    (g = s.drive.goal → g ≠ none → s.drive.state ≠ .idle → takeGoal g s = s)) ∧
  (∀ (g : Option Goal) (s : State), s.drive.controlledStop = false → g ≠ s.drive.goal →
    let held : State := { s with drive := { s.drive with goal := g } }
    let still := ∀ goal, g = some goal → needsMotion goal s = false
    let t := takeGoal g s
    (s.drive.state = .waitSlot ∨ s.drive.state = .warning ∨ s.drive.state = .retryWait ∨ s.drive.state = .blocked →
      still → CameToRest held t) ∧
    (∀ new, g = some new → needsMotion new s = true →
      (s.drive.state = .waitSlot → s.safe = false → s.supply.admission ≠ .admitted → EntriesLawful s →
        asks new s t ∧ t.drive = held.drive) ∧
      (s.drive.state = .warning →
        let dl := after s.drive.patternStart (100 * (if new.level = .storm then min s.cfg.warnTime 10
          else s.cfg.warnTime))
        let waits : State := { held with drive := { held.drive with warningDl := some dl } }
        (passed s.nt dl = false → t = waits) ∧ (passed s.nt dl = true → RampEntered new waits t)) ∧
      (s.drive.state = .retryWait ∨ s.drive.state = .blocked → s.safe = false → s.supply.admission = .none →
        EntriesLawful s → asks new s t ∧ t.drive.retry = 0)) ∧
    (s.drive.state = .ramp ∨ s.drive.state = .travel ∨ s.drive.state = .approach ∨ s.drive.state = .seating →
      (g = none → brakes g s t) ∧
      (∀ new, g = some new →
        let replaced := suspect s = true ∧ new.target = .seat ∧ ∃ old, s.drive.goal = some old ∧ old.target ≠ .seat
        (needsMotion new s = false → brakes g s t ∧ t.supply.sagCount = 0) ∧
        (needsMotion new s = true → replaced ∨ s.drive.dir ≠ some (goalDir new s) → brakes g s t) ∧
        (∀ dir, needsMotion new s = true → ¬replaced → s.drive.dir = some dir → goalDir new s = dir →
          (s.drive.state ≠ .seating → PositionTested new dir s.pos.count s.drive.state held t ∧
            (t.drive.state = s.drive.state → t = held)) ∧
          (s.drive.state = .seating → new.target = .seat → t = held) ∧
          (s.drive.state = .seating → new.target ≠ .seat → PositionTested new dir s.pos.count .approach held t ∧
            (t.drive.state = .approach → t.drive.duty = s.cfg.creepDuty ∧ t.drive.seatTimeoutDl = none))))) ∧
    (s.drive.state = .stopping →
      (g = none ∨ (s.drive.continuation ≠ some .backoff ∧ s.drive.continuation ≠ some .verdict) → t = held) ∧
      (g ≠ none → s.drive.continuation = some .backoff ∨ s.drive.continuation = some .verdict →
        t = { held with drive := { held.drive with heldChange := true } })) ∧
    (s.drive.state = .backoff → (g = none → brakes g s t) ∧
      (g ≠ none → t = { held with drive := { held.drive with heldChange := true } })) ∧
    (s.drive.state = .sagWait → (g = none → CameToRest held t) ∧ (g ≠ none → t = held))) ∧
  (∀ (g : Goal) (s : State),
    (∀ p, g.target = .pm p → (needsMotion g s = true ↔ position s + 5 < p ∨ p + 5 < position s) ∧
      (goalDir g s = .closing ↔ ((p * s.cfg.stroke / 1000 : Nat) : Int) < s.pos.count)) ∧
    (g.target = .seat → goalDir g s = .closing ∧ (needsMotion g s = true ↔
      ∀ r, s.drive.seatRecord = some r → position s + 20 < r ∨ r + 20 < position s))) ∧
  ∀ (bits : List Bool) (f : Frame) (s : State) (p : Nat), Ready s → LevelsLawful s → EntriesLawful s →
    s.safe = false → receive bits = some f → f.kind = Kind.request.code → f.source.toNat ≠ lineId s →
    requestAddressed f.payload s = true → (f.payload.getD 1 0) = 0 →
    p = min s.cfg.maxOpen ((f.payload.getD 2 0).toNat * 256 + (f.payload.getD 3 0).toNat) → p ≠ 0 →
    s.levels.storm = .quiet → s.levels.rain = .quiet → mayAct s = true → suspect s = false →
    s.drive.state = .idle → s.drive.controlledStop = false → s.supply.admission = .none →
    5 < gap p (position s) →
    let dir := if p < position s then Dir.closing else .opening
    ∃ t, exec (.requestOpenTo bits) s = .next t ∧
      t.levels.handed = some ⟨.demand, .pm p⟩ ∧ t.levels.holdRef = some (position s) ∧
      t.drive.state = .waitSlot ∧ t.drive.goal = some ⟨.demand, .pm p⟩ ∧ t.pos.crossCheckDl = none ∧
      t.supply.admission = .settling ∧ t.supply.own = some (.demand, dir) ∧
      t.supply.settleDl = some (after s.nt 250) ∧ t.supply.refreshDl = some (after s.nt 2000) ∧
      t.supply.running = false ∧ ⟨lineId s, .demand, dir, s.cfg.weight, s.nt, true⟩ ∈ t.supply.entries ∧
      (s.line.listenOnly = false → ∃ e ∈ t.line.queue, e.kind = .intent ∧ e.cls = .drive ∧
        e.payload = intentPayload .demand dir s.cfg.weight s.cfg.group) ∧
      energised t = false

/-! ### Supply sharing (Chapter 6) -/

/-- An INTENT of the node's group enters the Intent List at its rank with the level, direction and weight read (into a
full list only over the lowest peer entry, which it evicts); one of another group takes the sender's entry out, one of
source 0 or 63 changes none; a WITHDRAW takes the sender's entry out; and so does an entry's age of more than 5,000 ms.
A peer's weather intent to open is held as a DEMAND. So it is in every admission state. Outside WAITING nothing else
changes, but that an INTENT to an ADMITTED node may order a yield; a WAITING node evaluates its load anew at each of
these, with the list as it then stands, and is admitted within its budget, to a warning, or with a warning time of 0 to
RAMP (R134 as the model reads it, notes/assumptions/14.md). The admission places a STATE; where that STATE is refused
the running refresh deadline is set all the same (the model's reading, notes/assumptions/23.md). -/
def Obligations.PeerIntentsAreKept : Prop :=
  ∀ (s : State), Ready s → s.safe = false →
    let others := fun src : Nat => s.supply.entries.filter fun e => e.source != src || e.own
    let brings := fun (c : Instr) (given : State) =>
      (s.supply.admission ≠ .waiting → exec c s = .next given) ∧
      (s.supply.admission = .waiting → Evaluated c s given)
    (∀ (bits : List Bool) (f : Frame), receive bits = some f → f.source.toNat ≠ lineId s →
      let src := f.source.toNat
      let heard := fun l : List Entry => { s with
        line := { s.line with lastHeard := s.nt, isolationDl := after s.nt 60000, isolated := false }
        peers := s.peers.map fun r => if r.source = src then { r with heardAt := s.nt } else r
        supply := { s.supply with entries := l } }
      (f.kind = Kind.withdraw.code → brings (.withdrawArrival bits) (heard (others src))) ∧
      (f.kind = Kind.intent.code →
        let b0 := (f.payload.getD 0 0).toNat
        let opening := b0 / 32 % 2 = 1
        let entry : Entry := {
          source := src
          level := if b0 / 64 = 0 ∧ ¬opening then .storm else if b0 / 64 = 1 ∧ ¬opening then .rain else .demand
          dir := if opening then .opening else .closing
          weight := max 1 (min 4 ((f.payload.getD 1 0).toNat / 16)), heardAt := s.nt, own := false }
        let ours := (f.payload.getD 1 0).toNat % 16 = s.cfg.group
        let keeps := fun l : List Entry =>
          (s.supply.admission ≠ .admitted → brings (.intentArrival bits) (heard l)) ∧
          (s.supply.admission = .admitted → ∃ t, exec (.intentArrival bits) s = .next t ∧
            t.supply.entries = l ∧ t.peers = (heard l).peers ∧ t.levels = s.levels)
        (src = 0 ∨ src = 63 → keeps s.supply.entries) ∧
        (src ≠ 0 → src ≠ 63 → ¬ours → keeps (others src)) ∧
        (src ≠ 0 → src ≠ 63 → ours → EntriesLawful s → (others src).length < 8 →
          ∃ l, keeps l ∧ l.Pairwise (fun a b => a.outranks b = true) ∧ ∀ e, e ∈ l ↔ e ∈ others src ∨ e = entry) ∧
        (src ≠ 0 → src ≠ 63 → ours → EntriesLawful s → 8 ≤ (others src).length →
          ∀ low ∈ others src, low.own = false →
          (∀ e ∈ others src, e.own = false → e = low ∨ e.outranks low = true) →
          (entry.outranks low = false → keeps (others src)) ∧
          (entry.outranks low = true → ∃ l, keeps l ∧ l.Pairwise (fun a b => a.outranks b = true) ∧
            ∀ e, e ∈ l ↔ (e ∈ others src ∧ e ≠ low) ∨ e = entry)))) ∧
    (∀ src : BitVec 6,
      (∃ e ∈ s.supply.entries, e.own = false ∧ e.source = src.toNat ∧ passed s.nt (after e.heardAt 5001) = true) →
      brings (.intentEntryAged src) { s with supply := { s.supply with entries := others src.toNat } })

/-- An ADMITTED node whose handed goal is DEMAND yields to a weather intent of its group that its budget cannot bear
beside the running ones: it releases, and a warning or moving drive brakes to ask again. Under a controlled stop it
releases too, the model's choice (notes/assumptions/49.md), and the drive goes on as it was. It yields to no other
INTENT: not to one of another group, not to a DEMAND (or a weather intent that says opening), not to one within the
budget, and not while its handed goal names STORM or RAIN. -/
def Obligations.AdmittedDemandYieldsToWeather : Prop :=
  ∀ (bits : List Bool) (f : Frame) (s : State), Ready s → s.safe = false →
    receive bits = some f → f.kind = Kind.intent.code → f.source.toNat ≠ lineId s →
    s.supply.admission = .admitted →
    let budgeted := (s.peers.map fun r => match r.st with
        | none => 0
        | some p => if p.running && p.group == s.cfg.group then p.weight else 0).sum + s.cfg.weight +
      max 1 (min 4 ((f.payload.getD 1 0).toNat / 16))
    let tested := (∃ target, s.levels.handed = some ⟨.demand, target⟩) ∧
      (f.payload.getD 1 0).toNat % 16 = s.cfg.group ∧
      (f.payload.getD 0 0).toNat / 64 ≤ 1 ∧ (f.payload.getD 0 0).toNat / 32 % 2 = 0
    (tested → s.cfg.budget < budgeted → s.drive.controlledStop = false → ∃ t, exec (.intentArrival bits) s = .next t ∧
      t.supply.admission = .none ∧ t.supply.running = false ∧ t.drive.retry = s.drive.retry ∧
      t.supply.sagCount = s.supply.sagCount ∧ t.levels = s.levels ∧
      (s.drive.state = .warning ∨ s.drive.state = .ramp ∨ s.drive.state = .travel ∨ s.drive.state = .approach ∨
        s.drive.state = .seating → t.drive.state = .stopping ∧ t.drive.continuation = some .yield ∧
          t.drive.stopDl = some (after s.nt 200) ∧ t.drive.duty = 0) ∧
      (s.drive.state = .backoff → t.drive.state = .backoff ∧ t.drive.yieldMark = true) ∧
      (s.drive.state = .stopping → t.drive.state = .stopping ∧
        (s.drive.continuation = some .goal → t.drive.continuation = some .yield) ∧
        (s.drive.continuation = some .verdict → t.drive.continuation = some .verdict ∧ t.drive.yieldMark = true))) ∧
    (tested → s.cfg.budget < budgeted → s.drive.controlledStop = true → ∃ t, exec (.intentArrival bits) s = .next t ∧
      t.supply.admission = .none ∧ t.supply.running = false ∧ t.drive = s.drive) ∧
    (¬tested ∨ budgeted ≤ s.cfg.budget → ∃ t, exec (.intentArrival bits) s = .next t ∧
      t.drive = s.drive ∧ t.supply = { s.supply with entries := t.supply.entries })

/-- The end of the settle window evaluates the load: the running members of the group, the entries ranked ahead and the
own weight. Within the budget the node is admitted and a drive in WAIT_SLOT warns, or with a warning time of 0 enters
RAMP directly (with the position suspect and a goal that is not closed it brakes instead, the model's reading,
notes/assumptions/14.md); above it the node waits. The admission places a STATE; where that STATE is refused the running
refresh deadline is set all the same (the model's reading, notes/assumptions/23.md). -/
def Obligations.SettleDeadlineAdmitsOrWaits : Prop :=
  ∀ (s : State), Ready s → s.safe = false → s.supply.admission = .settling →
    due s.nt s.supply.settleDl = true →
    let load := (s.peers.map fun r => match r.st with
        | none => 0
        | some p => if p.running && p.group == s.cfg.group then p.weight else 0).sum +
      ((s.supply.entries.takeWhile fun e => !e.own).map Entry.weight).sum + s.cfg.weight
    (s.cfg.budget < load → exec .settleDeadline s = .next { s with
      supply := { s.supply with admission := .waiting, settleDl := none } }) ∧
    (load ≤ s.cfg.budget → s.supply.running = false → ∃ t, exec .settleDeadline s = .next t ∧ Reported s t ∧
      let admitted : State := { s with supply := { s.supply with
        entries := s.supply.entries.filter fun e => !e.own
        own := none, admission := .admitted, running := true, settleDl := none, refreshDl := none } }
      t = { s with supply := t.supply, drive := t.drive, pos := t.pos, line := t.line, retained := t.retained } ∧
      (s.drive.state = .waitSlot → warningTime s.drive.goal s ≠ 0 →
        t.supply = { admitted.supply with sagTimer := none } ∧ t.drive.state = .warning ∧
        t.drive.pattern = some .warn ∧ t.drive.patternStart = s.nt ∧ t.drive.goal = s.drive.goal ∧
        t.drive.warningDl = some (after s.nt (100 * (match s.drive.goal with
          | some ⟨.storm, _⟩ => min s.cfg.warnTime 10
          | _ => s.cfg.warnTime)))) ∧
      (s.drive.state = .waitSlot → warningTime s.drive.goal s = 0 → ∀ g, s.drive.goal = some g →
        RampEntered g admitted t ∧ t.supply = { admitted.supply with
          sagTimer := t.supply.sagTimer, sagCount := t.supply.sagCount }) ∧
      (s.drive.state ≠ .waitSlot → t.supply = admitted.supply ∧
        t.drive = { s.drive with refreshDl := t.drive.refreshDl }))

/-- While a request settles or waits, each refresh deadline places the INTENT again with the own entry's level and
direction, renews the own entry's heard-at, and moves on by 2,000 from itself. -/
def Obligations.IntentIsRefreshed : Prop :=
  ∀ (s : State) (level : Level) (dir : Dir) (d : Time), Ready s →
    (s.supply.admission = .settling ∨ s.supply.admission = .waiting) → s.supply.own = some (level, dir) →
    s.supply.refreshDl = some d → passed s.nt d = true →
    ∃ t, exec .intentRefreshDeadline s = .next t ∧
      t = { s with
        line := { s.line with queue := t.line.queue, inFlight := t.line.inFlight }
        supply := { s.supply with
          entries := s.supply.entries.map fun e => if e.own then { e with heardAt := s.nt } else e
          refreshDl := some (after d 2000) } } ∧
      (refusesPlacement .intent s = true → t.line = s.line) ∧
      (refusesPlacement .intent s = false → t.line.holds .withdraw = false ∧
        ∃ e ∈ t.line.queue, e.kind = .intent ∧ e.cls.code = level.code ∧
          e.payload = intentPayload level dir s.cfg.weight s.cfg.group)

/-- A sag timer that has run for 50 ms stops an energised drive for sag: the sag count rises, to at most 6, and the
hold-off grows with it and with the line id. -/
def Obligations.SagStopsTheDrive : Prop :=
  ∀ (s : State) (since : Time), Ready s → s.safe = false → energised s = true → s.supply.sagTimer = some since →
    50 ≤ (s.nt - since).toNat →
    let k := if s.supply.sagCount < 6 then s.supply.sagCount + 1 else 6
    ∃ t, exec .sag s = .next t ∧
      t.supply = { s.supply with sagCount := k, sagTimer := none } ∧
      t.drive.holdoff = 100 * (s.cfg.id % 8 + 1) * 2 ^ (k - 1) ∧
      t.drive.state = .stopping ∧ t.drive.continuation = some .sag ∧ t.drive.stopDl = some (after s.nt 200) ∧
      t.drive.duty = 0 ∧ t.drive.goal = s.drive.goal ∧ t.drive.retry = s.drive.retry ∧
      t.drive.obstructionPending = (s.drive.state == .backoff) ∧
      t = { s with
        supply := t.supply, drive := t.drive, line := { s.line with queue := t.line.queue }
        pos := { s.pos with crossCheckDl := none, lastReported := t.pos.lastReported } }

/-! ### The drive (Chapter 7) -/

/-- The end of a warning enters RAMP in the direction of the goal at the start duty, and each ramp step raises the duty
up to the travel duty, at which TRAVEL begins. At each of these entries and at each change of the count the position
tests run: a closed-seated goal at or below the seat band enters SEATING with its timeout of 8,000 ms, a move within the
approach band enters APPROACH, both at the creep duty; a move to a goal that is not closed arrives at its target count
and brakes; any other goes on as it was. Where the position is suspect and the goal is not closed, the end of a warning
brings STOPPING instead, the seat record none (the model's reading of R134, notes/assumptions/14.md). The end of a
warning that enters a moving state places a STATE; where that STATE is refused the running refresh deadline is set all
the same (the model's reading, notes/assumptions/23.md). -/
def Obligations.WarningEndsInRampAndTravel : Prop :=
  ∀ (s : State) (g : Goal), Ready s → s.safe = false → s.drive.goal = some g →
    (s.drive.state = .warning → s.drive.safePhase ≠ .warning → due s.nt s.drive.warningDl = true →
      ∃ t, exec .warningDeadline s = .next t ∧ RampEntered g s t ∧ t.levels = s.levels ∧
        ((suspect s = true → g.target = .seat) → Reported s t) ∧
        (t.drive.state.energised = true → energised t = true)) ∧
    (∀ d, s.drive.state = .ramp → s.drive.rampStepDl = some d → passed s.nt d = true →
      (s.drive.duty + s.cfg.rampStep < s.cfg.travelDuty → exec .rampStep s = .next { s with
        drive := { s.drive with duty := s.drive.duty + s.cfg.rampStep, rampStepDl := some (after d 20) } }) ∧
      (s.cfg.travelDuty ≤ s.drive.duty + s.cfg.rampStep → ∀ dir, s.drive.dir = some dir →
        ∃ t, exec .rampStep s = .next t ∧ PositionTested g dir s.pos.count .travel s t ∧
          (t.drive.state = .travel → s.pos.crossCheckDl = none → t = { s with
            drive := { s.drive with state := .travel, duty := s.cfg.travelDuty, rampStepDl := none } }))) ∧
    (∀ (pair : HallPair) (dir : Dir), pair = hallNext s.pos.hall ∨ s.pos.hall = hallNext pair →
      let n := if pair = hallNext s.pos.hall then s.pos.count + 1 else s.pos.count - 1
      n < (s.cfg.stroke : Int) + 1024 → -1024 < n → s.drive.dir = some dir →
      s.drive.state = .ramp ∨ s.drive.state = .travel ∨ s.drive.state = .approach →
      ∃ t, exec (.hallStep pair) s = .next t ∧ PositionTested g dir n s.drive.state s t ∧
        (t.drive.state = s.drive.state → t.drive = { s.drive with refreshDl := t.drive.refreshDl }))

/-- The end of a braking goes where the continuation and the goal in hand send it (Figure 7-3). In IDLE the supply is
left, the retry count is 0, the hold reference is renewed while a level acts, and the cross-check deadline is set, in a
node without the stroke part too (notes/assumptions/28.md); one with it makes its comparison there. GOAL enters RAMP,
where the position is suspect and the goal not closed with the model's reading of R134 (notes/assumptions/14.md), and
with the admission as it stands, the model's choice where a yield in BACKOFF has released it (notes/assumptions/51.md).
A VERDICT with the yield mark set asks anew; a VERDICT above the retry limit, and a sag with an obstruction pending
above it, block; a change of goal held in the braking is taken on entry into RETRY_WAIT or BLOCKED with the retry count
forgiven, a held close notice with it forgiven in BLOCKED only. In the safe profile the safe seat's braking leads to
IDLE, from which a seat that a key-off has called for begins anew (when, is the model's reading,
notes/assumptions/21.md); one ended by a seat or its deadline does not, even where the key was turned in the braking
(the model's choice, notes/assumptions/50.md). -/
def Obligations.BrakingEndsByItsContinuation : Prop :=
  (∀ s : State, Ready s → s.safe = false → s.drive.state = .stopping → due s.nt s.drive.stopDl = true →
    (∀ c, s.drive.continuation = some c → (s.drive.goal = none ∨ c = .halt ∨
        ((c = .goal ∨ c = .yield ∨ (c = .verdict ∧ s.drive.retry ≤ s.cfg.retryLimit ∧ s.drive.yieldMark = true)) ∧
          ∃ g, s.drive.goal = some g ∧ needsMotion g s = false)) →
      ∃ t, exec .stopDeadline s = .next t ∧ CameToRest s t ∧ gates t = ⟨.off, .off, .off, .off⟩) ∧
    (∀ g, s.drive.goal = some g →
      (s.drive.continuation = some .goal → needsMotion g s = true →
        ∃ t, exec .stopDeadline s = .next t ∧ RampEntered g s t) ∧
      (s.drive.continuation = some .yield → needsMotion g s = true → s.supply.admission = .none →
        ∃ t, exec .stopDeadline s = .next t ∧ t.drive.state = .waitSlot ∧ t.supply.admission = .settling ∧
          t.supply.own = some (g.level, requestDir g s)) ∧
      (s.drive.continuation = some .backoff → 0 < s.cfg.backoff → ∃ t, exec .stopDeadline s = .next t ∧
        t.drive.state = .backoff ∧ t.drive.dir = some .opening ∧ t.drive.duty = s.cfg.creepDuty ∧
        t.drive.backoffOrigin = s.pos.count ∧ t.drive.backoffDl = some (after s.nt 3000) ∧
        t.drive.checkStart = some (after s.nt 300) ∧ t.drive.retry = s.drive.retry) ∧
      (s.drive.continuation = some .verdict → s.drive.retry ≤ s.cfg.retryLimit → s.drive.yieldMark = true →
        needsMotion g s = true → s.supply.admission = .none →
        ∃ t, exec .stopDeadline s = .next t ∧ t.drive.state = .waitSlot ∧ t.supply.admission = .settling ∧
          t.supply.own = some (g.level, requestDir g s) ∧ t.drive.retry = s.drive.retry ∧
          t.drive.yieldMark = false) ∧
      (s.drive.continuation = some .sag →
        (s.drive.obstructionPending = false ∨ s.drive.retry ≤ s.cfg.retryLimit) →
        ∃ t, exec .stopDeadline s = .next t ∧ t.drive.state = .sagWait ∧ t.supply.admission = .none ∧
          t.drive.holdoffDl = some (after s.nt s.drive.holdoff) ∧ t.drive.retry = s.drive.retry ∧
          t.drive.heldChange = false ∧ t.drive.heldClose = false ∧ t.drive.yieldMark = false) ∧
      let stays := ∃ t, exec .stopDeadline s = .next t ∧ t.drive.retry = s.drive.retry ∧ t.supply.admission = .none ∧
        t.drive.yieldMark = false ∧
        (if s.cfg.retryLimit < s.drive.retry then t.drive.state = .blocked ∧ t.drive.pattern = some .fault
          else t.drive.state = .retryWait ∧ t.drive.retryDl = some (after s.nt (1000 * s.cfg.retryDelay)))
      let goesOn := fun retry : Nat => ∃ t, exec .stopDeadline s = .next t ∧ WentOn retry s t
      let blocks := s.cfg.retryLimit < s.drive.retry
      ((s.drive.continuation = some .verdict ∧ (blocks ∨ s.drive.yieldMark = false)) ∨
        (s.drive.continuation = some .sag ∧ s.drive.obstructionPending = true ∧ blocks) →
        (s.drive.heldChange = false → s.drive.heldClose = false → stays) ∧
        (s.drive.heldChange = true → goesOn 0) ∧
        (s.drive.heldChange = false → s.drive.heldClose = true →
          (blocks → goesOn 0) ∧ (¬blocks → goesOn s.drive.retry))))) ∧
  (∀ s : State, Ready s → LevelsLawful s → s.safe = true → s.drive.state = .stopping →
    due s.nt s.drive.stopDl = true → s.drive.goal = none ∨ s.drive.continuation = some .halt →
    ∃ t, exec .stopDeadline s = .next t ∧ t.line = s.line ∧ gates t = ⟨.off, .off, .off, .off⟩ ∧
      (s.drive.safePhase ≠ .notBegun ∨ s.levels.serviceHold = true ∨ s.listen = true ∨ s.drive.controlledStop = true →
        CameToRest s t ∧ t.drive.state = .idle ∧ t.drive.safePhase = s.drive.safePhase) ∧
      (s.drive.safePhase = .notBegun → s.levels.serviceHold = false → s.listen = false →
        s.drive.controlledStop = false → t.drive.state = .warning ∧ t.drive.safePhase = .warning ∧
          t.drive.pattern = some .warn ∧ t.drive.patternStart = s.nt ∧ t.drive.warningDl = some (after s.nt 3000) ∧
          t.pos = { s.pos with reasons := t.pos.reasons, crossCheckDl := none } ∧
          (strokeDisagrees s = true → t.pos.reasons = s.pos.reasons.add .mismatch) ∧
          (strokeDisagrees s = false → t.pos.reasons = s.pos.reasons)))

/-- SEATING that finds no seat within its time stops all the same: the seat record is the reported position,
SEAT_UNCONFIRMED is added and the move has ended. The safe seat's deadline does so once and for all, and its warning
ends in SEATING at the fixed duty of 90. (That the braking of the safe seat records GOAL, and that the safe seat has
ended when that braking begins, are the model's choices, notes/assumptions/47.md and 50.md.) -/
def Obligations.SeatingEndsUnconfirmed : Prop :=
  (∀ s : State, Ready s → s.safe = false → s.drive.state = .seating → due s.nt s.drive.seatTimeoutDl = true →
    s.drive.controlledStop = false →
    ∃ t, exec .seatTimeout s = .next t ∧ t.drive.state = .stopping ∧ t.drive.continuation = some .goal ∧
      t.drive.stopDl = some (after s.nt 200) ∧ t.drive.seatRecord = some (position s) ∧
      t.pos.reasons.seatUnconfirmed = true ∧ t.pos.referenced = s.pos.referenced ∧ t.pos.count = s.pos.count ∧
      t.supply.sagCount = 0) ∧
  (∀ s : State, Ready s → LevelsLawful s → s.safe = true → s.drive.state = .seating → s.drive.safePhase = .seating →
    due s.nt s.drive.safeSeatDl = true →
    ∃ t, exec .safeSeatDeadline s = .next t ∧ t.drive.state = .stopping ∧ t.drive.safePhase = .ended ∧
      t.drive.continuation = some .goal ∧ t.drive.stopDl = some (after s.nt 200) ∧
      t.pos.reasons.seatUnconfirmed = true ∧ t.pos.count = s.pos.count ∧
      t.supply = { s.supply with sagTimer := none }) ∧
  (∀ s : State, Ready s → s.safe = true → s.drive.state = .warning → s.drive.safePhase = .warning →
    due s.nt s.drive.warningDl = true →
    ∃ t, exec .warningDeadline s = .next t ∧ t.drive.state = .seating ∧ t.drive.safePhase = .seating ∧
      t.drive.dir = some .closing ∧ t.drive.duty = 90 ∧ t.drive.checkStart = some (after s.nt 300) ∧
      t.drive.safeSeatDl = some (after s.nt 120000) ∧ t.line = s.line ∧ t.supply = s.supply)

/-- The deadlines of BACKOFF, RETRY_WAIT and SAG_WAIT: a backoff ends in braking for the VERDICT; a wait ends in
WAIT_SLOT with a new request when the goal in hand needs motion, otherwise in IDLE, where a node with the stroke part
makes its comparison (the cross-check deadline is set in one without it too, notes/assumptions/28.md). -/
def Obligations.WaitsEndInARequestOrRest : Prop :=
  (∀ s : State, Ready s → s.safe = false → s.drive.state = .backoff → due s.nt s.drive.backoffDl = true →
    ∃ t, exec .backoffDeadline s = .next t ∧ t.drive.state = .stopping ∧ t.drive.continuation = some .verdict ∧
      t.drive.stopDl = some (after s.nt 200) ∧ t.drive.retry = s.drive.retry ∧ t.drive.goal = s.drive.goal ∧
      t.pos.count = s.pos.count ∧ t.levels = s.levels) ∧
  (∀ (c : Instr) (s : State), Ready s → s.safe = false →
    (c = .retryDeadline ∧ s.drive.state = .retryWait ∧ due s.nt s.drive.retryDl = true ∨
      c = .sagHoldoffDeadline ∧ s.drive.state = .sagWait ∧ due s.nt s.drive.holdoffDl = true) →
    (s.supply.admission = .admitted → ∀ g, s.drive.goal = some g → needsMotion g s = false) →
    ∃ t, exec c s = .next t ∧ WentOn s.drive.retry s t)

/-- An over-current is a seat, an obstruction or the end of a backoff by where the drive stands. An obstruction raises
the retry count. A seat makes the count 0 and the position referenced, and takes every suspect reason away; where the
stroke part is fitted the cross-check is made again and adds MISMATCH when the sensor is apart. A position that is
suspect no longer hands the acting level's own goal again, one suspect before and after makes no notice, and one that
this MISMATCH makes suspect hands closed-seated (when that is handed is the model's reading,
notes/assumptions/18.md). -/
def Obligations.OverCurrentIsClassified : Prop :=
  ∀ (s : State) (since : Time), Ready s → energised s = true →
    s.drive.ocTimer = some since → 100 ≤ (s.nt - since).toNat → s.drive.retry ≤ s.cfg.retryLimit →
    ∃ t, exec .overCurrent s = .next t ∧ Detected s t

/-- REFUSE ends after its 200 ms, and not before (that a command before its time is no event is the model's choice,
notes/assumptions/5.md); a running refresh deadline places a STATE and is set again 2,000 ms on, where the
STATE is refused (in LISTEN or a listen-only node) too (the model's reading, notes/assumptions/23.md). The sounder is
on while REFUSE lasts and else in the on-times of the drive's pattern since its pattern start, at the tone of the
policies field, 2.0 kHz in the safe profile. The status lamp shows the double flash in the safe profile or
listen-only, else the fast blink in BLOCKED, else the slow blink while the position is suspect, else it is lit. -/
def Obligations.RefuseEndsAndRunningIsRefreshed : Prop :=
  (∀ (s : State) (d : Time), Ready s → s.drive.refuseUntil = some d →
    (passed s.nt d = true → exec .refuseEnd s = .next { s with drive := { s.drive with refuseUntil := none } }) ∧
    (passed s.nt d = false → exec .refuseEnd s = .next s ∧ sounderOn s = true)) ∧
  (∀ s : State, Ready s → s.safe = false → s.supply.running = true → due s.nt s.drive.refreshDl = true →
    ∃ t, exec .runningRefreshDeadline s = .next t ∧ Reported s t ∧
      t.drive = { s.drive with refreshDl := some (after s.nt 2000) } ∧
      t = { s with
        drive := t.drive, line := t.line, pos := { s.pos with lastReported := position s } }) ∧
  (∀ s : State, s.power = true →
    let since := age s.nt s.drive.patternStart
    (sounderOn s = true ↔ (∃ d, s.drive.refuseUntil = some d ∧ passed s.nt d = false) ∨
      (s.drive.pattern = some .warn ∧ since % 500 < 250) ∨ (s.drive.pattern = some .moving ∧ since % 1000 < 100) ∨
      (s.drive.pattern = some .fault ∧ (since % 10000 < 100 ∨ (200 ≤ since % 10000 ∧ since % 10000 < 300) ∨
        (400 ≤ since % 10000 ∧ since % 10000 < 500)))) ∧
    (s.safe = true → toneOf s = 20) ∧
    (s.safe = false → (s.cfg.tone = 0 → toneOf s = 20) ∧ (s.cfg.tone = 1 → toneOf s = 25) ∧
      (s.cfg.tone = 2 → toneOf s = 31) ∧ (s.cfg.tone = 3 → toneOf s = 40)) ∧
    (s.safe = true ∨ s.line.listenOnly = true → (lampOn s = true ↔
      s.nt.toNat % 2000 < 150 ∨ (300 ≤ s.nt.toNat % 2000 ∧ s.nt.toNat % 2000 < 450))) ∧
    (s.safe = false → s.line.listenOnly = false →
      (s.drive.state = .blocked → (lampOn s = true ↔ s.nt.toNat % 250 < 125)) ∧
      (s.drive.state ≠ .blocked → suspect s = true → (lampOn s = true ↔ s.nt.toNat % 1000 < 500)) ∧
      (s.drive.state ≠ .blocked → suspect s = false → lampOn s = true)))

/-! ### The position (Chapter 8) -/

/-- A Hall step moves the count by one within its bounds, and a step past a bound is not counted; a count that reaches a
bound, or would pass it, makes the position suspect and unreferenced; a move that reaches its target brakes. Both
channels changed at once are a skip: the count stays and the reference is lost. A supply below 16.0 V while the bridge
is energised makes the position suspect. The onset of suspect brakes a move towards a target that is not closed, and
hands closed-seated in the name of the acting level; a further reason makes no notice. A drift of more than 20 pm from
the hold reference in IDLE hands the goal again, which becomes the reference; a reported position 20 pm or more from the
last reported one places a STATE. The reported position is count × 1000 div stroke, from 0 to 1000 (at a count of +1
too, by R144 and beside R149, notes/assumptions/40.md). (That a step's count, its tests and its drift come before the
OVERRANGE it brings is the model's reading, notes/assumptions/18.md; that a drifted closed-seated goal needs motion by
the seat record, its choice, notes/assumptions/45.md, and so is that a drift below RAIN's formed target re-hands it as
any other, notes/assumptions/48.md.) -/
def Obligations.HallStepsMoveTheCount : Prop :=
  let onset := fun (s t : State) => suspect s = false →
    (∀ g, s.drive.goal = some g → g.target ≠ .seat →
      s.drive.state = .ramp ∨ s.drive.state = .travel ∨ s.drive.state = .approach →
      t.drive.state = .stopping ∧ t.drive.continuation = some .goal ∧ t.drive.stopDl = some (after s.nt 200)) ∧
    (∀ l, acting s = some l → t.levels.handed = some ⟨l, .seat⟩ ∧ t.drive.goal = some ⟨l, .seat⟩)
  let noNotice := fun (s t : State) => suspect s = true ∨ (acting s = none ∧ s.drive.state.energised = false) →
    t.levels = s.levels ∧ t.drive = { s.drive with refreshDl := t.drive.refreshDl }
  (∀ s : State, (s.pos.count ≤ 0 → position s = 0) ∧
    (0 ≤ s.pos.count → position s = min 1000 (s.pos.count.toNat * 1000 / s.cfg.stroke))) ∧
  (∀ (pair : HallPair) (s : State), Ready s → (pair = hallNext s.pos.hall ∨ s.pos.hall = hallNext pair) →
    let n := if pair = hallNext s.pos.hall then s.pos.count + 1 else s.pos.count - 1
    ∃ t, exec (.hallStep pair) s = .next t ∧ t.pos.hall = pair ∧ t.pins = { s.pins with hall := pair } ∧
      t.pos.count = (if n < -1024 ∨ (s.cfg.stroke : Int) + 1024 < n then s.pos.count else n) ∧
      (n ≤ -1024 ∨ (s.cfg.stroke : Int) + 1024 ≤ n → t.pos.reasons.overrange = true ∧ t.pos.referenced = false ∧
        onset s t) ∧
      (n < -1024 ∨ (s.cfg.stroke : Int) + 1024 < n → noNotice s t) ∧
      (-1024 < n → n < (s.cfg.stroke : Int) + 1024 → s.cfg.strokeFitted = false → t.pos.reasons = s.pos.reasons ∧
        t.pos.referenced = s.pos.referenced) ∧
      (-1024 < n → n < (s.cfg.stroke : Int) + 1024 → s.drive.state = .travel → ∀ g p dir, s.drive.goal = some g →
        g.target = .pm p → s.drive.dir = some dir →
        (match dir with
          | .closing => n ≤ ((p * s.cfg.stroke / 1000 : Nat) : Int)
          | .opening => ((p * s.cfg.stroke / 1000 : Nat) : Int) ≤ n) →
        t.drive.state = .stopping ∧ t.drive.continuation = some .goal ∧ t.supply.sagCount = 0) ∧
      (-1024 < n → n < (s.cfg.stroke : Int) + 1024 → s.drive.state = .idle →
        (∀ l, acting s = some l → ∀ h, s.levels.holdRef = some h → position t ≠ position s → 20 < gap (position t) h →
          let g : Goal := ⟨l, if suspect s = true ∨ l = .storm then .seat
            else (if l = .rain then s.levels.rainTarget else s.levels.demandTarget).getD .seat⟩
          t.levels = { s.levels with handed := some g, holdRef := some (position t) } ∧ t.drive.goal = some g ∧
          (s.drive.controlledStop = false →
            t.drive.state = (if needsMotion g t then .waitSlot else .idle))) ∧
        (acting s = none ∨ s.levels.holdRef = none ∨ position t = position s ∨
          (∃ h, s.levels.holdRef = some h ∧ gap (position t) h ≤ 20) →
          t.levels = s.levels ∧ t.drive = { s.drive with refreshDl := t.drive.refreshDl })) ∧
      (s.safe = false → position t ≠ position s → 20 ≤ gap (position t) s.pos.lastReported →
        t.pos.lastReported = position t ∧ (refusesPlacement .state s = false →
          ∃ e ∈ t.line.queue, e.kind = .state ∧ e.cls = .drive ∧ e.payload = statePayload t)) ∧
      (position t = position s ∨ gap (position t) s.pos.lastReported < 20 → reportedFields t = reportedFields s →
        t.pos.lastReported = s.pos.lastReported)) ∧
  (∀ (pair : HallPair) (s : State), Ready s → pair = ~~~s.pos.hall →
    ∃ t, exec (.hallSkip pair) s = .next t ∧ t.pos.hall = pair ∧ t.pos.count = s.pos.count ∧
      t.pos.reasons.hallSkip = true ∧ t.pos.referenced = false ∧ suspect t = true ∧ onset s t ∧ noNotice s t) ∧
  (∀ (reading : Nat) (s : State), Ready s → reading < 160 → energised s = true →
    ∃ t, exec (.supplyBelowHallFloor reading) s = .next t ∧ t.pos.count = s.pos.count ∧
      t.pins = { s.pins with supply := reading } ∧ t.pos.reasons.sagInMotion = true ∧
      t.pos.referenced = s.pos.referenced ∧ suspect t = true ∧ onset s t)

/-- A velocity window gives the change of the count since it began; windows of an energised bridge that began at or
after the check start and ran below the stall speed count up to a stall at the third, and a faster one starts the count
anew. The stall is a seat, an obstruction or the end of a backoff by where the drive stands (when the notices of a seat
are handed is the model's reading, notes/assumptions/18.md). A cross-check in IDLE that finds the stroke sensor apart
adds MISMATCH, at whose onset closed-seated is handed in the name of the acting level; one that agrees only sets the
next. -/
def Obligations.VelocityAndCrossCheckAreTaken : Prop :=
  (∀ s : State, Ready s → velocityEnds s = true →
    let v := (s.pos.count - s.pos.windowStart).natAbs
    let window := { s.pos with velocity := v, windowStart := s.pos.count, windowBegin := s.nt }
    (energised s = false → exec .velocityWindowEnd s = .next { s with pos := window }) ∧
    (energised s = true → due s.pos.windowBegin s.drive.checkStart = false → s.drive.stallRun < 3 →
      exec .velocityWindowEnd s = .next { s with pos := window }) ∧
    (energised s = true → due s.pos.windowBegin s.drive.checkStart = true → stallSpeed s ≤ v →
      exec .velocityWindowEnd s = .next { s with pos := window, drive := { s.drive with stallRun := 0 } }) ∧
    (energised s = true → due s.pos.windowBegin s.drive.checkStart = true → v < stallSpeed s → s.drive.stallRun < 2 →
      exec .velocityWindowEnd s = .next { s with
        pos := window, drive := { s.drive with stallRun := s.drive.stallRun + 1 } }) ∧
    (energised s = true → due s.pos.windowBegin s.drive.checkStart = true → v < stallSpeed s → 2 ≤ s.drive.stallRun →
      s.drive.retry ≤ s.cfg.retryLimit → ∃ t, exec .velocityWindowEnd s = .next t ∧
        t.pos.velocity = v ∧ t.pos.windowBegin = s.nt ∧
        Detected { s with pos := window, drive := { s.drive with stallRun := s.drive.stallRun + 1 } } t)) ∧
  (∀ (stroke : BitVec 12) (s : State), Ready s → s.cfg.strokeFitted = true → s.drive.state = .idle →
    due s.nt s.pos.crossCheckDl = true →
    let measured := strokePosition stroke.toNat s.cfg.closedReading s.cfg.openReading
    (s.pos.referenced = false ∨ gap measured (position s) ≤ s.cfg.mismatch →
      exec (.crossCheckDeadline stroke) s = .next { s with
        pins := { s.pins with stroke := stroke }
        pos := { s.pos with crossCheckDl := some (after s.nt 10000) } }) ∧
    (s.pos.referenced = true → s.cfg.mismatch < gap measured (position s) →
      ∃ t, exec (.crossCheckDeadline stroke) s = .next t ∧ t.pos.reasons.mismatch = true ∧
        t.pos.referenced = true ∧ t.pos.count = s.pos.count ∧
        (acting s = none ∨ suspect s = true → t.levels = s.levels ∧ t.drive = { s.drive with
          refreshDl := t.drive.refreshDl } ∧ t.pos.crossCheckDl = some (after s.nt 10000)) ∧
        (∀ l, acting s = some l → suspect s = false →
          t.levels = { s.levels with handed := some ⟨l, .seat⟩, holdRef := some (position s) } ∧
          t.drive.goal = some ⟨l, .seat⟩ ∧
          (s.drive.controlledStop = true ∨ needsMotion ⟨l, .seat⟩ s = false →
            t.drive.state = .idle ∧ t.supply = s.supply) ∧
          (s.drive.controlledStop = false → needsMotion ⟨l, .seat⟩ s = true → t.drive.state = .waitSlot ∧
            (s.safe = false → s.supply.admission = .none → t.supply.admission = .settling ∧
              t.supply.own = some (l, .closing) ∧ t.supply.settleDl = some (after s.nt 250))))))

/-! ### Commissioning (Chapter 9) -/

/-- CONFIGURE addressed to the node: OPEN opens the window for 600 s while the service key is on and is refused
otherwise; WRITE of a value in the field's range begins a write of 30 ms; READ answers the tested value; an unknown
field, a value out of range, a closed window and a write in progress are answered with their status. -/
def Obligations.ConfigureIsAnswered : Prop :=
  ∀ (bits : List Bool) (f : Frame) (s : State), Ready s → receive bits = some f →
    f.kind = Kind.configure.code → f.source.toNat ≠ lineId s → (f.payload.getD 0 0).toNat % 64 = lineId s →
    s.listen = false → s.line.listenOnly = false →
    let index := (f.payload.getD 2 0).toNat
    let value := (f.payload.getD 3 0).toNat * 256 + (f.payload.getD 4 0).toNat
    let command := fun op : Byte => if op = 0 then Instr.configureOpen bits else if op = 1 then .configureWrite bits
      else .configureRead bits
    let answered := fun (t : State) (v : Nat) (status : Status) (window : BitVec 2) =>
      ∃ e ∈ t.line.queue, e.kind = .record ∧ e.cls = .routine ∧
        e.payload = [BitVec.ofNat 8 index, BitVec.ofNat 8 (v / 256), BitVec.ofNat 8 v, status.code,
          window ++ 0#5 ++ BitVec.ofBool s.safe]
    let renewed : Commissioning := { s.store with deadline := some (after s.nt 600000) }
    ∀ op : Byte, f.payload.getD 1 0 = op → op = 0 ∨ op = 1 ∨ op = 2 → ∃ t, exec (command op) s = .next t ∧
      t = { s with
        store := t.store
        line := { s.line with
          queue := t.line.queue, lastHeard := s.nt, isolationDl := after s.nt 60000, isolated := false } } ∧
      (s.store.isOpen = false → op = 0 → keyIsOn s = true →
        t.store = ⟨true, some (after s.nt 600000), none, false⟩ ∧ answered t 0 .ok 1) ∧
      (s.store.isOpen = false → (op ≠ 0 ∨ keyIsOn s = false) → t.store = s.store ∧
        (s.safe = false → answered t 0 .closed 0)) ∧
      (s.store.isOpen = true → s.store.writing.isSome = true → t.store = renewed ∧ answered t 0 .busy 2) ∧
      (s.store.isOpen = true → s.store.writing = none →
        (op = 0 → t.store = renewed ∧ answered t 0 .ok 1) ∧
        (op ≠ 0 → s.stored[index]? = none → t.store = renewed ∧ answered t 0 .badField 1) ∧
        (∀ field, s.stored[index]? = some field →
          (op = 1 → inRange index value = true → t.line.queue = s.line.queue ∧
            t.store = { renewed with writing := some ⟨index, BitVec.ofNat 16 value, after s.nt 30⟩ }) ∧
          (op = 1 → inRange index value = false → t.store = renewed ∧
            answered t field.value.toNat .outOfRange 1) ∧
          (op = 2 → t.store = renewed ∧ answered t (checkField field).1.toNat (checkField field).2 1)))

/-- The completion of a write stores what the read-back gives and answers OK when it is what was written, else
WRITE_FAILED; a window that was to close then closes, as it does at its deadline when no write is in progress. In the
safe profile the closing, by that completion, by the deadline or by a key-off, takes a queued RECORD out of the queue,
that completion's own among them, and cuts off one in transmission. That the deadline of a closed window, and of one
that waits for a write to close, is none is the model's choice (notes/assumptions/37.md). -/
def Obligations.WriteCompletesAndWindowCloses : Prop :=
  let cut := fun (s t : State) =>
    t.line = { s.line with
      queue := t.line.queue, inFlight := t.line.inFlight
      driven := if ∃ f, s.line.inFlight = some f ∧ f.kind = .record then 0 else s.line.driven } ∧
    (∀ e, e ∈ t.line.queue ↔ e ∈ s.line.queue ∧ e.kind ≠ .record) ∧
    (∀ f, t.line.inFlight = some f ↔ s.line.inFlight = some f ∧ f.kind ≠ .record)
  (∀ (value : BitVec 16) (check : BitVec 6) (w : Writing) (s : State), Ready s → s.listen = false →
    s.line.listenOnly = false → s.store.isOpen = true → s.store.writing = some w → passed s.nt w.deadline = true →
    ∃ t, exec (.writeComplete value check) s = .next t ∧
      t = { s with stored := s.stored.set w.index ⟨value, check⟩, store := t.store, line := t.line } ∧
      (s.store.closePending = false → t.store = { s.store with writing := none }) ∧
      (s.store.closePending = true → t.store = ⟨false, none, none, false⟩) ∧
      (s.safe = false ∨ s.store.closePending = false →
        t.line = { s.line with queue := t.line.queue } ∧ ∃ e ∈ t.line.queue, e.kind = .record ∧ e.cls = .routine ∧
          e.payload.take 4 = [BitVec.ofNat 8 w.index, BitVec.ofNat 8 (value.toNat / 256), BitVec.ofNat 8 value.toNat,
            if value = w.value ∧ check = checkBits w.value then 0 else 7]) ∧
      (s.safe = true → s.store.closePending = true → cut s t)) ∧
  (∀ s : State, Ready s → s.store.isOpen = true → due s.nt s.store.deadline = true →
    (s.store.writing = none → s.safe = false → exec .commissioningWindowDeadline s = .next { s with
      store := ⟨false, none, none, false⟩ }) ∧
    (s.store.writing = none → s.safe = true → ∃ t, exec .commissioningWindowDeadline s = .next t ∧
      t = { s with store := ⟨false, none, none, false⟩, line := t.line } ∧ cut s t) ∧
    (s.store.writing.isSome = true → exec .commissioningWindowDeadline s = .next { s with
      store := { s.store with closePending := true, deadline := none } })) ∧
  (∀ s : State, Ready s → LevelsLawful s → s.safe = true → s.store.isOpen = true → s.store.writing = none →
    keyDue s = true → s.sensor.keySettled = some true → 19 ≤ s.sensor.keyRun →
    ∃ t, exec (.keySample false) s = .next t ∧ t.store = ⟨false, none, none, false⟩ ∧ cut s t)

/-- The six check bits stored with a field correct any one wrong bit of the twenty-two and find any two, which leave the
value as stored (that code is the model's choice, notes/assumptions/6.md). The thirty-four fields so read are a valid
configuration when none has two wrong bits, each lies in its range of Figure 9-1 and the rules between fields hold; then
every block reads them as they are, in the safe profile where the id is 0. An invalid one puts the node in the safe
profile with every field at its default but the kind, and the stroke where it lies in its range. -/
def Obligations.FieldCheckBitsCorrectOneAndFindTwo : Prop :=
  (∀ (v : BitVec 16) (i j : Nat), i < 22 → j < 22 → i ≠ j →
    let flip := fun (k : Nat) (f : StoredField) =>
      if k < 16 then { f with value := f.value ^^^ BitVec.twoPow 16 k }
      else { f with check := f.check ^^^ BitVec.twoPow 6 (k - 16) }
    let twice := flip j (flip i (encodeField v))
    checkField (encodeField v) = (v, .ok) ∧ checkField (flip i (encodeField v)) = (v, .corrected) ∧
    checkField twice = (twice.value, .uncorrectable)) ∧
  (∀ stored : List StoredField, stored.length = 34 →
    let read := stored.map fun f => (checkField f).1.toNat
    let value := fun i : Nat => read.getD i 0
    let flag := fun (i k : Nat) => value i / 2 ^ k % 2 == 1
    let ranges : List (Nat × Nat) :=
      [(0, 62), (0, 15), (1, 15), (1, 4), (0, 1), (0, 15), (0, 7), (1, 2550), (50, 400), (0, 100), (60, 65535), (1, 15),
        (60, 65535), (0, 1000), (100, 1000), (200, 60000), (0, 4095)] ++
      [(0, 4095), (10, 200), (0, 100), (1, 255), (1, 255), (1, 255), (1, 64), (0, 4000), (10, 1024), (1, 50),
        (50, 1000), (0, 2000), (0, 7), (1, 600), (170, 230), (0, 15), (0, 65535)]
    let valid := (∀ f ∈ stored, (checkField f).2 ≠ .uncorrectable) ∧
      (∀ p ∈ ranges.zip read, p.1.1 ≤ p.2 ∧ p.2 ≤ p.1.2) ∧
      value 20 ≤ value 21 ∧ value 22 ≤ value 21 ∧ value 3 ≤ value 2 ∧ value 13 ≤ value 14 ∧
      (flag 6 2 = true → value 16 + 200 ≤ value 17 ∨ value 17 + 200 ≤ value 16)
    (valid → loadConfig stored = ({
        id := value 0, group := value 1, budget := value 2, weight := value 3, skylight := value 4 == 1
        facade := value 5, windFitted := flag 6 0, wetFitted := flag 6 1, strokeFitted := flag 6 2
        factor := value 7, stormLimit := value 8, hysteresis := value 9, stormQuiet := value 10
        rainThreshold := value 11, rainQuiet := value 12, rainGap := value 13, maxOpen := value 14
        stroke := value 15, closedReading := value 16, openReading := value 17, mismatch := value 18
        warnTime := value 19, startDuty := value 20, travelDuty := value 21, creepDuty := value 22
        rampStep := value 23, approachBand := value 24, seatBand := value 25, stallSpeed := value 26
        currentLimit := value 27, backoff := value 28, retryLimit := value 29, retryDelay := value 30
        sagThreshold := value 31, windLossClose := flag 32 0, isolationClose := flag 32 1
        tone := value 32 / 4 % 4, demandExpiry := value 33 }, value 0 == 0)) ∧
    (¬valid → loadConfig stored = ({
        id := 0, group := 0, budget := 4, weight := 1, skylight := value 4 == 1, facade := 0
        windFitted := false, wetFitted := false, strokeFitted := false, factor := 70, stormLimit := 150
        hysteresis := 20, stormQuiet := 600, rainThreshold := 4, rainQuiet := 1800, rainGap := 0, maxOpen := 1000
        stroke := if 200 ≤ value 15 ∧ value 15 ≤ 60000 then value 15 else 4000
        closedReading := 0, openReading := 4095, mismatch := 40, warnTime := 30, startDuty := 60
        travelDuty := 230, creepDuty := 90, rampStep := 8, approachBand := 400, seatBand := 120
        stallSpeed := 4, currentLimit := 300, backoff := 160, retryLimit := 3, retryDelay := 10
        sagThreshold := 190, windLossClose := true, isolationClose := false, tone := 0, demandExpiry := 0 }, true)))

/-! ### Starts and losses of power (Chapter 10) -/

/-- A rise of the logic supply starts the node: warm when the Retained Record is valid, with the count (brought to the
nearer bound with OVERRANGE where it lies outside), the reasons and the levels that were raised as it holds them, in the
safe profile with every level QUIET; otherwise cold with the position UNRETAINED. Every block is at its start values,
with fresh quiet deadlines for the restored levels. The Hall pair is taken as the pins show it at the rise, whatever the
tracker held before the loss (notes/assumptions/33.md). The start values that the spec does not give are the model's
choice: the 0 µs since a falling edge (notes/assumptions/4.md), the backoff origin, the pattern start, the recorded
hold-off and the obstruction-pending mark of the drive and the velocity (notes/assumptions/17.md), the marks of the last
samples (notes/assumptions/31.md), and the deadline of the closed window (notes/assumptions/37.md). -/
def Obligations.PowerUpStartsColdOrWarm : Prop :=
  ∀ s : State, s.power = false → ∃ t, exec .powerUp s = .next t ∧ Ready t ∧ t.stored = s.stored ∧ t.pins = s.pins ∧
    (s.retained.valid = false → AtStart false false t ∧ t.pos.count = 0 ∧ t.pos.referenced = false ∧
      t.pos.reasons = ⟨false, false, false, false, false, true, false⟩ ∧
      t.retained.lossLatch = false ∧ t.retained.valid = true) ∧
    (s.retained.valid = true →
      AtStart (s.retained.items.storm && !t.safe) (s.retained.items.rain && !t.safe) t ∧
      Restored s.retained.items t ∧ t.retained.lossLatch = false)

/-- A loss of the logic supply takes every output off and ends what the line and the store were doing; the stored
fields keep their contents unless it cut a write short, the record unless it cut a renewal short, and then the record
is no longer valid. A loss of the backup rail sets the loss latch, with which no record is valid, and does nothing
else (notes/assumptions/36.md); without supply no other event but a rise does anything, but that a Hall pair moves the
level at its pins, uncounted (notes/assumptions/33.md). That a torn record keeps its items and that the fields of the
dead blocks keep their values is the model's choice (notes/assumptions/8.md and 22.md). -/
def Obligations.LossOfPowerStopsTheNode : Prop :=
  (∀ (torn : Bool) (s : State), s.power = true → ∃ t, exec (.logicSupplyLoss torn) s = .next t ∧
    t.power = false ∧ gates t = ⟨.off, .off, .off, .off⟩ ∧ sounderOn t = false ∧ lampOn t = false ∧
    gridDriven t = false ∧
    t.line = { s.line with inFlight := none, driven := 0 } ∧ lineDriven t = false ∧ t.store.writing = none ∧ t.nt = s.nt ∧
    (s.store.writing = none → t.stored = s.stored) ∧
    t.retained.items = s.retained.items ∧ t.retained.lossLatch = s.retained.lossLatch ∧
    (torn = false → t.retained = s.retained) ∧ (torn = true → t.retained.valid = false)) ∧
  (∀ s : State, exec .backupRailLoss s = .next { s with retained := { s.retained with lossLatch := true } } ∧
    ({ s.retained with lossLatch := true } : Retained).valid = false) ∧
  (∀ (c : Instr) (s : State), s.power = false → c ≠ .powerUp → c ≠ .backupRailLoss →
    (∀ pair, c ≠ .hallStep pair ∧ c ≠ .hallSkip pair) → exec c s = .next s) ∧
  (∀ (pair : HallPair) (s : State), s.power = false →
    exec (.hallStep pair) s = .next { s with pins := { s.pins with hall := pair } } ∧
    exec (.hallSkip pair) s = .next { s with pins := { s.pins with hall := pair } })

/-- The end of LISTEN lets the highest raised level act; in the safe profile it begins the safe seat: a warning of
3,000 ms with the drive at rest and service hold off. -/
def Obligations.ListenEndLetsALevelAct : Prop :=
  ∀ s : State, Ready s → LevelsLawful s → s.listen = true → passed s.nt 2000#32 = true →
    ∃ t, exec .listenEnd s = .next t ∧ t.listen = false ∧
      (s.safe = false → acting t = (if s.levels.serviceHold = true then none
        else if s.levels.storm ≠ .quiet then some .storm
        else if s.levels.rain ≠ .quiet then some .rain
        else if s.levels.demand ≠ .quiet then some .demand else none)) ∧
      (s.safe = false → s.levels.serviceHold = false → s.levels.storm ≠ .quiet →
        t.levels.handed = some ⟨.storm, .seat⟩) ∧
      (s.safe = true → t.line = s.line ∧ t.levels.storm = s.levels.storm) ∧
      (s.safe = true → s.levels.serviceHold = false → s.drive.safePhase = .notBegun → s.drive.state = .idle →
        s.drive.controlledStop = false → t.drive.state = .warning ∧ t.drive.safePhase = .warning ∧
          t.drive.pattern = some .warn ∧ t.drive.warningDl = some (after s.nt 3000))

/-- A RESTART addressed to the node by its line id makes the drive stop under control; a second one has no further
effect; with the drive at rest the start follows, which keeps the record without a test and starts every block anew: the
Position Tracker with the count, flag and reasons it had (a count outside the bounds of a smaller stroke at the nearer
one, with OVERRANGE), STORM and RAIN as ARMED where they were raised, with fresh quiet deadlines, in the safe profile
every level QUIET, and every other block at its start values. That a record whose loss latch is set is restored so too,
its bytes as they were, is the model's choice (notes/assumptions/36.md), and so is that a write still in progress is cut
short, each bit of its field the old or the new one, a third valid value not excluded (notes/assumptions/9.md). The
start values that the spec does not give are the model's choice too: the 0 µs since a falling edge
(notes/assumptions/4.md), the backoff origin, the pattern start, the recorded hold-off and the obstruction-pending mark
of the drive and the velocity (notes/assumptions/17.md), the marks of the last samples (notes/assumptions/31.md), and
the deadline of the closed window (notes/assumptions/37.md). -/
def Obligations.RestartStopsThenStarts : Prop :=
  (∀ (bits : List Bool) (f : Frame) (s : State), Ready s → receive bits = some f → f.kind = Kind.request.code →
    f.source.toNat ≠ lineId s → (f.payload.getD 1 0) = 4 →
    (f.payload.getD 0 0).toNat / 64 = 0 → (f.payload.getD 0 0).toNat % 64 = lineId s →
    let heard := { s with line := { s.line with
      lastHeard := s.nt, isolationDl := after s.nt 60000, isolated := false } }
    (s.drive.controlledStop = true ∨ (s.safe = true ∧ s.store.isOpen = false) →
      exec (.requestRestart bits) s = .next heard) ∧
    (s.drive.controlledStop = false → (s.safe = false ∨ s.store.isOpen = true) →
      ∃ t, exec (.requestRestart bits) s = .next t ∧ t.drive.controlledStop = true ∧
        (s.drive.state.energised = true → t.drive.state = .stopping ∧ t.drive.continuation = some .halt ∧
          t.drive.stopDl = some (after s.nt 200)) ∧
        (s.drive.state = .stopping → t.drive.state = .stopping ∧ t.drive.continuation = some .halt ∧
          t.drive.stopDl = s.drive.stopDl) ∧
        (s.drive.state.energised = false → s.drive.state ≠ .stopping → t.drive.state = .idle) ∧
        (s.drive.state = .idle → t = { heard with drive := { s.drive with controlledStop := true } }))) ∧
  (∀ s : State, Ready s → s.drive.controlledStop = true → s.drive.state = .idle →
    ∃ t, exec .restartStart s = .next t ∧ Ready t ∧
      (s.store.writing = none → t.stored = s.stored) ∧
      (∀ w, s.store.writing = some w → (∀ i, i ≠ w.index → t.stored[i]? = s.stored[i]?) ∧
        ∀ old, s.stored[w.index]? = some old → ∃ field, t.stored[w.index]? = some field ∧
          (∀ k, field.value.getLsbD k = old.value.getLsbD k ∨ field.value.getLsbD k = w.value.getLsbD k) ∧
          ∀ k, field.check.getLsbD k = old.check.getLsbD k ∨
            field.check.getLsbD k = (checkBits w.value).getLsbD k) ∧
      AtStart (s.levels.storm != .quiet && !t.safe) (s.levels.rain != .quiet && !t.safe) t ∧
      Restored { mirrored s with inMotion := false } t ∧ t.pins = s.pins ∧
      t.retained.lossLatch = s.retained.lossLatch)

end
end

