-- ==== Sys2Proof/Laws/State.lean ====
section
/-! SUPPORT. One lemma per field and update of the state, so that no later proof unfolds a record update. -/

namespace Sys2Proof.Machine

variable (s : State)

@[simp] theorem State.setPower_power (v : Bool) : (s.setPower v).power = v := rfl
@[simp] theorem State.setPower_nt (v : Bool) : (s.setPower v).nt = s.nt := rfl
@[simp] theorem State.setPower_served (v : Bool) : (s.setPower v).served = s.served := rfl
@[simp] theorem State.setPower_listen (v : Bool) : (s.setPower v).listen = s.listen := rfl
@[simp] theorem State.setPower_safe (v : Bool) : (s.setPower v).safe = s.safe := rfl
@[simp] theorem State.setPower_cfg (v : Bool) : (s.setPower v).cfg = s.cfg := rfl
@[simp] theorem State.setPower_stored (v : Bool) : (s.setPower v).stored = s.stored := rfl
@[simp] theorem State.setPower_store (v : Bool) : (s.setPower v).store = s.store := rfl
@[simp] theorem State.setPower_retained (v : Bool) : (s.setPower v).retained = s.retained := rfl
@[simp] theorem State.setPower_sensor (v : Bool) : (s.setPower v).sensor = s.sensor := rfl
@[simp] theorem State.setPower_line (v : Bool) : (s.setPower v).line = s.line := rfl
@[simp] theorem State.setPower_peers (v : Bool) : (s.setPower v).peers = s.peers := rfl
@[simp] theorem State.setPower_weather (v : Bool) : (s.setPower v).weather = s.weather := rfl
@[simp] theorem State.setPower_levels (v : Bool) : (s.setPower v).levels = s.levels := rfl
@[simp] theorem State.setPower_supply (v : Bool) : (s.setPower v).supply = s.supply := rfl
@[simp] theorem State.setPower_drive (v : Bool) : (s.setPower v).drive = s.drive := rfl
@[simp] theorem State.setPower_pos (v : Bool) : (s.setPower v).pos = s.pos := rfl
@[simp] theorem State.setPower_pins (v : Bool) : (s.setPower v).pins = s.pins := rfl
@[simp] theorem State.setPower_pinFeed (v : Bool) : (s.setPower v).pinFeed = s.pinFeed := rfl
@[simp] theorem State.setPower_lineFeed (v : Bool) : (s.setPower v).lineFeed = s.lineFeed := rfl
@[simp] theorem State.setPower_occasion (v : Bool) : (s.setPower v).occasion = s.occasion := rfl
@[simp] theorem State.setPower_freeIx (v : Bool) : (s.setPower v).freeIx = s.freeIx := rfl
@[simp] theorem State.setPower_pending (v : Bool) : (s.setPower v).pending = s.pending := rfl
@[simp] theorem State.setPower_same : s.setPower s.power = s := rfl

@[simp] theorem State.setNt_power (v : Time) : (s.setNt v).power = s.power := rfl
@[simp] theorem State.setNt_nt (v : Time) : (s.setNt v).nt = v := rfl
@[simp] theorem State.setNt_served (v : Time) : (s.setNt v).served = s.served := rfl
@[simp] theorem State.setNt_listen (v : Time) : (s.setNt v).listen = s.listen := rfl
@[simp] theorem State.setNt_safe (v : Time) : (s.setNt v).safe = s.safe := rfl
@[simp] theorem State.setNt_cfg (v : Time) : (s.setNt v).cfg = s.cfg := rfl
@[simp] theorem State.setNt_stored (v : Time) : (s.setNt v).stored = s.stored := rfl
@[simp] theorem State.setNt_store (v : Time) : (s.setNt v).store = s.store := rfl
@[simp] theorem State.setNt_retained (v : Time) : (s.setNt v).retained = s.retained := rfl
@[simp] theorem State.setNt_sensor (v : Time) : (s.setNt v).sensor = s.sensor := rfl
@[simp] theorem State.setNt_line (v : Time) : (s.setNt v).line = s.line := rfl
@[simp] theorem State.setNt_peers (v : Time) : (s.setNt v).peers = s.peers := rfl
@[simp] theorem State.setNt_weather (v : Time) : (s.setNt v).weather = s.weather := rfl
@[simp] theorem State.setNt_levels (v : Time) : (s.setNt v).levels = s.levels := rfl
@[simp] theorem State.setNt_supply (v : Time) : (s.setNt v).supply = s.supply := rfl
@[simp] theorem State.setNt_drive (v : Time) : (s.setNt v).drive = s.drive := rfl
@[simp] theorem State.setNt_pos (v : Time) : (s.setNt v).pos = s.pos := rfl
@[simp] theorem State.setNt_pins (v : Time) : (s.setNt v).pins = s.pins := rfl
@[simp] theorem State.setNt_pinFeed (v : Time) : (s.setNt v).pinFeed = s.pinFeed := rfl
@[simp] theorem State.setNt_lineFeed (v : Time) : (s.setNt v).lineFeed = s.lineFeed := rfl
@[simp] theorem State.setNt_occasion (v : Time) : (s.setNt v).occasion = s.occasion := rfl
@[simp] theorem State.setNt_freeIx (v : Time) : (s.setNt v).freeIx = s.freeIx := rfl
@[simp] theorem State.setNt_pending (v : Time) : (s.setNt v).pending = s.pending := rfl
@[simp] theorem State.setNt_same : s.setNt s.nt = s := rfl

@[simp] theorem State.setServed_power (v : Bool) : (s.setServed v).power = s.power := rfl
@[simp] theorem State.setServed_nt (v : Bool) : (s.setServed v).nt = s.nt := rfl
@[simp] theorem State.setServed_served (v : Bool) : (s.setServed v).served = v := rfl
@[simp] theorem State.setServed_listen (v : Bool) : (s.setServed v).listen = s.listen := rfl
@[simp] theorem State.setServed_safe (v : Bool) : (s.setServed v).safe = s.safe := rfl
@[simp] theorem State.setServed_cfg (v : Bool) : (s.setServed v).cfg = s.cfg := rfl
@[simp] theorem State.setServed_stored (v : Bool) : (s.setServed v).stored = s.stored := rfl
@[simp] theorem State.setServed_store (v : Bool) : (s.setServed v).store = s.store := rfl
@[simp] theorem State.setServed_retained (v : Bool) : (s.setServed v).retained = s.retained := rfl
@[simp] theorem State.setServed_sensor (v : Bool) : (s.setServed v).sensor = s.sensor := rfl
@[simp] theorem State.setServed_line (v : Bool) : (s.setServed v).line = s.line := rfl
@[simp] theorem State.setServed_peers (v : Bool) : (s.setServed v).peers = s.peers := rfl
@[simp] theorem State.setServed_weather (v : Bool) : (s.setServed v).weather = s.weather := rfl
@[simp] theorem State.setServed_levels (v : Bool) : (s.setServed v).levels = s.levels := rfl
@[simp] theorem State.setServed_supply (v : Bool) : (s.setServed v).supply = s.supply := rfl
@[simp] theorem State.setServed_drive (v : Bool) : (s.setServed v).drive = s.drive := rfl
@[simp] theorem State.setServed_pos (v : Bool) : (s.setServed v).pos = s.pos := rfl
@[simp] theorem State.setServed_pins (v : Bool) : (s.setServed v).pins = s.pins := rfl
@[simp] theorem State.setServed_pinFeed (v : Bool) : (s.setServed v).pinFeed = s.pinFeed := rfl
@[simp] theorem State.setServed_lineFeed (v : Bool) : (s.setServed v).lineFeed = s.lineFeed := rfl
@[simp] theorem State.setServed_occasion (v : Bool) : (s.setServed v).occasion = s.occasion := rfl
@[simp] theorem State.setServed_freeIx (v : Bool) : (s.setServed v).freeIx = s.freeIx := rfl
@[simp] theorem State.setServed_pending (v : Bool) : (s.setServed v).pending = s.pending := rfl
@[simp] theorem State.setServed_same : s.setServed s.served = s := rfl

@[simp] theorem State.setListen_power (v : Bool) : (s.setListen v).power = s.power := rfl
@[simp] theorem State.setListen_nt (v : Bool) : (s.setListen v).nt = s.nt := rfl
@[simp] theorem State.setListen_served (v : Bool) : (s.setListen v).served = s.served := rfl
@[simp] theorem State.setListen_listen (v : Bool) : (s.setListen v).listen = v := rfl
@[simp] theorem State.setListen_safe (v : Bool) : (s.setListen v).safe = s.safe := rfl
@[simp] theorem State.setListen_cfg (v : Bool) : (s.setListen v).cfg = s.cfg := rfl
@[simp] theorem State.setListen_stored (v : Bool) : (s.setListen v).stored = s.stored := rfl
@[simp] theorem State.setListen_store (v : Bool) : (s.setListen v).store = s.store := rfl
@[simp] theorem State.setListen_retained (v : Bool) : (s.setListen v).retained = s.retained := rfl
@[simp] theorem State.setListen_sensor (v : Bool) : (s.setListen v).sensor = s.sensor := rfl
@[simp] theorem State.setListen_line (v : Bool) : (s.setListen v).line = s.line := rfl
@[simp] theorem State.setListen_peers (v : Bool) : (s.setListen v).peers = s.peers := rfl
@[simp] theorem State.setListen_weather (v : Bool) : (s.setListen v).weather = s.weather := rfl
@[simp] theorem State.setListen_levels (v : Bool) : (s.setListen v).levels = s.levels := rfl
@[simp] theorem State.setListen_supply (v : Bool) : (s.setListen v).supply = s.supply := rfl
@[simp] theorem State.setListen_drive (v : Bool) : (s.setListen v).drive = s.drive := rfl
@[simp] theorem State.setListen_pos (v : Bool) : (s.setListen v).pos = s.pos := rfl
@[simp] theorem State.setListen_pins (v : Bool) : (s.setListen v).pins = s.pins := rfl
@[simp] theorem State.setListen_pinFeed (v : Bool) : (s.setListen v).pinFeed = s.pinFeed := rfl
@[simp] theorem State.setListen_lineFeed (v : Bool) : (s.setListen v).lineFeed = s.lineFeed := rfl
@[simp] theorem State.setListen_occasion (v : Bool) : (s.setListen v).occasion = s.occasion := rfl
@[simp] theorem State.setListen_freeIx (v : Bool) : (s.setListen v).freeIx = s.freeIx := rfl
@[simp] theorem State.setListen_pending (v : Bool) : (s.setListen v).pending = s.pending := rfl
@[simp] theorem State.setListen_same : s.setListen s.listen = s := rfl

@[simp] theorem State.setStored_power (v : List StoredField) : (s.setStored v).power = s.power := rfl
@[simp] theorem State.setStored_nt (v : List StoredField) : (s.setStored v).nt = s.nt := rfl
@[simp] theorem State.setStored_served (v : List StoredField) : (s.setStored v).served = s.served := rfl
@[simp] theorem State.setStored_listen (v : List StoredField) : (s.setStored v).listen = s.listen := rfl
@[simp] theorem State.setStored_safe (v : List StoredField) : (s.setStored v).safe = s.safe := rfl
@[simp] theorem State.setStored_cfg (v : List StoredField) : (s.setStored v).cfg = s.cfg := rfl
@[simp] theorem State.setStored_stored (v : List StoredField) : (s.setStored v).stored = v := rfl
@[simp] theorem State.setStored_store (v : List StoredField) : (s.setStored v).store = s.store := rfl
@[simp] theorem State.setStored_retained (v : List StoredField) : (s.setStored v).retained = s.retained := rfl
@[simp] theorem State.setStored_sensor (v : List StoredField) : (s.setStored v).sensor = s.sensor := rfl
@[simp] theorem State.setStored_line (v : List StoredField) : (s.setStored v).line = s.line := rfl
@[simp] theorem State.setStored_peers (v : List StoredField) : (s.setStored v).peers = s.peers := rfl
@[simp] theorem State.setStored_weather (v : List StoredField) : (s.setStored v).weather = s.weather := rfl
@[simp] theorem State.setStored_levels (v : List StoredField) : (s.setStored v).levels = s.levels := rfl
@[simp] theorem State.setStored_supply (v : List StoredField) : (s.setStored v).supply = s.supply := rfl
@[simp] theorem State.setStored_drive (v : List StoredField) : (s.setStored v).drive = s.drive := rfl
@[simp] theorem State.setStored_pos (v : List StoredField) : (s.setStored v).pos = s.pos := rfl
@[simp] theorem State.setStored_pins (v : List StoredField) : (s.setStored v).pins = s.pins := rfl
@[simp] theorem State.setStored_pinFeed (v : List StoredField) : (s.setStored v).pinFeed = s.pinFeed := rfl
@[simp] theorem State.setStored_lineFeed (v : List StoredField) : (s.setStored v).lineFeed = s.lineFeed := rfl
@[simp] theorem State.setStored_occasion (v : List StoredField) : (s.setStored v).occasion = s.occasion := rfl
@[simp] theorem State.setStored_freeIx (v : List StoredField) : (s.setStored v).freeIx = s.freeIx := rfl
@[simp] theorem State.setStored_pending (v : List StoredField) : (s.setStored v).pending = s.pending := rfl
@[simp] theorem State.setStored_same : s.setStored s.stored = s := rfl

@[simp] theorem State.setStore_power (v : Commissioning) : (s.setStore v).power = s.power := rfl
@[simp] theorem State.setStore_nt (v : Commissioning) : (s.setStore v).nt = s.nt := rfl
@[simp] theorem State.setStore_served (v : Commissioning) : (s.setStore v).served = s.served := rfl
@[simp] theorem State.setStore_listen (v : Commissioning) : (s.setStore v).listen = s.listen := rfl
@[simp] theorem State.setStore_safe (v : Commissioning) : (s.setStore v).safe = s.safe := rfl
@[simp] theorem State.setStore_cfg (v : Commissioning) : (s.setStore v).cfg = s.cfg := rfl
@[simp] theorem State.setStore_stored (v : Commissioning) : (s.setStore v).stored = s.stored := rfl
@[simp] theorem State.setStore_store (v : Commissioning) : (s.setStore v).store = v := rfl
@[simp] theorem State.setStore_retained (v : Commissioning) : (s.setStore v).retained = s.retained := rfl
@[simp] theorem State.setStore_sensor (v : Commissioning) : (s.setStore v).sensor = s.sensor := rfl
@[simp] theorem State.setStore_line (v : Commissioning) : (s.setStore v).line = s.line := rfl
@[simp] theorem State.setStore_peers (v : Commissioning) : (s.setStore v).peers = s.peers := rfl
@[simp] theorem State.setStore_weather (v : Commissioning) : (s.setStore v).weather = s.weather := rfl
@[simp] theorem State.setStore_levels (v : Commissioning) : (s.setStore v).levels = s.levels := rfl
@[simp] theorem State.setStore_supply (v : Commissioning) : (s.setStore v).supply = s.supply := rfl
@[simp] theorem State.setStore_drive (v : Commissioning) : (s.setStore v).drive = s.drive := rfl
@[simp] theorem State.setStore_pos (v : Commissioning) : (s.setStore v).pos = s.pos := rfl
@[simp] theorem State.setStore_pins (v : Commissioning) : (s.setStore v).pins = s.pins := rfl
@[simp] theorem State.setStore_pinFeed (v : Commissioning) : (s.setStore v).pinFeed = s.pinFeed := rfl
@[simp] theorem State.setStore_lineFeed (v : Commissioning) : (s.setStore v).lineFeed = s.lineFeed := rfl
@[simp] theorem State.setStore_occasion (v : Commissioning) : (s.setStore v).occasion = s.occasion := rfl
@[simp] theorem State.setStore_freeIx (v : Commissioning) : (s.setStore v).freeIx = s.freeIx := rfl
@[simp] theorem State.setStore_pending (v : Commissioning) : (s.setStore v).pending = s.pending := rfl
@[simp] theorem State.setStore_same : s.setStore s.store = s := rfl

@[simp] theorem State.setRetained_power (v : Retained) : (s.setRetained v).power = s.power := rfl
@[simp] theorem State.setRetained_nt (v : Retained) : (s.setRetained v).nt = s.nt := rfl
@[simp] theorem State.setRetained_served (v : Retained) : (s.setRetained v).served = s.served := rfl
@[simp] theorem State.setRetained_listen (v : Retained) : (s.setRetained v).listen = s.listen := rfl
@[simp] theorem State.setRetained_safe (v : Retained) : (s.setRetained v).safe = s.safe := rfl
@[simp] theorem State.setRetained_cfg (v : Retained) : (s.setRetained v).cfg = s.cfg := rfl
@[simp] theorem State.setRetained_stored (v : Retained) : (s.setRetained v).stored = s.stored := rfl
@[simp] theorem State.setRetained_store (v : Retained) : (s.setRetained v).store = s.store := rfl
@[simp] theorem State.setRetained_retained (v : Retained) : (s.setRetained v).retained = v := rfl
@[simp] theorem State.setRetained_sensor (v : Retained) : (s.setRetained v).sensor = s.sensor := rfl
@[simp] theorem State.setRetained_line (v : Retained) : (s.setRetained v).line = s.line := rfl
@[simp] theorem State.setRetained_peers (v : Retained) : (s.setRetained v).peers = s.peers := rfl
@[simp] theorem State.setRetained_weather (v : Retained) : (s.setRetained v).weather = s.weather := rfl
@[simp] theorem State.setRetained_levels (v : Retained) : (s.setRetained v).levels = s.levels := rfl
@[simp] theorem State.setRetained_supply (v : Retained) : (s.setRetained v).supply = s.supply := rfl
@[simp] theorem State.setRetained_drive (v : Retained) : (s.setRetained v).drive = s.drive := rfl
@[simp] theorem State.setRetained_pos (v : Retained) : (s.setRetained v).pos = s.pos := rfl
@[simp] theorem State.setRetained_pins (v : Retained) : (s.setRetained v).pins = s.pins := rfl
@[simp] theorem State.setRetained_pinFeed (v : Retained) : (s.setRetained v).pinFeed = s.pinFeed := rfl
@[simp] theorem State.setRetained_lineFeed (v : Retained) : (s.setRetained v).lineFeed = s.lineFeed := rfl
@[simp] theorem State.setRetained_occasion (v : Retained) : (s.setRetained v).occasion = s.occasion := rfl
@[simp] theorem State.setRetained_freeIx (v : Retained) : (s.setRetained v).freeIx = s.freeIx := rfl
@[simp] theorem State.setRetained_pending (v : Retained) : (s.setRetained v).pending = s.pending := rfl
@[simp] theorem State.setRetained_same : s.setRetained s.retained = s := rfl

@[simp] theorem State.setSensor_power (v : Sensor) : (s.setSensor v).power = s.power := rfl
@[simp] theorem State.setSensor_nt (v : Sensor) : (s.setSensor v).nt = s.nt := rfl
@[simp] theorem State.setSensor_served (v : Sensor) : (s.setSensor v).served = s.served := rfl
@[simp] theorem State.setSensor_listen (v : Sensor) : (s.setSensor v).listen = s.listen := rfl
@[simp] theorem State.setSensor_safe (v : Sensor) : (s.setSensor v).safe = s.safe := rfl
@[simp] theorem State.setSensor_cfg (v : Sensor) : (s.setSensor v).cfg = s.cfg := rfl
@[simp] theorem State.setSensor_stored (v : Sensor) : (s.setSensor v).stored = s.stored := rfl
@[simp] theorem State.setSensor_store (v : Sensor) : (s.setSensor v).store = s.store := rfl
@[simp] theorem State.setSensor_retained (v : Sensor) : (s.setSensor v).retained = s.retained := rfl
@[simp] theorem State.setSensor_sensor (v : Sensor) : (s.setSensor v).sensor = v := rfl
@[simp] theorem State.setSensor_line (v : Sensor) : (s.setSensor v).line = s.line := rfl
@[simp] theorem State.setSensor_peers (v : Sensor) : (s.setSensor v).peers = s.peers := rfl
@[simp] theorem State.setSensor_weather (v : Sensor) : (s.setSensor v).weather = s.weather := rfl
@[simp] theorem State.setSensor_levels (v : Sensor) : (s.setSensor v).levels = s.levels := rfl
@[simp] theorem State.setSensor_supply (v : Sensor) : (s.setSensor v).supply = s.supply := rfl
@[simp] theorem State.setSensor_drive (v : Sensor) : (s.setSensor v).drive = s.drive := rfl
@[simp] theorem State.setSensor_pos (v : Sensor) : (s.setSensor v).pos = s.pos := rfl
@[simp] theorem State.setSensor_pins (v : Sensor) : (s.setSensor v).pins = s.pins := rfl
@[simp] theorem State.setSensor_pinFeed (v : Sensor) : (s.setSensor v).pinFeed = s.pinFeed := rfl
@[simp] theorem State.setSensor_lineFeed (v : Sensor) : (s.setSensor v).lineFeed = s.lineFeed := rfl
@[simp] theorem State.setSensor_occasion (v : Sensor) : (s.setSensor v).occasion = s.occasion := rfl
@[simp] theorem State.setSensor_freeIx (v : Sensor) : (s.setSensor v).freeIx = s.freeIx := rfl
@[simp] theorem State.setSensor_pending (v : Sensor) : (s.setSensor v).pending = s.pending := rfl
@[simp] theorem State.setSensor_same : s.setSensor s.sensor = s := rfl

@[simp] theorem State.setLine_power (v : Line) : (s.setLine v).power = s.power := rfl
@[simp] theorem State.setLine_nt (v : Line) : (s.setLine v).nt = s.nt := rfl
@[simp] theorem State.setLine_served (v : Line) : (s.setLine v).served = s.served := rfl
@[simp] theorem State.setLine_listen (v : Line) : (s.setLine v).listen = s.listen := rfl
@[simp] theorem State.setLine_safe (v : Line) : (s.setLine v).safe = s.safe := rfl
@[simp] theorem State.setLine_cfg (v : Line) : (s.setLine v).cfg = s.cfg := rfl
@[simp] theorem State.setLine_stored (v : Line) : (s.setLine v).stored = s.stored := rfl
@[simp] theorem State.setLine_store (v : Line) : (s.setLine v).store = s.store := rfl
@[simp] theorem State.setLine_retained (v : Line) : (s.setLine v).retained = s.retained := rfl
@[simp] theorem State.setLine_sensor (v : Line) : (s.setLine v).sensor = s.sensor := rfl
@[simp] theorem State.setLine_line (v : Line) : (s.setLine v).line = v := rfl
@[simp] theorem State.setLine_peers (v : Line) : (s.setLine v).peers = s.peers := rfl
@[simp] theorem State.setLine_weather (v : Line) : (s.setLine v).weather = s.weather := rfl
@[simp] theorem State.setLine_levels (v : Line) : (s.setLine v).levels = s.levels := rfl
@[simp] theorem State.setLine_supply (v : Line) : (s.setLine v).supply = s.supply := rfl
@[simp] theorem State.setLine_drive (v : Line) : (s.setLine v).drive = s.drive := rfl
@[simp] theorem State.setLine_pos (v : Line) : (s.setLine v).pos = s.pos := rfl
@[simp] theorem State.setLine_pins (v : Line) : (s.setLine v).pins = s.pins := rfl
@[simp] theorem State.setLine_pinFeed (v : Line) : (s.setLine v).pinFeed = s.pinFeed := rfl
@[simp] theorem State.setLine_lineFeed (v : Line) : (s.setLine v).lineFeed = s.lineFeed := rfl
@[simp] theorem State.setLine_occasion (v : Line) : (s.setLine v).occasion = s.occasion := rfl
@[simp] theorem State.setLine_freeIx (v : Line) : (s.setLine v).freeIx = s.freeIx := rfl
@[simp] theorem State.setLine_pending (v : Line) : (s.setLine v).pending = s.pending := rfl
@[simp] theorem State.setLine_same : s.setLine s.line = s := rfl

@[simp] theorem State.setPeers_power (v : List PeerRecord) : (s.setPeers v).power = s.power := rfl
@[simp] theorem State.setPeers_nt (v : List PeerRecord) : (s.setPeers v).nt = s.nt := rfl
@[simp] theorem State.setPeers_served (v : List PeerRecord) : (s.setPeers v).served = s.served := rfl
@[simp] theorem State.setPeers_listen (v : List PeerRecord) : (s.setPeers v).listen = s.listen := rfl
@[simp] theorem State.setPeers_safe (v : List PeerRecord) : (s.setPeers v).safe = s.safe := rfl
@[simp] theorem State.setPeers_cfg (v : List PeerRecord) : (s.setPeers v).cfg = s.cfg := rfl
@[simp] theorem State.setPeers_stored (v : List PeerRecord) : (s.setPeers v).stored = s.stored := rfl
@[simp] theorem State.setPeers_store (v : List PeerRecord) : (s.setPeers v).store = s.store := rfl
@[simp] theorem State.setPeers_retained (v : List PeerRecord) : (s.setPeers v).retained = s.retained := rfl
@[simp] theorem State.setPeers_sensor (v : List PeerRecord) : (s.setPeers v).sensor = s.sensor := rfl
@[simp] theorem State.setPeers_line (v : List PeerRecord) : (s.setPeers v).line = s.line := rfl
@[simp] theorem State.setPeers_peers (v : List PeerRecord) : (s.setPeers v).peers = v := rfl
@[simp] theorem State.setPeers_weather (v : List PeerRecord) : (s.setPeers v).weather = s.weather := rfl
@[simp] theorem State.setPeers_levels (v : List PeerRecord) : (s.setPeers v).levels = s.levels := rfl
@[simp] theorem State.setPeers_supply (v : List PeerRecord) : (s.setPeers v).supply = s.supply := rfl
@[simp] theorem State.setPeers_drive (v : List PeerRecord) : (s.setPeers v).drive = s.drive := rfl
@[simp] theorem State.setPeers_pos (v : List PeerRecord) : (s.setPeers v).pos = s.pos := rfl
@[simp] theorem State.setPeers_pins (v : List PeerRecord) : (s.setPeers v).pins = s.pins := rfl
@[simp] theorem State.setPeers_pinFeed (v : List PeerRecord) : (s.setPeers v).pinFeed = s.pinFeed := rfl
@[simp] theorem State.setPeers_lineFeed (v : List PeerRecord) : (s.setPeers v).lineFeed = s.lineFeed := rfl
@[simp] theorem State.setPeers_occasion (v : List PeerRecord) : (s.setPeers v).occasion = s.occasion := rfl
@[simp] theorem State.setPeers_freeIx (v : List PeerRecord) : (s.setPeers v).freeIx = s.freeIx := rfl
@[simp] theorem State.setPeers_pending (v : List PeerRecord) : (s.setPeers v).pending = s.pending := rfl
@[simp] theorem State.setPeers_same : s.setPeers s.peers = s := rfl

@[simp] theorem State.setWeather_power (v : Weather) : (s.setWeather v).power = s.power := rfl
@[simp] theorem State.setWeather_nt (v : Weather) : (s.setWeather v).nt = s.nt := rfl
@[simp] theorem State.setWeather_served (v : Weather) : (s.setWeather v).served = s.served := rfl
@[simp] theorem State.setWeather_listen (v : Weather) : (s.setWeather v).listen = s.listen := rfl
@[simp] theorem State.setWeather_safe (v : Weather) : (s.setWeather v).safe = s.safe := rfl
@[simp] theorem State.setWeather_cfg (v : Weather) : (s.setWeather v).cfg = s.cfg := rfl
@[simp] theorem State.setWeather_stored (v : Weather) : (s.setWeather v).stored = s.stored := rfl
@[simp] theorem State.setWeather_store (v : Weather) : (s.setWeather v).store = s.store := rfl
@[simp] theorem State.setWeather_retained (v : Weather) : (s.setWeather v).retained = s.retained := rfl
@[simp] theorem State.setWeather_sensor (v : Weather) : (s.setWeather v).sensor = s.sensor := rfl
@[simp] theorem State.setWeather_line (v : Weather) : (s.setWeather v).line = s.line := rfl
@[simp] theorem State.setWeather_peers (v : Weather) : (s.setWeather v).peers = s.peers := rfl
@[simp] theorem State.setWeather_weather (v : Weather) : (s.setWeather v).weather = v := rfl
@[simp] theorem State.setWeather_levels (v : Weather) : (s.setWeather v).levels = s.levels := rfl
@[simp] theorem State.setWeather_supply (v : Weather) : (s.setWeather v).supply = s.supply := rfl
@[simp] theorem State.setWeather_drive (v : Weather) : (s.setWeather v).drive = s.drive := rfl
@[simp] theorem State.setWeather_pos (v : Weather) : (s.setWeather v).pos = s.pos := rfl
@[simp] theorem State.setWeather_pins (v : Weather) : (s.setWeather v).pins = s.pins := rfl
@[simp] theorem State.setWeather_pinFeed (v : Weather) : (s.setWeather v).pinFeed = s.pinFeed := rfl
@[simp] theorem State.setWeather_lineFeed (v : Weather) : (s.setWeather v).lineFeed = s.lineFeed := rfl
@[simp] theorem State.setWeather_occasion (v : Weather) : (s.setWeather v).occasion = s.occasion := rfl
@[simp] theorem State.setWeather_freeIx (v : Weather) : (s.setWeather v).freeIx = s.freeIx := rfl
@[simp] theorem State.setWeather_pending (v : Weather) : (s.setWeather v).pending = s.pending := rfl
@[simp] theorem State.setWeather_same : s.setWeather s.weather = s := rfl

@[simp] theorem State.setLevels_power (v : Levels) : (s.setLevels v).power = s.power := rfl
@[simp] theorem State.setLevels_nt (v : Levels) : (s.setLevels v).nt = s.nt := rfl
@[simp] theorem State.setLevels_served (v : Levels) : (s.setLevels v).served = s.served := rfl
@[simp] theorem State.setLevels_listen (v : Levels) : (s.setLevels v).listen = s.listen := rfl
@[simp] theorem State.setLevels_safe (v : Levels) : (s.setLevels v).safe = s.safe := rfl
@[simp] theorem State.setLevels_cfg (v : Levels) : (s.setLevels v).cfg = s.cfg := rfl
@[simp] theorem State.setLevels_stored (v : Levels) : (s.setLevels v).stored = s.stored := rfl
@[simp] theorem State.setLevels_store (v : Levels) : (s.setLevels v).store = s.store := rfl
@[simp] theorem State.setLevels_retained (v : Levels) : (s.setLevels v).retained = s.retained := rfl
@[simp] theorem State.setLevels_sensor (v : Levels) : (s.setLevels v).sensor = s.sensor := rfl
@[simp] theorem State.setLevels_line (v : Levels) : (s.setLevels v).line = s.line := rfl
@[simp] theorem State.setLevels_peers (v : Levels) : (s.setLevels v).peers = s.peers := rfl
@[simp] theorem State.setLevels_weather (v : Levels) : (s.setLevels v).weather = s.weather := rfl
@[simp] theorem State.setLevels_levels (v : Levels) : (s.setLevels v).levels = v := rfl
@[simp] theorem State.setLevels_supply (v : Levels) : (s.setLevels v).supply = s.supply := rfl
@[simp] theorem State.setLevels_drive (v : Levels) : (s.setLevels v).drive = s.drive := rfl
@[simp] theorem State.setLevels_pos (v : Levels) : (s.setLevels v).pos = s.pos := rfl
@[simp] theorem State.setLevels_pins (v : Levels) : (s.setLevels v).pins = s.pins := rfl
@[simp] theorem State.setLevels_pinFeed (v : Levels) : (s.setLevels v).pinFeed = s.pinFeed := rfl
@[simp] theorem State.setLevels_lineFeed (v : Levels) : (s.setLevels v).lineFeed = s.lineFeed := rfl
@[simp] theorem State.setLevels_occasion (v : Levels) : (s.setLevels v).occasion = s.occasion := rfl
@[simp] theorem State.setLevels_freeIx (v : Levels) : (s.setLevels v).freeIx = s.freeIx := rfl
@[simp] theorem State.setLevels_pending (v : Levels) : (s.setLevels v).pending = s.pending := rfl
@[simp] theorem State.setLevels_same : s.setLevels s.levels = s := rfl

@[simp] theorem State.setSupply_power (v : Supply) : (s.setSupply v).power = s.power := rfl
@[simp] theorem State.setSupply_nt (v : Supply) : (s.setSupply v).nt = s.nt := rfl
@[simp] theorem State.setSupply_served (v : Supply) : (s.setSupply v).served = s.served := rfl
@[simp] theorem State.setSupply_listen (v : Supply) : (s.setSupply v).listen = s.listen := rfl
@[simp] theorem State.setSupply_safe (v : Supply) : (s.setSupply v).safe = s.safe := rfl
@[simp] theorem State.setSupply_cfg (v : Supply) : (s.setSupply v).cfg = s.cfg := rfl
@[simp] theorem State.setSupply_stored (v : Supply) : (s.setSupply v).stored = s.stored := rfl
@[simp] theorem State.setSupply_store (v : Supply) : (s.setSupply v).store = s.store := rfl
@[simp] theorem State.setSupply_retained (v : Supply) : (s.setSupply v).retained = s.retained := rfl
@[simp] theorem State.setSupply_sensor (v : Supply) : (s.setSupply v).sensor = s.sensor := rfl
@[simp] theorem State.setSupply_line (v : Supply) : (s.setSupply v).line = s.line := rfl
@[simp] theorem State.setSupply_peers (v : Supply) : (s.setSupply v).peers = s.peers := rfl
@[simp] theorem State.setSupply_weather (v : Supply) : (s.setSupply v).weather = s.weather := rfl
@[simp] theorem State.setSupply_levels (v : Supply) : (s.setSupply v).levels = s.levels := rfl
@[simp] theorem State.setSupply_supply (v : Supply) : (s.setSupply v).supply = v := rfl
@[simp] theorem State.setSupply_drive (v : Supply) : (s.setSupply v).drive = s.drive := rfl
@[simp] theorem State.setSupply_pos (v : Supply) : (s.setSupply v).pos = s.pos := rfl
@[simp] theorem State.setSupply_pins (v : Supply) : (s.setSupply v).pins = s.pins := rfl
@[simp] theorem State.setSupply_pinFeed (v : Supply) : (s.setSupply v).pinFeed = s.pinFeed := rfl
@[simp] theorem State.setSupply_lineFeed (v : Supply) : (s.setSupply v).lineFeed = s.lineFeed := rfl
@[simp] theorem State.setSupply_occasion (v : Supply) : (s.setSupply v).occasion = s.occasion := rfl
@[simp] theorem State.setSupply_freeIx (v : Supply) : (s.setSupply v).freeIx = s.freeIx := rfl
@[simp] theorem State.setSupply_pending (v : Supply) : (s.setSupply v).pending = s.pending := rfl
@[simp] theorem State.setSupply_same : s.setSupply s.supply = s := rfl

@[simp] theorem State.setDrive_power (v : Drive) : (s.setDrive v).power = s.power := rfl
@[simp] theorem State.setDrive_nt (v : Drive) : (s.setDrive v).nt = s.nt := rfl
@[simp] theorem State.setDrive_served (v : Drive) : (s.setDrive v).served = s.served := rfl
@[simp] theorem State.setDrive_listen (v : Drive) : (s.setDrive v).listen = s.listen := rfl
@[simp] theorem State.setDrive_safe (v : Drive) : (s.setDrive v).safe = s.safe := rfl
@[simp] theorem State.setDrive_cfg (v : Drive) : (s.setDrive v).cfg = s.cfg := rfl
@[simp] theorem State.setDrive_stored (v : Drive) : (s.setDrive v).stored = s.stored := rfl
@[simp] theorem State.setDrive_store (v : Drive) : (s.setDrive v).store = s.store := rfl
@[simp] theorem State.setDrive_retained (v : Drive) : (s.setDrive v).retained = s.retained := rfl
@[simp] theorem State.setDrive_sensor (v : Drive) : (s.setDrive v).sensor = s.sensor := rfl
@[simp] theorem State.setDrive_line (v : Drive) : (s.setDrive v).line = s.line := rfl
@[simp] theorem State.setDrive_peers (v : Drive) : (s.setDrive v).peers = s.peers := rfl
@[simp] theorem State.setDrive_weather (v : Drive) : (s.setDrive v).weather = s.weather := rfl
@[simp] theorem State.setDrive_levels (v : Drive) : (s.setDrive v).levels = s.levels := rfl
@[simp] theorem State.setDrive_supply (v : Drive) : (s.setDrive v).supply = s.supply := rfl
@[simp] theorem State.setDrive_drive (v : Drive) : (s.setDrive v).drive = v := rfl
@[simp] theorem State.setDrive_pos (v : Drive) : (s.setDrive v).pos = s.pos := rfl
@[simp] theorem State.setDrive_pins (v : Drive) : (s.setDrive v).pins = s.pins := rfl
@[simp] theorem State.setDrive_pinFeed (v : Drive) : (s.setDrive v).pinFeed = s.pinFeed := rfl
@[simp] theorem State.setDrive_lineFeed (v : Drive) : (s.setDrive v).lineFeed = s.lineFeed := rfl
@[simp] theorem State.setDrive_occasion (v : Drive) : (s.setDrive v).occasion = s.occasion := rfl
@[simp] theorem State.setDrive_freeIx (v : Drive) : (s.setDrive v).freeIx = s.freeIx := rfl
@[simp] theorem State.setDrive_pending (v : Drive) : (s.setDrive v).pending = s.pending := rfl
@[simp] theorem State.setDrive_same : s.setDrive s.drive = s := rfl

@[simp] theorem State.setPos_power (v : Tracker) : (s.setPos v).power = s.power := rfl
@[simp] theorem State.setPos_nt (v : Tracker) : (s.setPos v).nt = s.nt := rfl
@[simp] theorem State.setPos_served (v : Tracker) : (s.setPos v).served = s.served := rfl
@[simp] theorem State.setPos_listen (v : Tracker) : (s.setPos v).listen = s.listen := rfl
@[simp] theorem State.setPos_safe (v : Tracker) : (s.setPos v).safe = s.safe := rfl
@[simp] theorem State.setPos_cfg (v : Tracker) : (s.setPos v).cfg = s.cfg := rfl
@[simp] theorem State.setPos_stored (v : Tracker) : (s.setPos v).stored = s.stored := rfl
@[simp] theorem State.setPos_store (v : Tracker) : (s.setPos v).store = s.store := rfl
@[simp] theorem State.setPos_retained (v : Tracker) : (s.setPos v).retained = s.retained := rfl
@[simp] theorem State.setPos_sensor (v : Tracker) : (s.setPos v).sensor = s.sensor := rfl
@[simp] theorem State.setPos_line (v : Tracker) : (s.setPos v).line = s.line := rfl
@[simp] theorem State.setPos_peers (v : Tracker) : (s.setPos v).peers = s.peers := rfl
@[simp] theorem State.setPos_weather (v : Tracker) : (s.setPos v).weather = s.weather := rfl
@[simp] theorem State.setPos_levels (v : Tracker) : (s.setPos v).levels = s.levels := rfl
@[simp] theorem State.setPos_supply (v : Tracker) : (s.setPos v).supply = s.supply := rfl
@[simp] theorem State.setPos_drive (v : Tracker) : (s.setPos v).drive = s.drive := rfl
@[simp] theorem State.setPos_pos (v : Tracker) : (s.setPos v).pos = v := rfl
@[simp] theorem State.setPos_pins (v : Tracker) : (s.setPos v).pins = s.pins := rfl
@[simp] theorem State.setPos_pinFeed (v : Tracker) : (s.setPos v).pinFeed = s.pinFeed := rfl
@[simp] theorem State.setPos_lineFeed (v : Tracker) : (s.setPos v).lineFeed = s.lineFeed := rfl
@[simp] theorem State.setPos_occasion (v : Tracker) : (s.setPos v).occasion = s.occasion := rfl
@[simp] theorem State.setPos_freeIx (v : Tracker) : (s.setPos v).freeIx = s.freeIx := rfl
@[simp] theorem State.setPos_pending (v : Tracker) : (s.setPos v).pending = s.pending := rfl
@[simp] theorem State.setPos_same : s.setPos s.pos = s := rfl

@[simp] theorem State.setPins_power (v : Pins) : (s.setPins v).power = s.power := rfl
@[simp] theorem State.setPins_nt (v : Pins) : (s.setPins v).nt = s.nt := rfl
@[simp] theorem State.setPins_served (v : Pins) : (s.setPins v).served = s.served := rfl
@[simp] theorem State.setPins_listen (v : Pins) : (s.setPins v).listen = s.listen := rfl
@[simp] theorem State.setPins_safe (v : Pins) : (s.setPins v).safe = s.safe := rfl
@[simp] theorem State.setPins_cfg (v : Pins) : (s.setPins v).cfg = s.cfg := rfl
@[simp] theorem State.setPins_stored (v : Pins) : (s.setPins v).stored = s.stored := rfl
@[simp] theorem State.setPins_store (v : Pins) : (s.setPins v).store = s.store := rfl
@[simp] theorem State.setPins_retained (v : Pins) : (s.setPins v).retained = s.retained := rfl
@[simp] theorem State.setPins_sensor (v : Pins) : (s.setPins v).sensor = s.sensor := rfl
@[simp] theorem State.setPins_line (v : Pins) : (s.setPins v).line = s.line := rfl
@[simp] theorem State.setPins_peers (v : Pins) : (s.setPins v).peers = s.peers := rfl
@[simp] theorem State.setPins_weather (v : Pins) : (s.setPins v).weather = s.weather := rfl
@[simp] theorem State.setPins_levels (v : Pins) : (s.setPins v).levels = s.levels := rfl
@[simp] theorem State.setPins_supply (v : Pins) : (s.setPins v).supply = s.supply := rfl
@[simp] theorem State.setPins_drive (v : Pins) : (s.setPins v).drive = s.drive := rfl
@[simp] theorem State.setPins_pos (v : Pins) : (s.setPins v).pos = s.pos := rfl
@[simp] theorem State.setPins_pins (v : Pins) : (s.setPins v).pins = v := rfl
@[simp] theorem State.setPins_pinFeed (v : Pins) : (s.setPins v).pinFeed = s.pinFeed := rfl
@[simp] theorem State.setPins_lineFeed (v : Pins) : (s.setPins v).lineFeed = s.lineFeed := rfl
@[simp] theorem State.setPins_occasion (v : Pins) : (s.setPins v).occasion = s.occasion := rfl
@[simp] theorem State.setPins_freeIx (v : Pins) : (s.setPins v).freeIx = s.freeIx := rfl
@[simp] theorem State.setPins_pending (v : Pins) : (s.setPins v).pending = s.pending := rfl
@[simp] theorem State.setPins_same : s.setPins s.pins = s := rfl

@[simp] theorem State.setPinFeed_power (v : List Pins) : (s.setPinFeed v).power = s.power := rfl
@[simp] theorem State.setPinFeed_nt (v : List Pins) : (s.setPinFeed v).nt = s.nt := rfl
@[simp] theorem State.setPinFeed_served (v : List Pins) : (s.setPinFeed v).served = s.served := rfl
@[simp] theorem State.setPinFeed_listen (v : List Pins) : (s.setPinFeed v).listen = s.listen := rfl
@[simp] theorem State.setPinFeed_safe (v : List Pins) : (s.setPinFeed v).safe = s.safe := rfl
@[simp] theorem State.setPinFeed_cfg (v : List Pins) : (s.setPinFeed v).cfg = s.cfg := rfl
@[simp] theorem State.setPinFeed_stored (v : List Pins) : (s.setPinFeed v).stored = s.stored := rfl
@[simp] theorem State.setPinFeed_store (v : List Pins) : (s.setPinFeed v).store = s.store := rfl
@[simp] theorem State.setPinFeed_retained (v : List Pins) : (s.setPinFeed v).retained = s.retained := rfl
@[simp] theorem State.setPinFeed_sensor (v : List Pins) : (s.setPinFeed v).sensor = s.sensor := rfl
@[simp] theorem State.setPinFeed_line (v : List Pins) : (s.setPinFeed v).line = s.line := rfl
@[simp] theorem State.setPinFeed_peers (v : List Pins) : (s.setPinFeed v).peers = s.peers := rfl
@[simp] theorem State.setPinFeed_weather (v : List Pins) : (s.setPinFeed v).weather = s.weather := rfl
@[simp] theorem State.setPinFeed_levels (v : List Pins) : (s.setPinFeed v).levels = s.levels := rfl
@[simp] theorem State.setPinFeed_supply (v : List Pins) : (s.setPinFeed v).supply = s.supply := rfl
@[simp] theorem State.setPinFeed_drive (v : List Pins) : (s.setPinFeed v).drive = s.drive := rfl
@[simp] theorem State.setPinFeed_pos (v : List Pins) : (s.setPinFeed v).pos = s.pos := rfl
@[simp] theorem State.setPinFeed_pins (v : List Pins) : (s.setPinFeed v).pins = s.pins := rfl
@[simp] theorem State.setPinFeed_pinFeed (v : List Pins) : (s.setPinFeed v).pinFeed = v := rfl
@[simp] theorem State.setPinFeed_lineFeed (v : List Pins) : (s.setPinFeed v).lineFeed = s.lineFeed := rfl
@[simp] theorem State.setPinFeed_occasion (v : List Pins) : (s.setPinFeed v).occasion = s.occasion := rfl
@[simp] theorem State.setPinFeed_freeIx (v : List Pins) : (s.setPinFeed v).freeIx = s.freeIx := rfl
@[simp] theorem State.setPinFeed_pending (v : List Pins) : (s.setPinFeed v).pending = s.pending := rfl
@[simp] theorem State.setPinFeed_same : s.setPinFeed s.pinFeed = s := rfl

@[simp] theorem State.setLineFeed_power (v : LineFeed) : (s.setLineFeed v).power = s.power := rfl
@[simp] theorem State.setLineFeed_nt (v : LineFeed) : (s.setLineFeed v).nt = s.nt := rfl
@[simp] theorem State.setLineFeed_served (v : LineFeed) : (s.setLineFeed v).served = s.served := rfl
@[simp] theorem State.setLineFeed_listen (v : LineFeed) : (s.setLineFeed v).listen = s.listen := rfl
@[simp] theorem State.setLineFeed_safe (v : LineFeed) : (s.setLineFeed v).safe = s.safe := rfl
@[simp] theorem State.setLineFeed_cfg (v : LineFeed) : (s.setLineFeed v).cfg = s.cfg := rfl
@[simp] theorem State.setLineFeed_stored (v : LineFeed) : (s.setLineFeed v).stored = s.stored := rfl
@[simp] theorem State.setLineFeed_store (v : LineFeed) : (s.setLineFeed v).store = s.store := rfl
@[simp] theorem State.setLineFeed_retained (v : LineFeed) : (s.setLineFeed v).retained = s.retained := rfl
@[simp] theorem State.setLineFeed_sensor (v : LineFeed) : (s.setLineFeed v).sensor = s.sensor := rfl
@[simp] theorem State.setLineFeed_line (v : LineFeed) : (s.setLineFeed v).line = s.line := rfl
@[simp] theorem State.setLineFeed_peers (v : LineFeed) : (s.setLineFeed v).peers = s.peers := rfl
@[simp] theorem State.setLineFeed_weather (v : LineFeed) : (s.setLineFeed v).weather = s.weather := rfl
@[simp] theorem State.setLineFeed_levels (v : LineFeed) : (s.setLineFeed v).levels = s.levels := rfl
@[simp] theorem State.setLineFeed_supply (v : LineFeed) : (s.setLineFeed v).supply = s.supply := rfl
@[simp] theorem State.setLineFeed_drive (v : LineFeed) : (s.setLineFeed v).drive = s.drive := rfl
@[simp] theorem State.setLineFeed_pos (v : LineFeed) : (s.setLineFeed v).pos = s.pos := rfl
@[simp] theorem State.setLineFeed_pins (v : LineFeed) : (s.setLineFeed v).pins = s.pins := rfl
@[simp] theorem State.setLineFeed_pinFeed (v : LineFeed) : (s.setLineFeed v).pinFeed = s.pinFeed := rfl
@[simp] theorem State.setLineFeed_lineFeed (v : LineFeed) : (s.setLineFeed v).lineFeed = v := rfl
@[simp] theorem State.setLineFeed_occasion (v : LineFeed) : (s.setLineFeed v).occasion = s.occasion := rfl
@[simp] theorem State.setLineFeed_freeIx (v : LineFeed) : (s.setLineFeed v).freeIx = s.freeIx := rfl
@[simp] theorem State.setLineFeed_pending (v : LineFeed) : (s.setLineFeed v).pending = s.pending := rfl
@[simp] theorem State.setLineFeed_same : s.setLineFeed s.lineFeed = s := rfl

@[simp] theorem State.setOccasion_power (v : Bool) : (s.setOccasion v).power = s.power := rfl
@[simp] theorem State.setOccasion_nt (v : Bool) : (s.setOccasion v).nt = s.nt := rfl
@[simp] theorem State.setOccasion_served (v : Bool) : (s.setOccasion v).served = s.served := rfl
@[simp] theorem State.setOccasion_listen (v : Bool) : (s.setOccasion v).listen = s.listen := rfl
@[simp] theorem State.setOccasion_safe (v : Bool) : (s.setOccasion v).safe = s.safe := rfl
@[simp] theorem State.setOccasion_cfg (v : Bool) : (s.setOccasion v).cfg = s.cfg := rfl
@[simp] theorem State.setOccasion_stored (v : Bool) : (s.setOccasion v).stored = s.stored := rfl
@[simp] theorem State.setOccasion_store (v : Bool) : (s.setOccasion v).store = s.store := rfl
@[simp] theorem State.setOccasion_retained (v : Bool) : (s.setOccasion v).retained = s.retained := rfl
@[simp] theorem State.setOccasion_sensor (v : Bool) : (s.setOccasion v).sensor = s.sensor := rfl
@[simp] theorem State.setOccasion_line (v : Bool) : (s.setOccasion v).line = s.line := rfl
@[simp] theorem State.setOccasion_peers (v : Bool) : (s.setOccasion v).peers = s.peers := rfl
@[simp] theorem State.setOccasion_weather (v : Bool) : (s.setOccasion v).weather = s.weather := rfl
@[simp] theorem State.setOccasion_levels (v : Bool) : (s.setOccasion v).levels = s.levels := rfl
@[simp] theorem State.setOccasion_supply (v : Bool) : (s.setOccasion v).supply = s.supply := rfl
@[simp] theorem State.setOccasion_drive (v : Bool) : (s.setOccasion v).drive = s.drive := rfl
@[simp] theorem State.setOccasion_pos (v : Bool) : (s.setOccasion v).pos = s.pos := rfl
@[simp] theorem State.setOccasion_pins (v : Bool) : (s.setOccasion v).pins = s.pins := rfl
@[simp] theorem State.setOccasion_pinFeed (v : Bool) : (s.setOccasion v).pinFeed = s.pinFeed := rfl
@[simp] theorem State.setOccasion_lineFeed (v : Bool) : (s.setOccasion v).lineFeed = s.lineFeed := rfl
@[simp] theorem State.setOccasion_occasion (v : Bool) : (s.setOccasion v).occasion = v := rfl
@[simp] theorem State.setOccasion_freeIx (v : Bool) : (s.setOccasion v).freeIx = s.freeIx := rfl
@[simp] theorem State.setOccasion_pending (v : Bool) : (s.setOccasion v).pending = s.pending := rfl
@[simp] theorem State.setOccasion_same : s.setOccasion s.occasion = s := rfl

@[simp] theorem State.setFreeIx_power (v : Nat) : (s.setFreeIx v).power = s.power := rfl
@[simp] theorem State.setFreeIx_nt (v : Nat) : (s.setFreeIx v).nt = s.nt := rfl
@[simp] theorem State.setFreeIx_served (v : Nat) : (s.setFreeIx v).served = s.served := rfl
@[simp] theorem State.setFreeIx_listen (v : Nat) : (s.setFreeIx v).listen = s.listen := rfl
@[simp] theorem State.setFreeIx_safe (v : Nat) : (s.setFreeIx v).safe = s.safe := rfl
@[simp] theorem State.setFreeIx_cfg (v : Nat) : (s.setFreeIx v).cfg = s.cfg := rfl
@[simp] theorem State.setFreeIx_stored (v : Nat) : (s.setFreeIx v).stored = s.stored := rfl
@[simp] theorem State.setFreeIx_store (v : Nat) : (s.setFreeIx v).store = s.store := rfl
@[simp] theorem State.setFreeIx_retained (v : Nat) : (s.setFreeIx v).retained = s.retained := rfl
@[simp] theorem State.setFreeIx_sensor (v : Nat) : (s.setFreeIx v).sensor = s.sensor := rfl
@[simp] theorem State.setFreeIx_line (v : Nat) : (s.setFreeIx v).line = s.line := rfl
@[simp] theorem State.setFreeIx_peers (v : Nat) : (s.setFreeIx v).peers = s.peers := rfl
@[simp] theorem State.setFreeIx_weather (v : Nat) : (s.setFreeIx v).weather = s.weather := rfl
@[simp] theorem State.setFreeIx_levels (v : Nat) : (s.setFreeIx v).levels = s.levels := rfl
@[simp] theorem State.setFreeIx_supply (v : Nat) : (s.setFreeIx v).supply = s.supply := rfl
@[simp] theorem State.setFreeIx_drive (v : Nat) : (s.setFreeIx v).drive = s.drive := rfl
@[simp] theorem State.setFreeIx_pos (v : Nat) : (s.setFreeIx v).pos = s.pos := rfl
@[simp] theorem State.setFreeIx_pins (v : Nat) : (s.setFreeIx v).pins = s.pins := rfl
@[simp] theorem State.setFreeIx_pinFeed (v : Nat) : (s.setFreeIx v).pinFeed = s.pinFeed := rfl
@[simp] theorem State.setFreeIx_lineFeed (v : Nat) : (s.setFreeIx v).lineFeed = s.lineFeed := rfl
@[simp] theorem State.setFreeIx_occasion (v : Nat) : (s.setFreeIx v).occasion = s.occasion := rfl
@[simp] theorem State.setFreeIx_freeIx (v : Nat) : (s.setFreeIx v).freeIx = v := rfl
@[simp] theorem State.setFreeIx_pending (v : Nat) : (s.setFreeIx v).pending = s.pending := rfl
@[simp] theorem State.setFreeIx_same : s.setFreeIx s.freeIx = s := rfl

@[simp] theorem State.setPending_power (v : List Instr) : (s.setPending v).power = s.power := rfl
@[simp] theorem State.setPending_nt (v : List Instr) : (s.setPending v).nt = s.nt := rfl
@[simp] theorem State.setPending_served (v : List Instr) : (s.setPending v).served = s.served := rfl
@[simp] theorem State.setPending_listen (v : List Instr) : (s.setPending v).listen = s.listen := rfl
@[simp] theorem State.setPending_safe (v : List Instr) : (s.setPending v).safe = s.safe := rfl
@[simp] theorem State.setPending_cfg (v : List Instr) : (s.setPending v).cfg = s.cfg := rfl
@[simp] theorem State.setPending_stored (v : List Instr) : (s.setPending v).stored = s.stored := rfl
@[simp] theorem State.setPending_store (v : List Instr) : (s.setPending v).store = s.store := rfl
@[simp] theorem State.setPending_retained (v : List Instr) : (s.setPending v).retained = s.retained := rfl
@[simp] theorem State.setPending_sensor (v : List Instr) : (s.setPending v).sensor = s.sensor := rfl
@[simp] theorem State.setPending_line (v : List Instr) : (s.setPending v).line = s.line := rfl
@[simp] theorem State.setPending_peers (v : List Instr) : (s.setPending v).peers = s.peers := rfl
@[simp] theorem State.setPending_weather (v : List Instr) : (s.setPending v).weather = s.weather := rfl
@[simp] theorem State.setPending_levels (v : List Instr) : (s.setPending v).levels = s.levels := rfl
@[simp] theorem State.setPending_supply (v : List Instr) : (s.setPending v).supply = s.supply := rfl
@[simp] theorem State.setPending_drive (v : List Instr) : (s.setPending v).drive = s.drive := rfl
@[simp] theorem State.setPending_pos (v : List Instr) : (s.setPending v).pos = s.pos := rfl
@[simp] theorem State.setPending_pins (v : List Instr) : (s.setPending v).pins = s.pins := rfl
@[simp] theorem State.setPending_pinFeed (v : List Instr) : (s.setPending v).pinFeed = s.pinFeed := rfl
@[simp] theorem State.setPending_lineFeed (v : List Instr) : (s.setPending v).lineFeed = s.lineFeed := rfl
@[simp] theorem State.setPending_occasion (v : List Instr) : (s.setPending v).occasion = s.occasion := rfl
@[simp] theorem State.setPending_freeIx (v : List Instr) : (s.setPending v).freeIx = s.freeIx := rfl
@[simp] theorem State.setPending_pending (v : List Instr) : (s.setPending v).pending = v := rfl
@[simp] theorem State.setPending_same : s.setPending s.pending = s := rfl

end Sys2Proof.Machine
end

