-- ==== Sys2Proof/Laws/Moves.lean ====
section
/-! SUPPORT. What the shared operations of line, supply, drive and levels can change: everything else is as it was, and
the laws of Safety.lean are kept. One lemma per operation; a later proof cites it and does not unfold the operation. -/

namespace Sys2Proof.Machine

/-- What an appointment and everything below it leaves as it was, and the laws it keeps. -/
structure Turns (s t : State) : Prop where
  power : t.power = s.power
  nt : t.nt = s.nt
  served : t.served = s.served
  listen : t.listen = s.listen
  safe : t.safe = s.safe
  cfg : t.cfg = s.cfg
  stored : t.stored = s.stored
  store : t.store = s.store
  retained : t.retained = s.retained
  sensor : t.sensor = s.sensor
  peers : t.peers = s.peers
  weather : t.weather = s.weather
  pins : t.pins = s.pins
  pinFeed : t.pinFeed = s.pinFeed
  lineFeed : t.lineFeed = s.lineFeed
  freeIx : t.freeIx = s.freeIx
  pending : t.pending = s.pending
  demandTarget : t.levels.demandTarget = s.levels.demandTarget
  expiryDl : t.levels.expiryDl = s.levels.expiryDl
  serviceHold : t.levels.serviceHold = s.levels.serviceHold
  assembly : t.line.assembly = s.line.assembly
  samples : t.line.samples = s.line.samples
  driven : t.line.driven = s.line.driven
  intentSent : t.line.intentSent = s.line.intentSent
  clashes : t.line.clashes = s.line.clashes
  listenOnly : t.line.listenOnly = s.line.listenOnly
  isolated : t.line.isolated = s.line.isolated
  lastHeard : t.line.lastHeard = s.line.lastHeard
  isolationDl : t.line.isolationDl = s.line.isolationDl
  hall : t.pos.hall = s.pos.hall
  count : t.pos.count = s.pos.count
  windowStart : t.pos.windowStart = s.pos.windowStart
  windowBegin : t.pos.windowBegin = s.pos.windowBegin
  velocity : t.pos.velocity = s.pos.velocity
  refuseUntil : t.drive.refuseUntil = s.drive.refuseUntil
  controlledStop : t.drive.controlledStop = s.drive.controlledStop
  queue : QueueLawful s → QueueLawful t
  entries : EntriesLawful s → EntriesLawful t
  retry : RetryBounded s → RetryBounded t
  timed : DriveTimed s → DriveTimed t

/-- What every operation below an appointment leaves as it was besides: the levels' states and RAIN's target. -/
structure Moves (s t : State) : Prop extends Turns s t where
  storm : t.levels.storm = s.levels.storm
  rain : t.levels.rain = s.levels.rain
  demand : t.levels.demand = s.levels.demand
  rainTarget : t.levels.rainTarget = s.levels.rainTarget

theorem Turns.refl (s : State) : Turns s s := by
  constructor <;> first | rfl | exact id

theorem Turns.trans {s t u : State} (h : Turns s t) (k : Turns t u) : Turns s u :=
  ⟨k.power.trans h.power, k.nt.trans h.nt, k.served.trans h.served, k.listen.trans h.listen, k.safe.trans h.safe, k.cfg.trans h.cfg, k.stored.trans h.stored, k.store.trans h.store, k.retained.trans h.retained, k.sensor.trans h.sensor, k.peers.trans h.peers, k.weather.trans h.weather, k.pins.trans h.pins, k.pinFeed.trans h.pinFeed, k.lineFeed.trans h.lineFeed, k.freeIx.trans h.freeIx, k.pending.trans h.pending, k.demandTarget.trans h.demandTarget, k.expiryDl.trans h.expiryDl, k.serviceHold.trans h.serviceHold, k.assembly.trans h.assembly, k.samples.trans h.samples, k.driven.trans h.driven, k.intentSent.trans h.intentSent, k.clashes.trans h.clashes, k.listenOnly.trans h.listenOnly, k.isolated.trans h.isolated, k.lastHeard.trans h.lastHeard, k.isolationDl.trans h.isolationDl, k.hall.trans h.hall, k.count.trans h.count, k.windowStart.trans h.windowStart, k.windowBegin.trans h.windowBegin, k.velocity.trans h.velocity, k.refuseUntil.trans h.refuseUntil, k.controlledStop.trans h.controlledStop, k.queue ∘ h.queue, k.entries ∘ h.entries, k.retry ∘ h.retry, k.timed ∘ h.timed⟩

theorem Moves.refl (s : State) : Moves s s := ⟨Turns.refl s, rfl, rfl, rfl, rfl⟩

theorem Moves.trans {s t u : State} (h : Moves s t) (k : Moves t u) : Moves s u :=
  ⟨h.toTurns.trans k.toTurns, k.storm.trans h.storm, k.rain.trans h.rain, k.demand.trans h.demand,
    k.rainTarget.trans h.rainTarget⟩

/-! ### Updates of one block -/

theorem Moves.setOccasion (s : State) (v : Bool) : Moves s (s.setOccasion v) := { Moves.refl s with }

theorem Moves.setSupply (s : State) (v : Supply) (h : EntriesLawful s → EntriesLawful (s.setSupply v)) :
    Moves s (s.setSupply v) := { Moves.refl s with entries := h }

theorem Moves.setDrive (s : State) (d : Drive) (hr : d.refuseUntil = s.drive.refuseUntil)
    (hc : d.controlledStop = s.drive.controlledStop) (hn : RetryBounded s → d.retry ≤ s.cfg.retryLimit + 1)
    (ht : DriveTimed s → DriveTimed (s.setDrive d)) : Moves s (s.setDrive d) :=
  { Moves.refl s with refuseUntil := hr, controlledStop := hc, retry := hn, timed := ht }

end Sys2Proof.Machine
end

