-- ==== Sys2Proof/Laws/Queue.lean ====
section
/-! SUPPORT. The transmit queue: the order is a rearrangement, and every placement keeps the law of R31. -/

namespace Sys2Proof.Machine

theorem insertQueued_perm (nt : Time) (x : Queued) (q : List Queued) : (insertQueued nt x q).Perm (x :: q) := by
  induction q with
  | nil => exact List.Perm.refl _
  | cons y ys ih =>
    simp only [insertQueued]
    split
    · exact List.Perm.refl _
    · exact (ih.cons y).trans (List.Perm.swap x y ys)

theorem reorder_perm (nt : Time) (q : List Queued) : (reorder nt q).Perm q := by
  have gen : ∀ (q acc : List Queued), (q.foldl (fun acc x => insertQueued nt x acc) acc).Perm (q ++ acc) := by
    intro q
    induction q with
    | nil => intro acc; exact List.Perm.refl _
    | cons x xs ih =>
      intro acc
      refine (ih _).trans (((insertQueued_perm nt x acc).append_left xs).trans ?_)
      exact List.perm_middle
  simpa [reorder] using gen q []

/-- The kinds of a queue: at most one telegram of each, never INTENT and WITHDRAW together. -/
def kindsLawful (q : List Queued) : Prop :=
  (q.map Queued.kind).Nodup ∧ (Kind.intent ∈ q.map Queued.kind → Kind.withdraw ∉ q.map Queued.kind)

theorem holds_iff (l : Line) (k : Kind) : l.holds k = true ↔ k ∈ l.queue.map Queued.kind := by
  simp [Line.holds, List.any_eq_true, List.mem_map]

theorem queueLawful_iff (s : State) :
    QueueLawful s ↔ kindsLawful s.line.queue ∧ (s.line.listenOnly = true → s.line.queue = []) := by
  simp only [QueueLawful, kindsLawful, holds_iff, ← Bool.not_eq_true]
  tauto

theorem kindsLawful_perm {p q : List Queued} (h : p.Perm q) : kindsLawful p ↔ kindsLawful q := by
  have h' := h.map Queued.kind
  simp [kindsLawful, h'.nodup_iff, h'.mem_iff]

theorem kindsLawful_sublist {p q : List Queued} (h : (p.map Queued.kind).Sublist (q.map Queued.kind))
    (hq : kindsLawful q) : kindsLawful p :=
  ⟨hq.1.sublist h, fun hi hw => hq.2 (h.subset hi) (h.subset hw)⟩

theorem kindsLawful_filter (f : Queued → Bool) {q : List Queued} (hq : kindsLawful q) :
    kindsLawful (q.filter f) := kindsLawful_sublist ((List.filter_sublist).map _) hq

theorem kindsLawful_map (f : Queued → Queued) (hf : ∀ e, (f e).kind = e.kind) {q : List Queued} :
    kindsLawful (q.map f) ↔ kindsLawful q := by
  have : (q.map f).map Queued.kind = q.map Queued.kind := by simp [List.map_map, Function.comp_def, hf]
  simp [kindsLawful, this]

/-- A telegram joining or replacing keeps the law when an INTENT does not meet a WITHDRAW. -/
theorem put_kindsLawful (l : Line) (nt : Time) (k : Kind) (cls : Class) (p : List Byte)
    (h : kindsLawful l.queue) (hi : k = .intent → Kind.withdraw ∉ l.queue.map Queued.kind)
    (hw : k = .withdraw → Kind.intent ∉ l.queue.map Queued.kind) : kindsLawful (l.put nt k cls p).queue := by
  unfold Line.put
  split
  · rw [kindsLawful_perm (reorder_perm _ _), kindsLawful_map]
    · exact h
    · intro e; split <;> rfl
  · rename_i hk
    rw [holds_iff] at hk
    rw [kindsLawful_perm (reorder_perm _ _)]
    refine ⟨?_, ?_⟩
    · simp only [List.map_append, List.map_cons, List.map_nil]
      refine List.nodup_append.2 ⟨h.1, by simp, ?_⟩
      intro a ha b hb
      rw [List.mem_singleton] at hb
      subst hb
      intro hab
      exact hk (hab ▸ ha)
    · simp only [List.map_append, List.map_cons, List.map_nil, List.mem_append, List.mem_singleton]
      rintro (hm | hm) (hm' | hm')
      · exact h.2 hm hm'
      · exact hw hm'.symm hm
      · exact hi hm.symm hm'
      · rw [← hm] at hm'; cases hm'

theorem drop_queue_kind (l : Line) (k : Kind) : k ∉ (l.drop k).queue.map Queued.kind := by
  simp [Line.drop, List.mem_map]

theorem drop_kindsLawful (l : Line) (k : Kind) (h : kindsLawful l.queue) : kindsLawful (l.drop k).queue :=
  kindsLawful_filter _ h

/-- A WITHDRAW placed keeps the law (R33). -/
theorem putWithdraw_kindsLawful (l : Line) (nt : Time) (cls : Class) (p : List Byte) (h : kindsLawful l.queue) :
    kindsLawful (l.putWithdraw nt cls p).queue := by
  unfold Line.putWithdraw
  split
  · split
    · exact put_kindsLawful _ _ _ _ _ (drop_kindsLawful l _ h) (by intro hk; cases hk)
        (fun _ => drop_queue_kind l .intent)
    · exact drop_kindsLawful l _ h
  · rename_i hn
    rw [holds_iff] at hn
    split
    · exact put_kindsLawful _ _ _ _ _ h (by intro hk; cases hk) (fun _ => hn)
    · exact h

/-- The parts of the line that a placement does not touch. -/
structure LineKept (a b : Line) : Prop where
  assembly : b.assembly = a.assembly
  samples : b.samples = a.samples
  driven : b.driven = a.driven
  intentSent : b.intentSent = a.intentSent
  clashes : b.clashes = a.clashes
  listenOnly : b.listenOnly = a.listenOnly
  isolated : b.isolated = a.isolated
  lastHeard : b.lastHeard = a.lastHeard
  isolationDl : b.isolationDl = a.isolationDl

theorem LineKept.refl (a : Line) : LineKept a a := by constructor <;> rfl

theorem put_kept (l : Line) (nt : Time) (k : Kind) (cls : Class) (p : List Byte) : LineKept l (l.put nt k cls p) := by
  unfold Line.put; split <;> exact { LineKept.refl l with }

theorem put_inFlight (l : Line) (nt : Time) (k : Kind) (cls : Class) (p : List Byte) :
    (l.put nt k cls p).inFlight = l.inFlight := by
  unfold Line.put; split <;> rfl

theorem drop_kept (l : Line) (k : Kind) : LineKept l (l.drop k) := { LineKept.refl l with }

theorem LineKept.trans {a b c : Line} (h : LineKept a b) (k : LineKept b c) : LineKept a c :=
  ⟨k.1.trans h.1, k.2.trans h.2, k.3.trans h.3, k.4.trans h.4, k.5.trans h.5, k.6.trans h.6,
    k.7.trans h.7, k.8.trans h.8, k.9.trans h.9⟩

theorem putWithdraw_kept (l : Line) (nt : Time) (cls : Class) (p : List Byte) :
    LineKept l (l.putWithdraw nt cls p) := by
  unfold Line.putWithdraw
  split
  · split
    · exact (drop_kept l _).trans (put_kept _ _ _ _ _)
    · exact drop_kept l _
  · split
    · exact put_kept _ _ _ _ _
    · exact LineKept.refl l

/-- A placement refused leaves the state as it was (R35). -/
theorem place_refused {k : Kind} {s : State} (h : refusesPlacement k s = true) (cls : Class) (p : List Byte) :
    place k cls p s = s := by simp [place, h]

/-- A placement changes the line alone, and of the line only the queue and the mark of a telegram in flight; the
queue stays lawful. -/
theorem place_line (k : Kind) (cls : Class) (p : List Byte) (s : State) :
    ∃ l, place k cls p s = s.setLine l ∧ LineKept s.line l ∧ (kindsLawful s.line.queue → kindsLawful l.queue) ∧
      (refusesPlacement k s = true → l = s.line) := by
  unfold place
  split
  · exact ⟨s.line, rfl, LineKept.refl _, id, fun _ => rfl⟩
  · rename_i hr
    cases k
    case withdraw =>
      exact ⟨_, rfl, putWithdraw_kept _ _ _ _, putWithdraw_kindsLawful _ _ _ _, fun h => absurd h hr⟩
    case intent =>
      exact ⟨_, rfl, (drop_kept _ _).trans (put_kept _ _ _ _ _), fun h =>
        put_kindsLawful _ _ _ _ _ (drop_kindsLawful _ _ h) (fun _ => drop_queue_kind _ _) (by intro hk; cases hk),
        fun h => absurd h hr⟩
    all_goals
      exact ⟨_, rfl, put_kept _ _ _ _ _, fun h =>
        put_kindsLawful _ _ _ _ _ h (by intro hk; cases hk) (by intro hk; cases hk), fun h => absurd h hr⟩

end Sys2Proof.Machine
end

