-- ==== Sys2Proof/Laws/Entries.lean ====
section
/-! SUPPORT. The Intent List: what each list operation does to the law of R100. -/

namespace Sys2Proof.Machine

/-- The list part of the law of R100, for a line id. -/
structure ListLawful (id : Nat) (l : List Entry) : Prop where
  short : l.length ≤ 8
  sorted : l.Pairwise (fun a b => a.outranks b = true ∧ a.source ≠ b.source)
  own : ∀ e ∈ l, e.own = (e.source == id)

theorem entriesLawful_iff (s : State) : EntriesLawful s ↔ ListLawful (lineId s) s.supply.entries ∧
    ((∃ e ∈ s.supply.entries, e.own = true) ↔ (s.supply.admission = .settling ∨ s.supply.admission = .waiting)) ∧
    (s.supply.own.isSome = true ↔ (s.supply.admission = .settling ∨ s.supply.admission = .waiting)) ∧
    (s.supply.running = true ↔ s.supply.admission = .admitted) :=
  ⟨fun ⟨a, b, c, d⟩ => ⟨⟨a, b, c⟩, d⟩, fun ⟨⟨a, b, c⟩, d⟩ => ⟨a, b, c, d⟩⟩

theorem ListLawful.sublist {id : Nat} {l m : List Entry} (h : ListLawful id l) (hs : m.Sublist l) : ListLawful id m :=
  ⟨hs.length_le.trans h.short, h.sorted.sublist hs, fun e he => h.own e (hs.subset he)⟩

theorem ListLawful.withoutSource {id : Nat} {l : List Entry} (h : ListLawful id l) (src : Nat) :
    ListLawful id (withoutSource src l) := h.sublist List.filter_sublist

theorem ListLawful.withoutOwn {id : Nat} {l : List Entry} (h : ListLawful id l) : ListLawful id (withoutOwn l) :=
  h.sublist List.filter_sublist

theorem mem_withoutSource {src : Nat} {l : List Entry} {e : Entry} :
    e ∈ withoutSource src l ↔ e ∈ l ∧ (e.source ≠ src ∨ e.own = true) := by
  simp [withoutSource, List.mem_filter]

theorem mem_withoutOwn {l : List Entry} {e : Entry} : e ∈ withoutOwn l ↔ e ∈ l ∧ e.own = false := by
  simp [withoutOwn, List.mem_filter]

theorem outranks_total {a b : Entry} (h : a.source ≠ b.source) (hn : ¬ a.outranks b = true) : b.outranks a = true := by
  simp only [Entry.outranks, Bool.or_eq_true, decide_eq_true_eq, Bool.and_eq_true, beq_iff_eq, not_or, not_and,
    not_lt] at *
  by_cases hl : a.level = b.level
  · exact .inr ⟨hl.symm, lt_of_le_of_ne (hn.2 hl) (Ne.symm h)⟩
  · left
    refine lt_of_le_of_ne hn.1 fun he => hl ?_
    revert he; cases a.level <;> cases b.level <;> simp [Level.rank]

theorem outranks_trans {a b c : Entry} (h : a.outranks b = true) (k : b.outranks c = true) : a.outranks c = true := by
  simp only [Entry.outranks, Bool.or_eq_true, decide_eq_true_eq, Bool.and_eq_true, beq_iff_eq] at *
  rcases h with h | ⟨h1, h2⟩ <;> rcases k with k | ⟨k1, k2⟩
  · exact .inl (h.trans k)
  · exact .inl (k1 ▸ h)
  · exact .inl (h1 ▸ k)
  · exact .inr ⟨h1.trans k1, h2.trans k2⟩

theorem mem_insertEntry {x e : Entry} {l : List Entry} : e ∈ insertEntry x l ↔ e = x ∨ e ∈ l := by
  induction l with
  | nil => simp [insertEntry]
  | cons y ys ih => simp only [insertEntry]; split <;> simp [ih]; tauto

theorem length_insertEntry (x : Entry) (l : List Entry) : (insertEntry x l).length = l.length + 1 := by
  induction l with
  | nil => rfl
  | cons y ys ih => simp only [insertEntry]; split <;> simp [ih]

theorem insertEntry_sorted {x : Entry} {l : List Entry}
    (h : l.Pairwise (fun a b => a.outranks b = true ∧ a.source ≠ b.source)) (hx : ∀ e ∈ l, e.source ≠ x.source) :
    (insertEntry x l).Pairwise (fun a b => a.outranks b = true ∧ a.source ≠ b.source) := by
  induction l with
  | nil => simp [insertEntry]
  | cons y ys ih =>
    rw [List.pairwise_cons] at h
    simp only [List.mem_cons, forall_eq_or_imp] at hx
    simp only [insertEntry]
    split
    · rename_i hxy
      refine List.pairwise_cons.2 ⟨?_, List.pairwise_cons.2 h⟩
      intro e he
      rcases List.mem_cons.1 he with rfl | he
      · exact ⟨hxy, Ne.symm hx.1⟩
      · exact ⟨outranks_trans hxy (h.1 e he).1, Ne.symm (hx.2 e he)⟩
    · rename_i hxy
      refine List.pairwise_cons.2 ⟨?_, ih h.2 hx.2⟩
      intro e he
      rcases mem_insertEntry.1 he with rfl | he
      · exact ⟨outranks_total (Ne.symm hx.1) hxy, hx.1⟩
      · exact h.1 e he

theorem ListLawful.insert {id : Nat} {l : List Entry} {x : Entry} (h : ListLawful id l) (hl : l.length < 8)
    (hx : ∀ e ∈ l, e.source ≠ x.source) (ho : x.own = (x.source == id)) : ListLawful id (insertEntry x l) := by
  refine ⟨by rw [length_insertEntry]; omega, insertEntry_sorted h.sorted hx, fun e he => ?_⟩
  rcases mem_insertEntry.1 he with rfl | he
  · exact ho
  · exact h.own e he

theorem lowestPeer_mem {l : List Entry} {e : Entry} (h : lowestPeer l = some e) : e ∈ l ∧ e.own = false :=
  mem_withoutOwn.1 (List.mem_of_getLast? h)

theorem evictLowest_sublist (l : List Entry) : (evictLowest l).Sublist l := by
  unfold evictLowest; split
  · exact List.Sublist.refl _
  · exact List.filter_sublist

theorem evictLowest_own {l : List Entry} {e : Entry} (h : e.own = true) : e ∈ evictLowest l ↔ e ∈ l := by
  unfold evictLowest; split
  · rfl
  · simp [mem_withoutSource, h]

theorem evictLowest_length {l : List Entry} {e : Entry} (h : lowestPeer l = some e) :
    (evictLowest l).length < l.length := by
  have hm := lowestPeer_mem h
  simp only [evictLowest, h, withoutSource]
  refine List.length_filter_lt_length_iff_exists.2 ⟨e, hm.1, ?_⟩
  simp [hm.2]

/-- A peer's entry stored keeps the law (R101, R102). -/
theorem ListLawful.storeEntry {id : Nat} {l : List Entry} {x : Entry} (h : ListLawful id l) (hx : x.source ≠ id)
    (ho : x.own = false) : ListLawful id (storeEntry x l) := by
  have ho' : x.own = (x.source == id) := by simp [ho, hx]
  have hrest : ListLawful id (Machine.withoutSource x.source l) := h.withoutSource _
  have hne : ∀ e ∈ Machine.withoutSource x.source l, e.source ≠ x.source := by
    intro e he
    rcases mem_withoutSource.1 he with ⟨he, hs | hs⟩
    · exact hs
    · rw [h.own e he, beq_iff_eq] at hs
      exact fun hc => hx (hc ▸ hs)
  unfold Machine.storeEntry
  dsimp only
  split
  · exact hrest.insert ‹_› hne ho'
  · split
    · exact hrest
    · rename_i hlow
      split
      · refine (hrest.sublist (evictLowest_sublist _)).insert ?_ (fun e he => hne e ((evictLowest_sublist _).subset he)) ho'
        have := evictLowest_length hlow
        have := hrest.short
        omega
      · exact hrest

theorem storeEntry_own {l : List Entry} {x e : Entry} (ho : x.own = false) (he : e.own = true) :
    e ∈ storeEntry x l ↔ e ∈ l := by
  have hx : e ≠ x := by rintro rfl; simp [ho] at he
  unfold storeEntry
  dsimp only
  split
  · simp [mem_insertEntry, mem_withoutSource, he, hx]
  · split
    · simp [mem_withoutSource, he]
    · split
      · simp [mem_insertEntry, evictLowest_own he, mem_withoutSource, he, hx]
      · simp [mem_withoutSource, he]

/-- The own entry stored keeps the law (R105, R102). -/
theorem ListLawful.storeOwn {id : Nat} {l : List Entry} {x : Entry} (h : ListLawful id l) (hx : x.source = id)
    (ho : x.own = true) : ListLawful id (storeOwn x l) := by
  have ho' : x.own = (x.source == id) := by simp [ho, hx]
  have hrest := h.withoutOwn
  have hne : ∀ e ∈ Machine.withoutOwn l, e.source ≠ x.source := by
    intro e he
    have h1 := mem_withoutOwn.1 he
    have h2 := h.own e h1.1
    rw [h1.2] at h2
    rw [hx]
    simpa using h2.symm
  unfold Machine.storeOwn
  dsimp only
  split
  · exact hrest.insert ‹_› hne ho'
  · rename_i hlen
    refine (hrest.sublist (evictLowest_sublist _)).insert ?_ (fun e he => hne e ((evictLowest_sublist _).subset he)) ho'
    rcases hlow : lowestPeer (Machine.withoutOwn l) with _ | e
    · exfalso
      have h0 : Machine.withoutOwn (Machine.withoutOwn l) = [] := List.getLast?_eq_none_iff.1 hlow
      have h1 : Machine.withoutOwn (Machine.withoutOwn l) = Machine.withoutOwn l := by
        simp [Machine.withoutOwn, List.filter_filter]
      rw [h1] at h0
      rw [h0] at hlen
      simp at hlen
    · have := evictLowest_length hlow
      have := hrest.short
      omega

theorem storeOwn_mem (x : Entry) (l : List Entry) : x ∈ storeOwn x l := by
  unfold storeOwn; dsimp only; split <;> simp [mem_insertEntry]

end Sys2Proof.Machine
end

