-- ==== Sys2Proof/Laws/Operations.lean ====
section
/-! SUPPORT. The shared operations, from the line up to the drive at rest: what each leaves as it was (Moves, Turns). -/

namespace Sys2Proof.Machine

/-! ### Line and supply -/

theorem Moves.setLine (s : State) (l : Line) (h : LineKept s.line l) (hq : QueueLawful s → QueueLawful (s.setLine l)) :
    Moves s (s.setLine l) :=
  { Moves.refl s with
    assembly := h.assembly, samples := h.samples, driven := h.driven, intentSent := h.intentSent, clashes := h.clashes, listenOnly := h.listenOnly
    isolated := h.isolated, lastHeard := h.lastHeard, isolationDl := h.isolationDl, queue := hq }

theorem place_moves (k : Kind) (cls : Class) (p : List Byte) (s : State) : Moves s (place k cls p s) := by
  obtain ⟨l, hl, hk, hq, hr⟩ := place_line k cls p s
  rw [hl]
  refine Moves.setLine s l hk fun h => ?_
  rw [queueLawful_iff] at *
  refine ⟨hq h.1, fun hlo => ?_⟩
  have hlo' : s.line.listenOnly = true := hk.listenOnly ▸ hlo
  have : refusesPlacement k s = true := by simp [refusesPlacement, hlo']
  rw [State.setLine_line, hr this]
  exact h.2 hlo'

theorem placeIntent_moves (level : Level) (dir : Dir) (s : State) : Moves s (placeIntent level dir s) :=
  place_moves _ _ _ s

theorem placeIntent_supply (level : Level) (dir : Dir) (s : State) : (placeIntent level dir s).supply = s.supply := by
  obtain ⟨l, hl, -⟩ := place_line .intent level.cls (intentPayload level dir s.cfg.weight s.cfg.group) s
  rw [placeIntent, hl]; rfl

/-- A request announced keeps the law, from any state of admission but ADMITTED (R105, R106). -/
theorem announce_moves (level : Level) (dir : Dir) (s : State) (hs : s.supply.admission ≠ .admitted) :
    Moves s (announce level dir s) := by
  unfold announce
  refine (placeIntent_moves level dir s).trans (Moves.setSupply _ _ fun h => ?_)
  rw [entriesLawful_iff] at *
  obtain ⟨h1, h2, h3, h4⟩ := h
  have hrun : (placeIntent level dir s).supply.running = false := by
    rw [placeIntent_supply] at *
    exact Bool.eq_false_iff.2 fun hr => hs (h4.1 hr)
  have hid : lineId ((placeIntent level dir s).setSupply (placeIntent level dir s).supply) = lineId s := by
    have := placeIntent_moves level dir s
    simp [lineId, this.safe, this.cfg]
  have hid' : lineId (placeIntent level dir s) = lineId s := hid
  refine ⟨?_, ?_, by simp, by simp [hrun]⟩
  · have := ListLawful.storeOwn (x := ownEntry level dir s) h1 (by simp [ownEntry, hid']) rfl
    exact this
  · simp only [State.setSupply_supply]
    exact ⟨fun _ => .inl trivial, fun _ => ⟨_, storeOwn_mem _ _, rfl⟩⟩

theorem requestAdmission_moves (level : Level) (dir : Dir) (s : State) : Moves s (requestAdmission level dir s) := by
  unfold requestAdmission
  split
  · exact Moves.refl s
  · rename_i h
    simp only [Bool.or_eq_true, beq_iff_eq, not_or] at h
    exact announce_moves level dir s h.2

theorem cancelRequest_moves (s : State) (hs : s.supply.admission ≠ .admitted) : Moves s (cancelRequest s) := by
  have key : ∀ t : State, Moves s t → t.supply = s.supply → Moves s (t.setSupply { t.supply with
      entries := withoutOwn t.supply.entries, own := none, admission := .none, settleDl := none, refreshDl := none }) := by
    intro t ht he
    refine ht.trans (Moves.setSupply _ _ fun h => ?_)
    rw [entriesLawful_iff] at *
    obtain ⟨h1, h2, h3, h4⟩ := h
    have hrun : t.supply.running = false := by
      rw [he] at *
      exact Bool.eq_false_iff.2 fun hr => hs (h4.1 hr)
    refine ⟨h1.withoutOwn, ?_, by simp, by simp [hrun]⟩
    simp only [State.setSupply_supply, mem_withoutOwn]
    constructor
    · rintro ⟨e, ⟨-, h⟩, h'⟩; simp [h] at h'
    · rintro (h | h) <;> cases h
  unfold cancelRequest
  dsimp only
  split
  · exact key s (Moves.refl s) rfl
  · refine key _ (place_moves _ _ _ s) ?_
    obtain ⟨l, hl, -⟩ := place_line .withdraw _ (withdrawPayload s.cfg.group) s
    rw [hl]; rfl

/-- A release keeps the law, from NONE or ADMITTED (R110, R112). -/
theorem releaseSupply_moves (s : State) (hs : s.supply.admission = .admitted ∨ s.supply.admission = .none) :
    Moves s (releaseSupply s) := by
  refine Moves.setSupply _ _ fun h => ?_
  rw [entriesLawful_iff] at *
  obtain ⟨h1, h2, h3, h4⟩ := h
  have hn : ¬ (s.supply.admission = .settling ∨ s.supply.admission = .waiting) := by
    rcases hs with h | h <;> rw [h] <;> rintro (h | h) <;> cases h
  refine ⟨h1, ?_, ?_, by simp⟩
  · simp only [State.setSupply_supply]
    exact ⟨fun he => absurd (h2.1 he) hn, by rintro (h | h) <;> cases h⟩
  · simp only [State.setSupply_supply]
    exact ⟨fun he => absurd (h3.1 he) hn, by rintro (h | h) <;> cases h⟩

theorem leaveSupply_moves (s : State) : Moves s (leaveSupply s) := by
  unfold leaveSupply
  split
  · exact Moves.refl s
  · exact cancelRequest_moves s (by simp_all)
  · exact cancelRequest_moves s (by simp_all)
  · exact releaseSupply_moves s (.inl ‹_›)

/-- Supply changes outside the law of R100 keep it. -/
theorem Moves.setSupplyRest (s : State) (v : Supply) (he : v.entries = s.supply.entries) (ho : v.own = s.supply.own)
    (ha : v.admission = s.supply.admission) (hr : v.running = s.supply.running) : Moves s (s.setSupply v) := by
  refine Moves.setSupply _ _ fun h => ?_
  rw [entriesLawful_iff] at *
  simp only [State.setSupply_supply, he, ho, ha, hr]
  exact h

theorem moveEnded_moves (s : State) : Moves s (moveEnded s) := Moves.setSupplyRest _ _ rfl rfl rfl rfl

theorem noteOccasion_moves (s : State) : Moves s (noteOccasion s) := Moves.setOccasion s true

/-! ### Updates of the position block that leave the count -/

theorem Moves.setPos (s : State) (p : Tracker) (h1 : p.hall = s.pos.hall) (h2 : p.count = s.pos.count)
    (h3 : p.windowStart = s.pos.windowStart) (h4 : p.windowBegin = s.pos.windowBegin)
    (h5 : p.velocity = s.pos.velocity) (ht : DriveTimed s → DriveTimed (s.setPos p)) : Moves s (s.setPos p) :=
  { Moves.refl s with
    hall := h1, count := h2, windowStart := h3, windowBegin := h4, velocity := h5, timed := ht }

theorem Moves.setLevels (s : State) (v : Levels) (h1 : v.demandTarget = s.levels.demandTarget)
    (h2 : v.expiryDl = s.levels.expiryDl) (h3 : v.serviceHold = s.levels.serviceHold)
    (h4 : v.storm = s.levels.storm) (h5 : v.rain = s.levels.rain) (h6 : v.demand = s.levels.demand)
    (h7 : v.rainTarget = s.levels.rainTarget) : Moves s (s.setLevels v) :=
  { Moves.refl s with
    demandTarget := h1, expiryDl := h2, serviceHold := h3, storm := h4, rain := h5, demand := h6, rainTarget := h7 }

/-! ### Reports -/

theorem placeState_moves (s : State) : Moves s (placeState s) := by
  unfold placeState
  dsimp only
  refine Moves.trans ?_ (place_moves _ _ _ _)
  have h : Moves s (s.setPos { s.pos with lastReported := position s }) :=
    Moves.setPos _ _ rfl rfl rfl rfl rfl (fun h => h)
  split
  · exact h.trans (Moves.setDrive _ { s.drive with refreshDl := some (after s.nt 2000) } rfl rfl (fun h => h)
      (fun h => h))
  · exact h

/-! ### Passages between drive states -/

/-- A passage into a state other than IDLE. -/
theorem moveDrive_moves (d : Drive) (s : State) (hr : d.refuseUntil = s.drive.refuseUntil)
    (hc : d.controlledStop = s.drive.controlledStop) (hn : d.retry ≤ max s.drive.retry (s.cfg.retryLimit + 1))
    (hi : d.state ≠ .idle) (he : d.endsBy) : Moves s (moveDrive d s) := by
  have hn' : RetryBounded s → d.retry ≤ s.cfg.retryLimit + 1 := by
    intro h; unfold RetryBounded at h; omega
  have hpos : Moves s ((s.setDrive d).setPos { s.pos with crossCheckDl := none }) :=
    { Moves.refl s with
      refuseUntil := hr, controlledStop := hc, retry := hn', timed := fun _ => ⟨he, by simp [hi]⟩ }
  unfold moveDrive
  simp only [hi, if_false]
  split
  · exact hpos
  · exact hpos.trans (Moves.setSupplyRest _ _ rfl rfl rfl rfl)

theorem enterStopping_moves (c : Continuation) (s : State) : Moves s (enterStopping c s) :=
  moveDrive_moves _ _ rfl rfl (Nat.le_max_left _ _) (by simp) (by simp [Drive.endsBy])

theorem enterWaitSlot_moves (s : State) : Moves s (enterWaitSlot s) := by
  have h : Moves s (moveDrive { s.drive.cleared.unmarked with state := .waitSlot } s) :=
    moveDrive_moves _ _ rfl rfl (Nat.le_max_left _ _) (by simp) (by simp [Drive.endsBy])
  unfold enterWaitSlot
  dsimp only
  split
  · exact h
  · exact h.trans (requestAdmission_moves _ _ _)

theorem enterSeating_moves (s : State) : Moves s (enterSeating s) :=
  moveDrive_moves _ _ rfl rfl (Nat.le_max_left _ _) (by simp) (by simp [Drive.endsBy])

theorem enterApproach_moves (s : State) : Moves s (enterApproach s) :=
  moveDrive_moves _ _ rfl rfl (Nat.le_max_left _ _) (by simp) (by simp [Drive.endsBy])

theorem arrive_moves (s : State) : Moves s (arrive s) := (moveEnded_moves s).trans (enterStopping_moves _ _)

theorem positionTests_moves (s : State) : Moves s (positionTests s) := by
  unfold positionTests
  split
  · dsimp only
    split
    · split
      · split
        · exact enterSeating_moves s
        · split
          · exact enterApproach_moves s
          · exact Moves.refl s
      · split
        · exact arrive_moves s
        · split
          · exact enterApproach_moves s
          · exact Moves.refl s
    · exact Moves.refl s
  · exact Moves.refl s

theorem rampToTravel_moves (s : State) : Moves s (rampToTravel s) := by
  unfold rampToTravel
  split
  · refine Moves.trans ?_ (positionTests_moves _)
    exact moveDrive_moves _ _ rfl rfl (Nat.le_max_left _ _) (by simp) (by simp [Drive.endsBy])
  · exact Moves.refl s

theorem enterRamp_moves (s : State) : Moves s (enterRamp s) := by
  unfold enterRamp
  split
  · exact enterStopping_moves _ s
  · split
    · refine Moves.trans ?_ (enterStopping_moves _ _)
      exact Moves.setDrive _ _ rfl rfl (fun h => h) (fun h => h)
    · refine Moves.trans (Moves.trans (Moves.trans ?_ (noteOccasion_moves _)) (positionTests_moves _))
        (rampToTravel_moves _)
      exact moveDrive_moves _ _ rfl rfl (Nat.le_max_left _ _) (by simp) (by simp [Drive.endsBy])

theorem enterWarning_moves (s : State) : Moves s (enterWarning s) := by
  unfold enterWarning
  split
  · exact enterRamp_moves s
  · exact moveDrive_moves _ _ rfl rfl (Nat.le_max_left _ _) (by simp) (by simp [Drive.endsBy])

theorem backoffTest_moves (s : State) : Moves s (backoffTest s) := by
  unfold backoffTest
  split
  · exact enterStopping_moves _ s
  · exact Moves.refl s

theorem enterBackoff_moves (s : State) : Moves s (enterBackoff s) := by
  unfold enterBackoff
  refine Moves.trans (Moves.trans ?_ (noteOccasion_moves _)) (backoffTest_moves _)
  exact moveDrive_moves _ _ rfl rfl (Nat.le_max_left _ _) (by simp) (by simp [Drive.endsBy])

/-! ### At rest -/

theorem recordHanding_moves (s : State) : Moves s (recordHanding s) := Moves.setLevels _ _ rfl rfl rfl rfl rfl rfl rfl

theorem takeGoalAtRest_moves (g : Option Goal) (s : State) : Moves s (takeGoalAtRest g s) := by
  have h : Moves s (s.setDrive { s.drive with goal := g }) := Moves.setDrive _ _ rfl rfl (fun h => h) (fun h => h)
  unfold takeGoalAtRest
  dsimp only
  split
  · exact h
  · split
    · exact h.trans (enterWaitSlot_moves _)
    · exact h

theorem handGoalAtRest_moves (s : State) : Moves s (handGoalAtRest s) :=
  (recordHanding_moves s).trans (takeGoalAtRest_moves _ _)

theorem putReason_moves (r : Reason) (s : State) : Moves s (putReason r s) :=
  Moves.setPos _ _ rfl rfl rfl rfl rfl (fun h => h)

theorem compareAtRest_moves (s : State) : Moves s (compareAtRest s) := by
  unfold compareAtRest
  dsimp only
  split
  · split
    · exact putReason_moves _ s
    · exact (putReason_moves _ s).trans (handGoalAtRest_moves _)
  · exact Moves.refl s

/-- The passage into IDLE, apart from the cross-check deadline. -/
theorem moveDrive_idle {d : Drive} (hd : d.state = .idle) (s : State) :
    moveDrive d s = (s.setDrive d).setSupply { s.supply with sagTimer := none } := by
  unfold moveDrive
  simp only [hd, if_true]
  rfl

theorem lineId_setPos (s : State) (v : Tracker) : lineId (s.setPos v) = lineId s := rfl
theorem lineId_setLevels (s : State) (v : Levels) : lineId (s.setLevels v) = lineId s := rfl
theorem lineId_setSupply (s : State) (v : Supply) : lineId (s.setSupply v) = lineId s := rfl
theorem lineId_setDrive (s : State) (v : Drive) : lineId (s.setDrive v) = lineId s := rfl

/-- An IDLE drive with the cross-check deadline set. -/
theorem settleIdle_moves (s : State) (d : Drive) (v : Levels) (hr : d.refuseUntil = s.drive.refuseUntil)
    (hc : d.controlledStop = s.drive.controlledStop) (hn : d.retry = 0) (hi : d.state = .idle)
    (hv : Moves s (s.setLevels v)) :
    Moves s ((((s.setDrive d).setSupply { s.supply with sagTimer := none }).setLevels v).setPos
      { s.pos with crossCheckDl := some (after s.nt 10000) }) := by
  refine { hv with
    refuseUntil := hr, controlledStop := hc, queue := fun h => ?_, entries := fun h => ?_, retry := fun _ => ?_
    timed := fun _ => ⟨?_, ?_⟩ }
  · rw [queueLawful_iff] at *
    exact h
  · rw [entriesLawful_iff] at *
    simp only [lineId_setPos, lineId_setLevels, lineId_setSupply, lineId_setDrive, State.setPos_supply,
      State.setLevels_supply, State.setSupply_supply]
    exact h
  · show d.retry ≤ _
    omega
  · show d.endsBy
    simp [Drive.endsBy, hi]
  · show (some (after s.nt 10000)).isSome = true ↔ d.state = .idle
    simp [hi]

/-- Entry into IDLE with the cross-check deadline set. -/
theorem restInIdle_moves (s : State) : Moves s (restInIdle s) := by
  unfold restInIdle
  dsimp only
  refine (leaveSupply_moves s).trans ?_
  generalize leaveSupply s = u
  obtain ⟨d, hd⟩ : ∃ d, d = { u.drive.cleared.unmarked with state := .idle, retry := 0 } := ⟨_, rfl⟩
  rw [← hd, moveDrive_idle (by rw [hd])]
  have h1 : d.refuseUntil = u.drive.refuseUntil := by rw [hd]; rfl
  have h2 : d.controlledStop = u.drive.controlledStop := by rw [hd]; rfl
  have h3 : d.retry = 0 := by rw [hd]
  have h4 : d.state = .idle := by rw [hd]
  split
  · exact settleIdle_moves u d u.levels h1 h2 h3 h4 (Moves.refl u)
  · exact settleIdle_moves u d _ h1 h2 h3 h4 (Moves.setLevels u _ rfl rfl rfl rfl rfl rfl rfl)

theorem enterIdle_moves (s : State) : Moves s (enterIdle s) := (restInIdle_moves s).trans (compareAtRest_moves _)

theorem waitOrIdle_moves (s : State) : Moves s (waitOrIdle s) := by
  unfold waitOrIdle
  split
  · exact enterIdle_moves s
  · split
    · exact enterWaitSlot_moves s
    · exact enterIdle_moves s

theorem forgiveAndGo_moves (s : State) : Moves s (forgiveAndGo s) :=
  (Moves.setDrive _ { s.drive with retry := 0 } rfl rfl (fun _ => Nat.zero_le _) (fun h => h)).trans
    (waitOrIdle_moves _)

theorem enterRetryWait_moves (s : State) : Moves s (enterRetryWait s) := by
  unfold enterRetryWait
  dsimp only
  have h := (leaveSupply_moves s).trans (moveDrive_moves { (leaveSupply s).drive.cleared.unmarked with
    state := .retryWait, retryDl := some (after (leaveSupply s).nt (1000 * (leaveSupply s).cfg.retryDelay)) } _
    rfl rfl (Nat.le_max_left _ _) (by simp) (by simp [Drive.endsBy]))
  split
  · exact h.trans (forgiveAndGo_moves _)
  · split
    · exact h.trans (waitOrIdle_moves _)
    · exact h

theorem enterBlocked_moves (s : State) : Moves s (enterBlocked s) := by
  unfold enterBlocked
  dsimp only
  have h := ((leaveSupply_moves s).trans (moveDrive_moves { (leaveSupply s).drive.cleared.unmarked with
    state := .blocked, pattern := some .fault, patternStart := (leaveSupply s).nt } _
    rfl rfl (Nat.le_max_left _ _) (by simp) (by simp [Drive.endsBy]))).trans (noteOccasion_moves _)
  split
  · exact h.trans (forgiveAndGo_moves _)
  · split
    · exact h.trans (forgiveAndGo_moves _)
    · exact h

theorem enterSagWait_moves (s : State) : Moves s (enterSagWait s) :=
by
  unfold enterSagWait
  refine (leaveSupply_moves s).trans ?_
  exact moveDrive_moves _ _ rfl rfl (Nat.le_max_left _ _) (by simp) (by simp [Drive.endsBy])

end Sys2Proof.Machine
end

