-- ==== Sys2Proof/Laws/Handings.lean ====
section
/-! SUPPORT. Handings, evaluations, counts and appointments: what each leaves as it was (Moves, Turns). -/

namespace Sys2Proof.Machine

/-! ### Handings, close notices and suspect reasons in every drive state -/

theorem changeWhileMoving_moves (old g : Option Goal) (s : State) : Moves s (changeWhileMoving old g s) := by
  unfold changeWhileMoving
  split
  · exact enterStopping_moves _ s
  · repeat' split
    all_goals first
      | exact arrive_moves s
      | exact enterStopping_moves _ s
      | exact Moves.refl s
      | exact (enterApproach_moves s).trans (positionTests_moves _)
      | exact positionTests_moves s

theorem changeWhileWarning_moves (g : Option Goal) (s : State) : Moves s (changeWhileWarning g s) := by
  unfold changeWhileWarning
  dsimp only
  split
  · exact enterIdle_moves s
  · rename_i new
    have h : Moves s (s.setDrive { s.drive with
        warningDl := some (after s.drive.patternStart (100 * warningTime (some new) s)) }) := by
      refine Moves.setDrive _ _ rfl rfl (fun h => h) (fun h => ⟨?_, h.2⟩)
      have := h.1
      revert this
      simp only [Drive.endsBy, State.setDrive_drive]
      cases s.drive.state <;> simp
    split
    · exact enterIdle_moves s
    · split
      · exact h.trans (enterRamp_moves _)
      · exact h

theorem changeWhileWaiting_moves (g : Option Goal) (s : State) : Moves s (changeWhileWaiting g s) := by
  unfold changeWhileWaiting
  split
  · exact enterIdle_moves s
  · split
    · exact requestAdmission_moves _ _ s
    · exact enterIdle_moves s

theorem takeGoal_moves (g : Option Goal) (s : State) : Moves s (takeGoal g s) := by
  have h : Moves s (s.setDrive { s.drive with goal := g }) := Moves.setDrive _ _ rfl rfl (fun h => h) (fun h => h)
  have hh : Moves s ((s.setDrive { s.drive with goal := g }).setDrive { s.drive with goal := g, heldChange := true }) :=
    h.trans (Moves.setDrive _ _ rfl rfl (fun h => h) (fun h => h))
  unfold takeGoal
  dsimp only
  split
  · exact h
  · split
    all_goals repeat' split
    all_goals first
      | exact h
      | exact hh
      | exact takeGoalAtRest_moves g s
      | exact h.trans (changeWhileWaiting_moves _ _)
      | exact h.trans (changeWhileWarning_moves _ _)
      | exact h.trans (changeWhileMoving_moves _ _ _)
      | exact h.trans (enterStopping_moves _ _)
      | exact h.trans (enterIdle_moves _)
      | exact h.trans (forgiveAndGo_moves _)

theorem takeCloseNotice_moves (s : State) : Moves s (takeCloseNotice s) := by
  have h : Moves s (s.setDrive { s.drive with heldClose := true }) := Moves.setDrive _ _ rfl rfl (fun h => h) (fun h => h)
  unfold takeCloseNotice
  repeat' split
  all_goals first
    | exact Moves.refl s
    | exact h
    | exact waitOrIdle_moves s
    | exact forgiveAndGo_moves s

theorem handGoal_moves (s : State) : Moves s (handGoal s) := (recordHanding_moves s).trans (takeGoal_moves _ _)

theorem driveOnset_moves (s : State) : Moves s (driveOnset s) := by
  unfold driveOnset
  repeat' split
  all_goals first
    | exact Moves.refl s
    | exact enterStopping_moves _ s

theorem addReason_moves (r : Reason) (s : State) : Moves s (addReason r s) := by
  unfold addReason
  dsimp only
  have h := (putReason_moves r s).trans (driveOnset_moves _)
  split
  · exact putReason_moves r s
  · split
    · exact h
    · exact h.trans (handGoal_moves _)

theorem driftTest_moves (s : State) : Moves s (driftTest s) := by
  unfold driftTest
  repeat' split
  all_goals first
    | exact Moves.refl s
    | exact handGoal_moves s

theorem driveAdmitted_moves (s : State) : Moves s (driveAdmitted s) := by
  unfold driveAdmitted
  split
  · exact enterWarning_moves s
  · exact Moves.refl s

theorem admitNode_moves (s : State) : Moves s (admitNode s) := by
  refine Moves.trans (Moves.setSupply _ _ fun h => ?_) (driveAdmitted_moves _)
  rw [entriesLawful_iff] at *
  obtain ⟨h1, h2, h3, h4⟩ := h
  refine ⟨h1.withoutOwn, ?_, by simp, by simp⟩
  simp only [State.setSupply_supply, mem_withoutOwn]
  constructor
  · rintro ⟨e, ⟨-, h⟩, h'⟩; simp [h] at h'
  · rintro (h | h) <;> cases h

/-- An evaluation in SETTLING or WAITING (R107, R108). -/
theorem evaluate_moves (s : State) (hs : s.supply.admission = .settling ∨ s.supply.admission = .waiting) :
    Moves s (evaluate s) := by
  unfold evaluate
  split
  · exact admitNode_moves s
  · refine Moves.setSupply _ _ fun h => ?_
    rw [entriesLawful_iff] at *
    obtain ⟨h1, h2, h3, h4⟩ := h
    have hna : s.supply.admission ≠ .admitted := by rcases hs with h | h <;> rw [h] <;> decide
    refine ⟨h1, ?_, ?_, ?_⟩
    · simp only [State.setSupply_supply]
      exact ⟨fun _ => .inr trivial, fun _ => h2.2 hs⟩
    · simp only [State.setSupply_supply]
      exact ⟨fun _ => .inr trivial, fun _ => h3.2 hs⟩
    · simp only [State.setSupply_supply]
      exact ⟨fun hr => absurd (h4.1 hr) hna, fun h => by cases h⟩

theorem occasionToEvaluate_moves (s : State) : Moves s (occasionToEvaluate s) := by
  unfold occasionToEvaluate
  split
  · exact evaluate_moves s (.inr ‹_›)
  · exact Moves.refl s

theorem setEntries_withoutSource_moves (src : Nat) (s : State) :
    Moves s (s.setSupply { s.supply with entries := withoutSource src s.supply.entries }) := by
  refine Moves.setSupply _ _ fun h => ?_
  rw [entriesLawful_iff] at *
  obtain ⟨h1, h2, h3⟩ := h
  refine ⟨h1.withoutSource _, ?_, h3⟩
  simp only [State.setSupply_supply, mem_withoutSource]
  rw [← h2]
  constructor
  · rintro ⟨e, ⟨he, -⟩, ho⟩; exact ⟨e, he, ho⟩
  · rintro ⟨e, he, ho⟩; exact ⟨e, ⟨he, .inr ho⟩, ho⟩

theorem takeNotice_moves (s : State) (n : Notice) : Moves s (takeNotice s n) := by
  unfold takeNotice
  split
  · exact (setEntries_withoutSource_moves _ s).trans (occasionToEvaluate_moves _)
  · exact occasionToEvaluate_moves s

theorem countChanged_moves (before : Nat) (s : State) : Moves s (countChanged before s) := by
  unfold countChanged
  dsimp only
  have h := (positionTests_moves s).trans (backoffTest_moves _)
  split
  · exact h
  · split
    · exact (h.trans (driftTest_moves _)).trans (noteOccasion_moves _)
    · exact h.trans (driftTest_moves _)

theorem readSupply_moves (s : State) : Moves s (readSupply s) := by
  have hd : ∀ (t : State) (v : Option Time), Moves t (t.setDrive { t.drive with ocTimer := v }) :=
    fun t v => Moves.setDrive _ _ rfl rfl (fun h => h) (fun h => h)
  have hs : ∀ v : Option Time, Moves s (s.setSupply { s.supply with sagTimer := v }) :=
    fun v => Moves.setSupplyRest _ _ rfl rfl rfl rfl
  unfold readSupply
  dsimp only
  repeat' split
  all_goals first
    | exact Moves.refl s
    | exact hs _
    | exact hd _ _
    | exact (hs _).trans (hd _ _)

theorem recogniseObstruction_moves (s : State) : Moves s (recogniseObstruction s) := by
  have h : Moves s (s.setDrive { s.drive with retry := min (s.cfg.retryLimit + 1) (s.drive.retry + 1) }) :=
    Moves.setDrive _ _ rfl rfl (fun _ => Nat.min_le_left _ _) (fun h => h)
  unfold recogniseObstruction
  dsimp only
  split
  all_goals exact h.trans (enterStopping_moves _ _)

/-! ### Appointments -/

theorem appointed_quiet (l : Level) (c : Option Level) (p : LevelState) :
    appointed l c p = .quiet ↔ p = .quiet := by
  unfold appointed
  split
  · simp_all
  · split <;> simp_all

theorem appointed_idem (l : Level) (c : Option Level) (p : LevelState) :
    appointed l c (appointed l c p) = appointed l c p := by
  by_cases hp : p = .quiet
  · simp [appointed, hp]
  · by_cases hc : c = some l <;> simp [appointed, hp, hc]

/-- The level chosen depends on the raised levels and on whether a level may act. -/
theorem chosenLevel_congr {s t : State} (h1 : t.levels.serviceHold = s.levels.serviceHold) (h2 : t.listen = s.listen)
    (h3 : t.safe = s.safe) (h4 : t.levels.storm = .quiet ↔ s.levels.storm = .quiet)
    (h5 : t.levels.rain = .quiet ↔ s.levels.rain = .quiet) (h6 : t.levels.demand = .quiet ↔ s.levels.demand = .quiet) :
    chosenLevel t = chosenLevel s := by
  simp [chosenLevel, mayAct, h1, h2, h3, h4, h5, h6]

theorem chosenLevel_appointed (s : State) : chosenLevel (s.setLevels (appointedLevels s)) = chosenLevel s :=
  chosenLevel_congr rfl rfl rfl (appointed_quiet _ _ _) (appointed_quiet _ _ _) (appointed_quiet _ _ _)

/-- The levels are lawful in a state that keeps the levels' states of a lawful one. -/
theorem Moves.levelsLawful {s t : State} (h : Moves s t) (hs : LevelsLawful s) : LevelsLawful t := by
  have hc : chosenLevel t = chosenLevel s :=
    chosenLevel_congr h.serviceHold h.listen h.safe (by rw [h.storm]) (by rw [h.rain]) (by rw [h.demand])
  unfold LevelsLawful
  rw [hc, h.storm, h.rain, h.demand]
  exact hs

theorem setAppointed_lawful (s : State) : LevelsLawful (s.setLevels (appointedLevels s)) := by
  unfold LevelsLawful
  rw [chosenLevel_appointed]
  exact ⟨(appointed_idem _ _ _).symm, (appointed_idem _ _ _).symm, (appointed_idem _ _ _).symm⟩

theorem setAppointed_turns (s : State) : Turns s (s.setLevels (appointedLevels s)) :=
  { Turns.refl s with }

/-- An appointment: what it leaves, the states it gives the levels, and the law of R81, whatever held before. -/
theorem appointFrom_spec (before : Option Level) (s : State) :
    Turns s (appointFrom before s) ∧ LevelsLawful (appointFrom before s) ∧
    (appointFrom before s).levels.storm = appointed .storm (chosenLevel s) s.levels.storm ∧
    (appointFrom before s).levels.rain = appointed .rain (chosenLevel s) s.levels.rain ∧
    (appointFrom before s).levels.demand = appointed .demand (chosenLevel s) s.levels.demand := by
  unfold appointFrom
  dsimp only
  split
  · exact ⟨setAppointed_turns s, setAppointed_lawful s, rfl, rfl, rfl⟩
  · have h := handGoal_moves (s.setLevels (appointedLevels s))
    exact ⟨(setAppointed_turns s).trans h.toTurns, h.levelsLawful (setAppointed_lawful s), h.storm, h.rain, h.demand⟩

theorem appoint_spec (s : State) :
    Turns s (appoint s) ∧ LevelsLawful (appoint s) ∧
    (appoint s).levels.storm = appointed .storm (chosenLevel s) s.levels.storm ∧
    (appoint s).levels.rain = appointed .rain (chosenLevel s) s.levels.rain ∧
    (appoint s).levels.demand = appointed .demand (chosenLevel s) s.levels.demand := appointFrom_spec _ s

end Sys2Proof.Machine
end

