-- ==== Sys2Proof/Laws/Commit.lean ====
section
/-! SUPPORT. The end of a command: a command that changes no reported field and no mirrored item ends in what it made;
otherwise a STATE is placed and the Retained Record renewed. -/

namespace Sys2Proof.Machine

theorem renewRecord_of_mirrors {s : State} (h : Mirrors s) : renewRecord s = s := by
  obtain ⟨h1, h2⟩ := h
  have : s.retained = renewed (mirrored s) s.retained.lossLatch := by
    unfold renewed
    rw [← h1, ← h2]
  unfold renewRecord
  rw [← this]
  rfl

theorem renewRecord_mirrors (s : State) : Mirrors (renewRecord s) := ⟨rfl, rfl⟩

/-- A command without an occasion for a STATE and without a change of a mirrored item ends in what it made. -/
theorem commit_quiet {s t : State} (ho : t.occasion = false) (hf : reportedFields t = reportedFields s)
    (hm : Mirrors t) : commit s t = t := by
  have h1 : t.setOccasion false = t := by rw [← ho]; rfl
  unfold commit
  simp only [ho, hf, ne_eq, not_true_eq_false, decide_false, Bool.or_false, Bool.and_false, Bool.false_eq_true,
    if_false]
  rw [h1, renewRecord_of_mirrors hm]

/-- The mirror stands in a state that keeps the mirrored items and the record. -/
theorem Mirrors.keep {s t : State} (h : Mirrors s) (hr : t.retained = s.retained) (hm : mirrored t = mirrored s) :
    Mirrors t := by
  unfold Mirrors
  rw [hr, hm]
  exact h

/-- A command of a ready node that changes no reported field, no mirrored item and notes no occasion. -/
theorem live_quiet {s t : State} {f : State → State} (h : Ready s) (ht : f s = t) (ho : t.occasion = s.occasion)
    (hf : reportedFields t = reportedFields s) (hr : t.retained = s.retained) (hm : mirrored t = mirrored s) :
    live f s = t := by
  unfold live
  rw [h.1, if_pos rfl, ht]
  exact commit_quiet (ho.trans h.2.1) hf (h.2.2.keep hr hm)

/-- The same for a command whose time has come. -/
theorem liveWhen_quiet {s t : State} {test : State → Bool} {f : State → State} (h : Ready s) (htest : test s = true)
    (ht : f s = t) (ho : t.occasion = s.occasion) (hf : reportedFields t = reportedFields s)
    (hr : t.retained = s.retained) (hm : mirrored t = mirrored s) : liveWhen test f s = t := by
  unfold liveWhen
  rw [h.1, htest, Bool.and_self, if_pos rfl, ht]
  exact commit_quiet (ho.trans h.2.1) hf (h.2.2.keep hr hm)

/-- A command whose time has not come does nothing. -/
theorem liveWhen_idle {s : State} {test : State → Bool} (f : State → State) (htest : test s = false) :
    liveWhen test f s = s := by
  unfold liveWhen
  rw [htest, Bool.and_false]
  rfl

/-- What the end of a command changes: the queue of telegrams, the last reported position, the running refresh
deadline, the occasion mark and the record. -/
theorem commit_frame (s t : State) : commit s t = { t with
    line := { t.line with queue := (commit s t).line.queue }
    pos := { t.pos with lastReported := (commit s t).pos.lastReported }
    drive := { t.drive with refreshDl := (commit s t).drive.refreshDl }
    occasion := false
    retained := (commit s t).retained } := by
  have hplace : ∀ (u : State) (p : List Byte), ∃ q, place .state .drive p u = u.setLine { u.line with queue := q } := by
    intro u p
    unfold place
    split
    · exact ⟨u.line.queue, rfl⟩
    · dsimp only
      unfold Line.put
      split <;> exact ⟨_, rfl⟩
  have hstate : ∀ u : State, ∃ q r d, placeState u = { u with
      line := { u.line with queue := q }, pos := { u.pos with lastReported := r },
      drive := { u.drive with refreshDl := d } } := by
    intro u
    unfold placeState
    dsimp only
    split
    · obtain ⟨q, hq⟩ := hplace ((u.setPos { u.pos with lastReported := position u }).setDrive
        { u.drive with refreshDl := some (after u.nt 2000) }) (statePayload u)
      exact ⟨q, _, _, hq⟩
    · obtain ⟨q, hq⟩ := hplace (u.setPos { u.pos with lastReported := position u }) (statePayload u)
      exact ⟨q, _, u.drive.refreshDl, hq⟩
  unfold commit
  dsimp only
  split
  · obtain ⟨q, r, d, h⟩ := hstate t
    rw [h]
    rfl
  · rfl

/-- A placement into the queue leaves every telegram of another kind as it was. -/
theorem put_others (l : Line) (nt : Time) (k : Kind) (cls : Class) (p : List Byte) :
    ((l.put nt k cls p).queue.filter (fun e => e.kind != k)).Perm (l.queue.filter (fun e => e.kind != k)) := by
  unfold Line.put
  split
  · refine ((reorder_perm nt _).filter _).trans ?_
    rw [List.filter_map]
    have h : ∀ q : List Queued, List.map (fun e => if e.kind = k then
        { e with cls := cls, payload := p, replaced := e.replaced || l.flying k } else e)
        (q.filter ((fun e => e.kind != k) ∘ fun e => if e.kind = k then
          { e with cls := cls, payload := p, replaced := e.replaced || l.flying k } else e)) =
        q.filter (fun e => e.kind != k) := by
      intro q
      induction q with
      | nil => rfl
      | cons y ys ih =>
        by_cases hy : y.kind = k
        · simp [hy, ih]
        · simp [hy, ih]
    rw [h]
  · refine ((reorder_perm nt _).filter _).trans ?_
    simp [List.filter_append]

/-- A placement into the queue changes nothing of the line but the queue. -/
theorem put_queue (l : Line) (nt : Time) (k : Kind) (cls : Class) (p : List Byte) :
    l.put nt k cls p = { l with queue := (l.put nt k cls p).queue } := by
  unfold Line.put
  split <;> rfl

/-- A placement into the queue leaves a telegram of the kind, of the class and payload placed. -/
theorem put_holds (l : Line) (nt : Time) (k : Kind) (cls : Class) (p : List Byte) :
    ∃ e ∈ (l.put nt k cls p).queue, e.kind = k ∧ e.cls = cls ∧ e.payload = p := by
  unfold Line.put
  split
  · rename_i h
    obtain ⟨x, hx, hk⟩ := List.any_eq_true.1 h
    rw [beq_iff_eq] at hk
    refine ⟨_, (reorder_perm nt _).mem_iff.2 (List.mem_map_of_mem hx), ?_⟩
    rw [if_pos hk]
    exact ⟨hk, rfl, rfl⟩
  · exact ⟨_, (reorder_perm nt _).mem_iff.2 (List.mem_append_right _ (List.mem_singleton.2 rfl)), rfl, rfl, rfl⟩

/-- Outside the safe profile a command with an occasion ends with a STATE placed (R38). -/
theorem commit_reported (s t : State) (hs : t.safe = false)
    (ho : t.occasion = true ∨ reportedFields s ≠ reportedFields t) : Reported t (commit s t) := by
  have hgo : (!t.safe && (t.occasion || decide (reportedFields s ≠ reportedFields t))) = true := by
    rcases ho with h | h <;> simp [hs, h]
  have hc : commit s t = renewRecord ((placeState t).setOccasion false) := by
    unfold commit
    rw [if_pos hgo]
  rw [hc]
  have base : ∀ u : State, refusesPlacement .state u = refusesPlacement .state t → u.line = t.line → u.nt = t.nt →
      u.pos.lastReported = position t → u.drive.refreshDl = (if t.supply.running then some (after t.nt 2000)
        else t.drive.refreshDl) → u.supply = t.supply → position u = position t → statePayload u = statePayload t →
      Reported t (renewRecord ((place .state .drive (statePayload t) u).setOccasion false)) := by
    intro u hr hl hn hp hd hsu hpo hpay
    unfold place
    rw [hr]
    split
    · rename_i href
      refine ⟨hp.trans hpo.symm, ?_, ?_, ?_, ?_⟩
      · show u.drive.refreshDl = if u.supply.running then _ else _
        rw [hd, hsu]
      · show u.line = { t.line with queue := u.line.queue }
        rw [hl]
      · show (u.line.queue.filter _).Perm _
        rw [hl]
      · rw [if_pos href]
        show u.line.queue = _
        rw [hl]
    · rename_i href
      refine ⟨hp.trans hpo.symm, ?_, ?_, ?_, ?_⟩
      · show u.drive.refreshDl = if u.supply.running then _ else _
        rw [hd, hsu]
      · show u.line.put u.nt .state .drive (statePayload t) =
          { t.line with queue := (u.line.put u.nt .state .drive (statePayload t)).queue }
        rw [hl]
        exact put_queue _ _ _ _ _
      · show ((u.line.put u.nt .state .drive (statePayload t)).queue.filter _).Perm _
        rw [hl]
        exact put_others _ _ _ _ _
      · rw [if_neg href]
        obtain ⟨e, he, h1, h2, h3⟩ := put_holds u.line u.nt .state .drive (statePayload t)
        exact ⟨e, he, h1, h2, h3.trans hpay.symm⟩
  unfold placeState
  dsimp only
  split
  · rename_i h
    exact base _ rfl rfl rfl rfl (by rw [if_pos h]; rfl) rfl rfl rfl
  · rename_i h
    exact base _ rfl rfl rfl rfl (by rw [if_neg h]; rfl) rfl rfl rfl

end Sys2Proof.Machine
end

