-- ==== Sys2Proof/Laws/Line.lean ====
section
/-! SUPPORT. What the receive assembly does with a quiet and with a series of edges, and what the clock's time within a
millisecond leaves as it was. -/

namespace Sys2Proof.Machine

@[simp] theorem Assembly.hear_nil (a : Assembly) : a.hear [] = (a, []) := rfl

@[simp] theorem Assembly.lapse_absent (q t : Nat) : (Assembly.absent q).lapse t = (.rest (q + t), none) := rfl

@[simp] theorem Assembly.fall_absent (n q : Nat) : (Assembly.absent q).fall n = .reading [] 0 := rfl

@[simp] theorem Assembly.fall_rest (n q : Nat) : (Assembly.rest q).fall n = .reading [] 0 := rfl

@[simp] theorem Assembly.fall_spoiled (n q : Nat) : (Assembly.spoiled q).fall n = .spoiled 0 := rfl

@[simp] theorem Assembly.quietLong_rest (q : Nat) : (Assembly.rest q).quietLong = decide (320 ≤ q) := by
  simp [Assembly.rest, Assembly.quietLong]

/-- With no edge left to be sampled, the edges of a telegram are whole just when its bits are. -/
theorem wholeEdges_zero {bits : List Bool} (h : wholeBits bits = true) : wholeEdges bits 0 = true := by
  simp only [wholeBits, wholeEdges, Bool.and_eq_true, decide_eq_true_eq, beq_iff_eq] at *
  omega

/-- A beginning of a whole telegram is not whole by its edges while one of them has not come. -/
theorem wholeEdges_take {bits : List Bool} {n k : Nat} (h : wholeBits bits = true) (hn : n + k < bits.length) :
    wholeEdges (bits.take n) k = false := by
  by_contra hc
  simp only [wholeBits, wholeEdges, Bool.not_eq_false, Bool.and_eq_true, decide_eq_true_eq, beq_iff_eq] at h hc
  have hl : (bits.take n).length = n := by simp; omega
  have hd : ((bits.take n).drop 13).take 3 = (bits.drop 13).take 3 := by
    rw [List.drop_take, List.take_take]; congr 1; omega
  rw [hd, hl] at hc
  omega

/-- A series of edges heard in two parts. -/
theorem Assembly.hear_append (a : Assembly) (l m : List LineEdge) :
    a.hear (l ++ m) = (((a.hear l).1.hear m).1, (a.hear l).2 ++ ((a.hear l).1.hear m).2) := by
  induction l generalizing a with
  | nil => simp
  | cons e es ih => simp [Assembly.hear, ih, List.append_assoc]

/-- A telegram begun that is not whole goes on through an edge within its time. -/
theorem Assembly.hear_reading_short {bits : List Bool} {q : Nat} {e : LineEdge} {es : List LineEdge}
    (hb : bits ≠ []) (h : wholeBits bits = false) (he : wholeEdges bits 0 = false) (hq : q + e.quiet < 160) :
    (Assembly.reading bits q).hear (e :: es) = (Assembly.reading (bits ++ [e.read]) 40).hear es := by
  have hu : ¬160 - q ≤ e.quiet := by omega
  simp [Assembly.hear, Assembly.lapse, Assembly.stopIn, Assembly.pass, Assembly.fall, Assembly.sample, h, he, hb, hu]

/-- An edge of a 1 begins nothing. -/
theorem Assembly.hear_absent_one {e : LineEdge} {es : List LineEdge} (q : Nat) (h : e.read = true) :
    (Assembly.absent q).hear (e :: es) = (Assembly.absent 40).hear es := by
  simp [Assembly.hear, Assembly.pass, Assembly.sample, h]

/-- A start pulse begins a telegram. -/
theorem Assembly.hear_absent_zero {e : LineEdge} {es : List LineEdge} (q : Nat) (h : e.read = false) :
    (Assembly.absent q).hear (e :: es) = (Assembly.reading [false] 40).hear es := by
  simp [Assembly.hear, Assembly.pass, Assembly.sample, h]

/-- Bits that assemble to a telegram are whole (R23). -/
theorem wholeBits_of_assemble {bits : List Bool} {f : Frame} (h : assemble bits = some f) : wholeBits bits = true := by
  unfold assemble at h
  split at h
  · rename_i rest
    dsimp only at h
    split at h
    · rename_i hl
      simp only [wholeBits, List.length_cons, List.drop_succ_cons, Bool.and_eq_true, decide_eq_true_eq, beq_iff_eq]
      omega
    · cases h
  · cases h

/-- Bits that are received are whole. -/
theorem wholeBits_of_receive {bits : List Bool} {f : Frame} (h : receive bits = some f) : wholeBits bits = true := by
  unfold receive at h
  split at h
  · cases h
  · exact wholeBits_of_assemble ‹_›

/-- No shorter beginning of whole bits is whole: the header says the length. -/
theorem wholeBits_take {bits : List Bool} {n : Nat} (h : wholeBits bits = true) (hn : n < bits.length) :
    wholeBits (bits.take n) = false := by
  by_contra hc
  simp only [wholeBits, Bool.not_eq_false, Bool.and_eq_true, decide_eq_true_eq, beq_iff_eq] at h hc
  have hl : (bits.take n).length = n := by simp; omega
  have hd : ((bits.take n).drop 13).take 3 = (bits.drop 13).take 3 := by
    rw [List.drop_take, List.take_take]; congr 1; omega
  rw [hd, hl] at hc
  omega

/-! ### The clock's time within a millisecond -/

/-- Time in which nothing happens moves the line's counters and the feed, and nothing else. -/
theorem passTime_eq (t : Nat) (s : State) : passTime t s = { s with
    line := s.line.pass t, lineFeed := ⟨s.lineFeed.left - t, s.lineFeed.held - t, sooner t s.lineFeed.pulses⟩ } := rfl

/-- The end of an assembly moves it and the commands that wait, and nothing else. -/
theorem endAssembly_eq (s : State) : endAssembly s = { s with
    line := { s.line with assembly := .rest s.line.assembly.quiet }
    pending := s.line.assembly.ended.toList.filterMap (arrivalCommand s) } := rfl

/-- A sample moves the line and the commands that wait, and nothing else. -/
theorem takeSample_eq (s : State) : takeSample s = { s with
    line := s.line.sample (!lineDominant s)
    pending := (outcomeCommand (s.setLine (s.line.sample (!lineDominant s)))).toList } := rfl

/-- A begin of pulses moves the line and the feed, and nothing else. -/
theorem beginPulses_eq (s : State) : beginPulses s = { s with
    line := (beginPulses s).line, lineFeed := (beginPulses s).lineFeed } := by
  unfold beginPulses
  dsimp only
  split <;> split <;> rfl

@[simp] theorem sooner_nil (t : Nat) : sooner t [] = [] := rfl

/-- The earlier of two events is one of them, and neither comes before it. -/
theorem earlier_spec {a b : Option (Nat × LineEvent)} {c : Nat × LineEvent} (h : earlier a b = some c) :
    (a = some c ∨ b = some c) ∧ (∀ x, a = some x → c.1 ≤ x.1) ∧ (∀ x, b = some x → c.1 ≤ x.1) := by
  cases a with
  | none => cases b <;> simp_all [earlier]
  | some a => cases b with
    | none => simp_all [earlier]
    | some b =>
      simp only [earlier] at h
      split at h
      · cases h; exact ⟨.inr rfl, fun x hx => by cases hx; omega, fun x hx => by cases hx; omega⟩
      · cases h; exact ⟨.inl rfl, fun x hx => by cases hx; omega, fun x hx => by cases hx; omega⟩

/-- A node that is not transmitting begins no bit. -/
theorem ownBitIn_none {s : State} (h : s.line.inFlight = none) : ownBitIn s = none := by
  simp [ownBitIn, Line.nextBit, h]

/-- A node that may transmit begins the head of its queue. -/
theorem startTransmission_eq {s : State} {e : Queued} {rest : List Queued} (hq : s.line.queue = e :: rest)
    (h : mayTransmit s = true) : startTransmission s = s.setLine { s.line with
      inFlight := some ⟨e.kind, makeFrame e.cls e.kind (lineId s) e.payload, false, []⟩
      assembly := .reading [] 0, samples := [0], driven := pulseWidth false } := by
  simp [startTransmission, hq, h]

/-- A node that may not transmit begins nothing. -/
theorem startTransmission_not {s : State} (h : mayTransmit s = false) : startTransmission s = s := by
  unfold startTransmission
  split
  · rfl
  · simp [h]

end Sys2Proof.Machine
end

