-- ==== Sys2Proof/Laws/Rest.lean ====
section
/-! SUPPORT. What an entry into IDLE and the end of a wait can do, each said once (CameToRest, WentOn). -/

namespace Sys2Proof.Machine

/-- A placement moves the transmit queue and the transmission in progress, and nothing else. -/
theorem place_eq (k : Kind) (cls : Class) (p : List Byte) (s : State) :
    place k cls p s = { s with line := (place k cls p s).line } := by
  unfold place
  split
  · rfl
  · split <;> rfl

/-- The supply left: nothing but the supply and the line moves, and no admission stands. -/
theorem leaveSupply_eq (s : State) : leaveSupply s =
    { s with supply := (leaveSupply s).supply, line := (leaveSupply s).line } := by
  unfold leaveSupply
  split
  case h_1 | h_4 => rfl
  all_goals
    unfold cancelRequest
    split
    · rfl
    · rw [place_eq]; rfl

theorem cancelRequest_admission (s : State) : (cancelRequest s).supply.admission = .none := by
  unfold cancelRequest; split <;> rfl

theorem leaveSupply_admission (s : State) : (leaveSupply s).supply.admission = .none := by
  unfold leaveSupply
  split
  case h_1 h => exact h
  case h_4 => rfl
  all_goals exact cancelRequest_admission s

/-- With the Intent List and the admission in agreement, no own request and no running mark stay. -/
theorem leaveSupply_left {s : State} (h : EntriesLawful s) :
    (leaveSupply s).supply.own = none ∧ (leaveSupply s).supply.running = false := by
  obtain ⟨-, -, -, -, ho, hr⟩ := h
  have own : s.supply.admission = .none ∨ s.supply.admission = .admitted → s.supply.own = none := by
    rintro (h | h) <;> simpa [h] using ho
  have still : s.supply.admission ≠ .admitted → s.supply.running = false := fun h => by simpa [h] using hr
  have cancelled : s.supply.admission ≠ .admitted →
      (cancelRequest s).supply.own = none ∧ (cancelRequest s).supply.running = false := by
    intro h
    unfold cancelRequest
    split
    · exact ⟨rfl, still h⟩
    · rw [place_eq]; exact ⟨rfl, still h⟩
  unfold leaveSupply
  split
  case h_1 h => exact ⟨own (.inl h), still (by simp [h])⟩
  case h_2 h => exact cancelled (by simp [h])
  case h_3 h => exact cancelled (by simp [h])
  case h_4 h => exact ⟨own (.inr h), rfl⟩

/-- The entry into IDLE before its comparison, written out. -/
theorem restInIdle_eq (s : State) : restInIdle s = { s with
    supply := { (leaveSupply s).supply with sagTimer := none }
    line := (leaveSupply s).line
    drive := { s.drive.cleared.unmarked with state := .idle, retry := 0 }
    levels := if acting s = none then s.levels else { s.levels with holdRef := some (position s) }
    pos := { s.pos with crossCheckDl := some (after s.nt 10000) } } := by
  unfold restInIdle
  rw [leaveSupply_eq]
  simp only [moveDrive]
  by_cases h : acting s = none
  · have h' : s.levels.acting = none := h
    simp [acting, h', DriveState.energised]; rfl
  · have h' : ¬s.levels.acting = none := h
    simp [acting, h', DriveState.energised]; rfl

/-! ### What an entry into IDLE keeps -/

theorem restInIdle_disagrees (s : State) : strokeDisagrees (restInIdle s) = strokeDisagrees s := by
  rw [restInIdle_eq]; rfl

theorem restInIdle_suspect (s : State) : suspect (restInIdle s) = suspect s := by rw [restInIdle_eq]; rfl

theorem restInIdle_acting (s : State) : acting (restInIdle s) = acting s := by
  rw [restInIdle_eq]
  show (if acting s = none then s.levels else { s.levels with holdRef := some (position s) }).acting = acting s
  split <;> rfl

theorem restInIdle_admission (s : State) : (restInIdle s).supply.admission = .none := by
  rw [restInIdle_eq]; exact leaveSupply_admission s

theorem suspect_mismatch (s : State) : suspect (putReason .mismatch s) = true := by
  simp [suspect, putReason, Reasons.add, Reasons.any]

/-- With the position suspect every goal formed is closed-seated (R85). -/
theorem formGoal_suspect {s : State} {l : Level} (hl : acting s = some l) (hs : suspect s = true) :
    formGoal s = some ⟨l, .seat⟩ := by
  cases l <;> simp [formGoal, hl, hs]

/-- The stroke sensor is apart, written out. -/
theorem strokeDisagrees_iff (s : State) : strokeDisagrees s = true ↔
    s.cfg.strokeFitted = true ∧ s.pos.referenced = true ∧ s.cfg.mismatch <
      gap (strokePosition s.pins.stroke.toNat s.cfg.closedReading s.cfg.openReading) (position s) := by
  simp [strokeDisagrees, and_assoc]

/-- A request for admission moves the supply and the line, and nothing else. -/
theorem requestAdmission_eq (level : Level) (dir : Dir) (s : State) : requestAdmission level dir s =
    { s with supply := (requestAdmission level dir s).supply, line := (requestAdmission level dir s).line } := by
  unfold requestAdmission
  split
  · rfl
  · unfold announce placeIntent; rw [place_eq]; rfl

/-- What a request brings to a node that is not admitted (R105). -/
theorem requestAdmission_taken {s : State} (hs : s.safe = false) (ha : s.supply.admission ≠ .admitted)
    (level : Level) (dir : Dir) :
    (requestAdmission level dir s).supply.admission = .settling ∧
    (requestAdmission level dir s).supply.own = some (level, dir) ∧
    (requestAdmission level dir s).supply.settleDl = some (after s.nt 250) := by
  simp [requestAdmission, hs, ha, announce]

/-- The drive on its way into WAIT_SLOT, before it asks. -/
theorem moveDrive_waitSlot (d : Drive) (s : State) : moveDrive { d with state := .waitSlot } s = { s with
    drive := { d with state := .waitSlot }
    pos := { s.pos with crossCheckDl := none }, supply := { s.supply with sagTimer := none } } := rfl

/-- An entry into WAIT_SLOT with a goal asks for the supply in its level and direction (R105, R120). -/
theorem enterWaitSlot_requests {s : State} {g : Goal} (hg : s.drive.goal = some g) :
    enterWaitSlot s = requestAdmission g.level (requestDir g s) { s with
      drive := { s.drive.cleared.unmarked with state := .waitSlot }
      pos := { s.pos with crossCheckDl := none }, supply := { s.supply with sagTimer := none } } := by
  unfold enterWaitSlot
  rw [moveDrive_waitSlot]
  dsimp only
  rw [show s.drive.cleared.unmarked.goal = some g from hg]
  rfl

/-- The entry into WAIT_SLOT with a goal, written out. -/
theorem enterWaitSlot_eq {s : State} {g : Goal} (hg : s.drive.goal = some g) : enterWaitSlot s = { s with
    supply := (enterWaitSlot s).supply, line := (enterWaitSlot s).line
    drive := { s.drive.cleared.unmarked with state := .waitSlot }
    pos := { s.pos with crossCheckDl := none } } := by
  rw [enterWaitSlot_requests hg]
  exact requestAdmission_eq _ _ _

/-- What an entry into WAIT_SLOT asks for (R105, R120). -/
theorem enterWaitSlot_asks {s : State} {g : Goal} (hg : s.drive.goal = some g) (hs : s.safe = false)
    (ha : s.supply.admission ≠ .admitted) :
    (enterWaitSlot s).supply.admission = .settling ∧
    (enterWaitSlot s).supply.own = some (g.level, requestDir g s) ∧
    (enterWaitSlot s).supply.settleDl = some (after s.nt 250) := by
  rw [enterWaitSlot_requests hg]
  exact requestAdmission_taken (by exact hs) (by exact ha) _ _

theorem enterWaitSlot_running {s : State} {g : Goal} (hg : s.drive.goal = some g) :
    (enterWaitSlot s).supply.running = s.supply.running := by
  rw [enterWaitSlot_requests hg]
  unfold requestAdmission announce
  split
  · rfl
  · dsimp only [State.setSupply_supply]; rw [placeIntent_supply]

/-- A goal handed at rest: WAIT_SLOT where it needs motion and no controlled stop holds (R120, R138), otherwise it only
becomes the goal in hand. -/
theorem takeGoalAtRest_some (g : Goal) (s : State) : takeGoalAtRest (some g) s =
    if !s.drive.controlledStop && needsMotion g s then enterWaitSlot (s.setDrive { s.drive with goal := some g })
    else s.setDrive { s.drive with goal := some g } := rfl

/-- An entry into IDLE with the sensor in agreement, or apart and noticed by nobody. -/
theorem enterIdle_rests {s : State} (h : strokeDisagrees s = false ∨ suspect s = true ∨ acting s = none) :
    enterIdle s = if strokeDisagrees s then putReason .mismatch (restInIdle s) else restInIdle s := by
  unfold enterIdle compareAtRest
  rw [restInIdle_disagrees, restInIdle_suspect, restInIdle_acting]
  rcases h with h | h | h <;> simp [h]

/-- An entry into IDLE that finds the sensor apart while a level acts hands closed-seated in its name (R151, R85). -/
theorem enterIdle_hands {s : State} {l : Level} (hd : strokeDisagrees s = true) (hs : suspect s = false)
    (hl : acting s = some l) :
    enterIdle s = takeGoalAtRest (some ⟨l, .seat⟩) ((putReason .mismatch (restInIdle s)).setLevels
      { (restInIdle s).levels with handed := some ⟨l, .seat⟩, holdRef := some (position s) }) := by
  have hg : formGoal (putReason .mismatch (restInIdle s)) = some ⟨l, .seat⟩ :=
    formGoal_suspect (by rw [← hl, ← restInIdle_acting s]; rfl) (suspect_mismatch _)
  unfold enterIdle compareAtRest
  rw [restInIdle_disagrees, restInIdle_suspect, restInIdle_acting]
  simp only [hd, hs, hl, handGoalAtRest, recordHanding, hg]
  rw [restInIdle_eq]
  rfl

/-- What an entry into IDLE can do (R85, R86, R110, R111, R127, R129, R151), said once. -/
theorem enterIdle_cameToRest (s : State) : CameToRest s (enterIdle s) := by
  have left := @leaveSupply_left s
  have none' := leaveSupply_admission s
  have held : ∀ h : Option Nat, (if acting s = none then s.levels else { s.levels with holdRef := h }).holdRef =
      if acting s = none then s.levels.holdRef else h := fun h => by split <;> rfl
  by_cases hq : strokeDisagrees s = false ∨ suspect s = true ∨ acting s = none
  · rw [enterIdle_rests hq, restInIdle_eq]
    by_cases ha : strokeDisagrees s = true
    · have ha' := (strokeDisagrees_iff s).1 ha
      have hn : ¬(suspect s = false ∧ acting s ≠ none) := by
        rintro ⟨h, h'⟩; rcases hq with k | k | k <;> simp_all
      rw [if_pos ha]
      refine ⟨rfl, rfl, rfl, rfl, fun h => (left h).2, rfl, ?_, fun _ => rfl, fun h => absurd ha' h, held _, fun _ =>
        ⟨⟨rfl, none', fun h => (left h).1, rfl⟩, rfl, ?_⟩, fun l _ hs hl => absurd ⟨hs, by simp [hl]⟩ hn⟩
      · exact Bool.and_true _
      · show (if acting s = none then s.levels else { s.levels with holdRef := _ }).handed = s.levels.handed
        split <;> rfl
    · have ha' : ¬_ := fun h => ha ((strokeDisagrees_iff s).2 h)
      rw [if_neg ha]
      refine ⟨rfl, rfl, rfl, rfl, fun h => (left h).2, rfl, rfl, fun h => absurd h ha', fun _ => rfl, held _, fun _ =>
        ⟨⟨rfl, none', fun h => (left h).1, rfl⟩, rfl, ?_⟩, fun l h => absurd h ha'⟩
      show (if acting s = none then s.levels else { s.levels with holdRef := _ }).handed = s.levels.handed
      split <;> rfl
  · simp only [not_or, Bool.not_eq_false, Bool.not_eq_true] at hq
    obtain ⟨hd, hs, ha⟩ := hq
    obtain ⟨l, hl⟩ := Option.ne_none_iff_exists'.1 ha
    have apart := (strokeDisagrees_iff s).1 hd
    have noneLeft : ¬(¬(s.cfg.strokeFitted = true ∧ s.pos.referenced = true ∧ s.cfg.mismatch < gap
        (strokePosition s.pins.stroke.toNat s.cfg.closedReading s.cfg.openReading) (position s)) ∨
        suspect s = true ∨ acting s = none) := by simp [apart, hs, hl]
    rw [enterIdle_hands hd hs hl]
    generalize hr : (putReason .mismatch (restInIdle s)).setLevels _ = r
    rw [restInIdle_eq] at hr
    have move : needsMotion ⟨l, .seat⟩ r = needsMotion ⟨l, .seat⟩ s := by rw [← hr]; rfl
    have stop : r.drive.controlledStop = s.drive.controlledStop := by rw [← hr]; rfl
    rw [takeGoalAtRest_some, move, stop]
    by_cases hm : (!s.drive.controlledStop && needsMotion ⟨l, .seat⟩ s) = true
    · obtain ⟨hc, hm'⟩ : s.drive.controlledStop = false ∧ needsMotion ⟨l, .seat⟩ s = true := by simpa using hm
      have hadm : r.supply.admission ≠ .admitted := by rw [← hr]; exact fun h => by cases none'.symm.trans h
      have asks := fun h => enterWaitSlot_asks (s := r.setDrive { r.drive with goal := some ⟨l, .seat⟩ }) rfl h hadm
      have run := enterWaitSlot_running (s := r.setDrive { r.drive with goal := some ⟨l, .seat⟩ }) rfl
      rw [if_pos hm]
      generalize hw : enterWaitSlot _ = w at asks run ⊢
      rw [enterWaitSlot_eq (g := ⟨l, .seat⟩) rfl] at hw
      have hn : r.nt = s.nt ∧ r.safe = s.safe ∧ r.supply.running = (leaveSupply s).supply.running := by
        rw [← hr]; exact ⟨rfl, rfl, rfl⟩
      have hp : w.pos = { s.pos with reasons := s.pos.reasons.add .mismatch, crossCheckDl := none } := by
        rw [← hw, ← hr]; exact congrArg (fun b => ({ s.pos with
          reasons := s.pos.reasons.add .mismatch, crossCheckDl := none, referenced := b } : Tracker)) (Bool.and_true _)
      have hv : w.levels = { r.levels with } := by rw [← hw]; rfl
      have hd : w.drive = { r.drive.cleared.unmarked with state := .waitSlot, goal := some ⟨l, .seat⟩ } := by
        rw [← hw]; rfl
      have marks : w.drive.yieldMark = false ∧ w.drive.heldChange = false ∧ w.drive.heldClose = false := by
        rw [hd]; exact ⟨rfl, rfl, rfl⟩
      have hr' : w.drive.retry = 0 := by rw [hd, ← hr]; rfl
      have hl' : w.levels.holdRef = some (position s) ∧ w.levels.handed = some ⟨l, .seat⟩ := by
        rw [hv, ← hr]; exact ⟨rfl, rfl⟩
      refine ⟨hr', marks.1, marks.2.1, marks.2.2, fun h => ?_, by rw [hp], by rw [hp],
        fun _ => by rw [hp], fun h => absurd apart h, by simp [hl, hl'], fun h => absurd h noneLeft, fun k _ _ hk => ?_⟩
      · exact run.trans (hn.2.2.trans (left h).2)
      · obtain rfl : l = k := Option.some.inj (hl.symm.trans hk)
        refine ⟨by rw [hd], hl'.2, fun h => ?_, fun _ _ => ⟨by rw [hd], by rw [hp], fun h => ?_⟩⟩
        · rcases h with h | h
          · cases h.symm.trans hm'
          · cases h.symm.trans hc
        · have := asks (hn.2.1.trans h)
          exact ⟨this.1, this.2.1, by rw [this.2.2]; exact congrArg _ (congrArg (after · 250) hn.1)⟩
    · rw [if_neg hm, ← hr]
      refine ⟨rfl, rfl, rfl, rfl, fun h => (left h).2, rfl, Bool.and_true _, fun _ => rfl, fun h => absurd apart h,
        by simp [hl], fun h => absurd h noneLeft, fun k _ _ hk => ?_⟩
      obtain rfl : l = k := Option.some.inj (hl.symm.trans hk)
      exact ⟨rfl, rfl, fun _ => ⟨rfl, none', fun h => (left h).1, rfl⟩, fun h h' => absurd (by simp [h, h']) hm⟩

/-- The end of a wait (R131, R132, R137), said once, for a node that is not admitted where its goal needs motion. -/
theorem waitOrIdle_wentOn {s : State}
    (ha : s.supply.admission = .admitted → ∀ g, s.drive.goal = some g → needsMotion g s = false) :
    WentOn s.drive.retry s (waitOrIdle s) := by
  unfold waitOrIdle
  split
  · rename_i hg
    exact ⟨fun g h => (nomatch hg.symm.trans h), fun _ => enterIdle_cameToRest s⟩
  · rename_i g hg
    have one : ∀ {k : Goal}, s.drive.goal = some k → g = k := fun h => Option.some.inj (hg.symm.trans h)
    split
    · rename_i hm
      have hadm : s.supply.admission ≠ .admitted := fun h => by simp [ha h g hg] at hm
      have asks := fun h => enterWaitSlot_asks hg h hadm
      refine ⟨fun k hk _ => ?_, fun h => by simp [h g hg] at hm⟩
      obtain rfl := one hk
      generalize hw : enterWaitSlot s = w at asks ⊢
      rw [enterWaitSlot_eq hg] at hw
      rw [← hw] at asks ⊢
      exact ⟨rfl, hg, rfl, rfl, rfl, rfl, rfl, rfl, rfl, rfl, asks⟩
    · rename_i hm
      exact ⟨fun k hk h => by obtain rfl := one hk; exact absurd h hm, fun _ => enterIdle_cameToRest s⟩

end Sys2Proof.Machine
end

