-- ==== Sys2Proof/Tests/Slice0.lean ====
section
/-! SUPPORT. The model's own tests: ill-formed commands, one step on a small state against the spec's worked figures,
and for each statement a state and operands that meet its hypotheses. -/

namespace Sys2Proof.Tests

open Machine

-- One test is checked before the next is read: read together, they wait for the kernel in one thread each.
set_option Elab.async false

/-! ### States and telegrams for the tests -/

/-- A state with the Retained Record renewed and no open occasion. -/
def settled (s : State) : State := renewRecord (s.setOccasion false)

theorem settled_ready {s : State} (h : s.power = true) : Ready (settled s) := ⟨h, rfl, rfl, rfl⟩

/-- Node 5 of group 1 at rest half open, referenced, 20.5 s after its start. -/
def node : State :=
  { State.reset with
    nt := 20500, listen := false, safe := false
    cfg := { defaultConfig with id := 5, group := 1, weight := 2, windFitted := true, wetFitted := true }
    weather := { State.reset.weather with startWindow := false, anem := .ok }
    pos := { State.reset.pos with count := 2000, referenced := true, reasons := Reasons.empty } }

/-- The node with its drive in a state, a goal in hand and a direction. -/
def driving (st : DriveState) (g : Goal) (dir : Dir) (s : State) : State :=
  s.setDrive { s.drive with state := st, goal := some g, dir := some dir, duty := 230 }

/-- A goal of DEMAND in pm. -/
def toPm (p : Nat) : Goal := ⟨.demand, .pm p⟩

/-- The state after a command. -/
def ran (c : Instr) (s : State) : State := match exec c s with
  | .next t => t
  | _ => s

/-- The bits of a telegram. -/
def sent (cls : Machine.Class) (k : Kind) (src : Nat) (p : List Byte) : List Bool := (makeFrame cls k src p).bits

/-- A REQUEST to node 5 for 300 pm. -/
def requestBits (action : Byte) : List Bool := sent .drive .request 63 [5, action, 1, 44]

/-- A CONFIGURE to node 5. -/
def configureBits (op index value : Byte) : List Bool := sent .routine .configure 63 [5, op, index, 0, value]

/-- An OBSERVE of peer 9: WET, window of façade 4, wind-capable, OK, direction 12, mean 84, gust 210. -/
def observeBits : List Bool := sent .routine .observe 9 [0x94, 0x7C, 0, 84, 0, 210]

/-- The kind, the source and the first two payload bytes that bits spell. -/
def spelt (bits : List Bool) : Option (Nat × Nat × List Byte) :=
  (receive bits).map fun f => (f.kind.toNat, f.source.toNat, f.payload.take 2)

/-- An observation as held. -/
def calm : Observation := ⟨.dry, false, 4, true, .ok, some 12, 84, 210, 20000, true⟩

/-- A peer record. -/
def peer (src : Nat) (keep : Bool) : PeerRecord :=
  ⟨src, keep, 20000, if keep then some calm else none, some ⟨true, 2, if keep then 1 else 7, 20000⟩⟩

/-- A Peer Table of 24 records, the ids 10 to 33, the last of them ORDINARY. -/
def fullTable : List PeerRecord := (List.range 23).map (fun i => peer (i + 10) true) ++ [peer 33 false]

/-! ### Ill-formed commands are refused by WellFormed -/

theorem test_wf_lost : (Instr.transmissionLost []).wf = false ∧
    (Instr.transmissionLost (List.replicate 73 true)).wf = false := by decide +kernel
theorem test_wf_clash : (Instr.identityClash []).wf = false := by decide
theorem test_wf_complete : (Instr.transmissionComplete []).wf = false := by decide
theorem test_wf_arrivals : (Instr.observeArrival (requestBits 0)).wf = false ∧
    (Instr.stateArrival observeBits).wf = false ∧ (Instr.intentArrival observeBits).wf = false ∧
    (Instr.withdrawArrival observeBits).wf = false ∧ (Instr.recordArrival observeBits).wf = false ∧
    (Instr.arrivalNotHandedOn observeBits).wf = false ∧ (Instr.observeArrival []).wf = false ∧
    (Instr.observeArrival observeBits).wf = true := by decide +kernel
theorem test_wf_requests : (Instr.requestOpenTo (requestBits 1)).wf = false ∧
    (Instr.requestClose (requestBits 0)).wf = false ∧ (Instr.requestStop (requestBits 0)).wf = false ∧
    (Instr.requestRelease (requestBits 0)).wf = false ∧ (Instr.requestRestart (requestBits 0)).wf = false ∧
    (Instr.requestStop (requestBits 2)).wf = true := by decide +kernel
theorem test_wf_configures : (Instr.configureOpen (configureBits 1 0 0)).wf = false ∧
    (Instr.configureWrite (configureBits 0 0 0)).wf = false ∧
    (Instr.configureRead (configureBits 0 0 0)).wf = false := by decide +kernel
theorem test_wf_aged : (Instr.intentEntryAged 0).wf = false ∧ (Instr.intentEntryAged 63).wf = false := by decide
theorem test_wf_floor : (Instr.supplyBelowHallFloor 160).wf = false := by decide

/-! ### One step against the spec's figures -/

/-- Figure 1-3, the second window end: 30 edges, shortest period 25. -/
theorem test_window_end : let t := ran (.windowEnd 0) (settled { node with
      nt := 21000
      sensor := { node.sensor with
        count := 30, shortest := some 25, windowBegin := 20000, periodMem := [none, none, some 70]
        gustMem := [0, 0, 84], ring := [0, 0, 0, 0, 0, 0, 0, 84] } })
    (t.sensor.countSpeed, t.sensor.periodSpeed, t.sensor.gust, t.sensor.mean) = (210, 280, 280, 37) := by
  decide +kernel

/-- Figure 1-9, S9: the fourth consecutive WET proposal from DRY. -/
theorem test_grid_sample : let t := ran (.gridSample 2250) (settled { node with
      sensor := { node.sensor with candidate := some .wet, agree := 3 } })
    (t.sensor.wet, t.sensor.candidate, t.sensor.agree) = (.wet, none, 0) := by decide +kernel

/-- R11: sectors 2 and 15 appear as 0011 and 1000. -/
theorem test_gray : graySector 0b0011 = 2 ∧ graySector 0b1000 = 15 := by decide

/-- R6: 86 pulses at the default factor clamp to 600. -/
theorem test_count_speed : countSpeedOf 86 70 = 600 ∧ countSpeedOf 10 70 = 70 := by decide

/-- Figure 4-4 and R65: façade 0 and direction 15; L of 150 at 600 pm. -/
theorem test_exposure : exposureOf (sectorDiff 0 15) = 15 ∧ raisedLimit 150 600 = 210 := by decide

/-- Figure 6-3: id mod 8 of 5, third sag. -/
theorem test_sag_holdoff : sagHoldoff 5 3 = 2400 := by decide

/-- R123: the twenty-second step from 60 by 8 is held at 230 and enters TRAVEL. -/
theorem test_ramp_step : let t := ran .rampStep (settled { driving .ramp (toPm 900) .opening node with
      drive := { (driving .ramp (toPm 900) .opening node).drive with duty := 228, rampStepDl := some 20500 } })
    (t.drive.state, t.drive.duty) = (.travel, 230) := by decide +kernel

/-- R142: 00 to 01 is a step in the open direction, 00 to 10 one in the close direction, 00 to 11 a skip. -/
theorem test_hall : (ran (.hallStep 1) (settled node)).pos.count = 2001 ∧
    (ran (.hallStep 2) (settled node)).pos.count = 1999 ∧ (ran (.hallSkip 3) (settled node)).pos.count = 2000 ∧
    (ran (.hallSkip 3) (settled node)).pos.referenced = false := by decide +kernel

/-- R88: a remote OPEN_TO of 300 pm to a drive at rest asks for the supply. -/
theorem test_open_to : let t := ran (.requestOpenTo (requestBits 0)) (settled node)
    (t.drive.state, t.levels.demandTarget, t.supply.admission) = (.waitSlot, some (.pm 300), .settling) := by
  decide +kernel

/-- R41: an OBSERVE of peer 9 at NT 20,500 sets the isolation deadline to 80,500; Figure 2-9 gives its values. -/
theorem test_observe : let t := ran (.observeArrival observeBits) (settled node)
    t.line.isolationDl = 80500 ∧ t.peers = [⟨9, true, 20500,
      some ⟨.wet, false, 4, true, .ok, some 12, 84, 210, 20500, true⟩, none⟩] := by decide +kernel

/-- R156: OPEN with the key on opens the window for 600 s. -/
theorem test_configure_open : (ran (.configureOpen (configureBits 0 0 0)) (settled { node with
    sensor := { node.sensor with keySettled := some true } })).store.deadline = some 620500 := by decide +kernel

/-- R161: a rise with the loss latch set is a cold start. -/
theorem test_power_up : let t := ran .powerUp { node with
      power := false, retained := { node.retained with lossLatch := true } }
    (t.pos.count, t.pos.reasons.unretained, t.nt) = (0, true, 0) := by decide +kernel

/-- R142, R154, R165: a motor that coasts without supply moves the level at the Hall pins; the start takes it as its
first sample and counts nothing of it. -/
theorem test_coast : let s := ran (.logicSupplyLoss false) (settled node)
    let t := ran .powerUp (ran (.hallStep 1) s)
    let u := ran .powerUp (tick (s.setPinFeed [{ s.pins with hall := 2 }]))
    (t.pos.hall, t.pos.count, oneChannel t.pos.hall 1) = (1, 2000, false) ∧ u.pos.hall = 2 := by decide +kernel

/-- R58, R79: in the safe profile an edge does not move the anemometer state; outside it returns STUCK to OK (R14). -/
theorem test_edge_anem : let s := node.setWeather { node.weather with anem := .stuck }
    (ran .anemometerEdge (settled { s with safe := true })).weather.anem = .stuck ∧
    (ran .anemometerEdge (settled s)).weather.anem = .ok := by decide +kernel

/-- R17, Figure 1-8: the fourth sample below 4,080 in FAULT gives DRY and leaves the clear-run at 4. -/
theorem test_grid_clears : let t := ran (.gridSample 4079) (settled { node with
      sensor := { node.sensor with wet := .fault, clearRun := 3, highRun := 2400 } })
    (t.sensor.wet, t.sensor.clearRun, t.sensor.highRun) = (.dry, 4, 0) := by decide +kernel

/-- R15: the grid is driven with the wet part set, and not with it clear. -/
theorem test_grid_driven : gridDriven node = true ∧ gridDriven State.reset = false ∧
    gridDriven (node.setPower false) = false := by decide

/-- R22, R23: the telegram end, 240 µs after the edge of its last check bit, makes a telegram heard an arrival, at that
instant of the millisecond; an edge 10 µs before it spoils it, one that comes with it begins the next assembly, and at
320 µs from an edge on the line is idle. -/
theorem test_telegram_heard :
    let s := fun pulses : List Pulse => { node with
      served := true, line := { node.line with assembly := .reading observeBits 20 }, lineFeed := ⟨500, 0, pulses⟩ }
    let t := tick (s [])
    (t.pending, t.line.assembly, t.lineFeed.left) = ([.observeArrival observeBits], .absent 240, 280) ∧
    (tick (s [⟨210, 54⟩])).line.assembly = .spoiled 0 ∧
    (let u := tick (s [⟨220, 54⟩, ⟨80, 27⟩])
     let v := tick (u.setPending [])
     (u.pending, u.lineFeed.pulses) = ([.observeArrival observeBits], [⟨0, 54⟩, ⟨80, 27⟩]) ∧
     (v.line.assembly, v.line.samples, (tick v).line.assembly) = (.reading [] 0, [0], .reading [false] 40)) := by
  decide +kernel

/-- R23: a quiet of 160 µs ends a telegram cut short without trace, and a later start pulse begins a new one (of an edge
at the very 160 µs the abandoning comes first, notes/assumptions/4.md). -/
theorem test_telegram_abandoned : (Assembly.reading (observeBits.take 40) 0).hear [⟨160, false⟩, ⟨80, true⟩] =
    (.reading [false, true] 40, []) := by decide +kernel

/-- R24: the check of an empty sequence is all ones, and the check of a telegram detects an inverted bit. -/
theorem test_check : crc [] = 0xFF ∧ receive (observeBits.set 20 (!(observeBits.getD 20 false))) = none := by
  decide +kernel

/-- Figures 2-8 and 2-9: the fields that `observeBits` spells are sent as its payload; a STATE at 500 pm says opening and
running, 2 in group 1, 1 × 256 + 244. Figures 2-6 and 2-7: an INTENT of RAIN to close, a WITHDRAW. -/
theorem test_payloads :
    observePayload { node with
      cfg := { node.cfg with facade := 4 }
      sensor := { node.sensor with wet := .wet, direction := some 12, mean := 84, gust := 210 } } =
      [0x94, 0x7C, 0, 84, 0, 210] ∧
    statePayload (driving .travel (toPm 900) .opening (node.setSupply { node.supply with running := true })) =
      [0x81, 0x21, 1, 244, 0] ∧
    intentPayload .rain .closing 2 1 = [0x40, 0x21] ∧ intentPayload .demand .opening 2 1 = [0xA0, 0x21] ∧
    withdrawPayload 1 = [1] := by decide

/-- Figure 2-16: a REQUEST and a CONFIGURE are dispatched by action or operation to the node they name; RESTART to the id
alone; a telegram that no block takes is handed on to none. -/
theorem test_dispatch :
    let asks := fun b0 action : Byte => sent .drive .request 63 [b0, action, 1, 44]
    arrivalCommand node (asks 5 3) = some (.requestRelease (asks 5 3)) ∧
    arrivalCommand node (asks 0x41 2) = some (.requestStop (asks 0x41 2)) ∧
    arrivalCommand node (asks 63 4) = some (.arrivalNotHandedOn (asks 63 4)) ∧
    arrivalCommand node (asks 6 0) = some (.arrivalNotHandedOn (asks 6 0)) ∧
    arrivalCommand node (configureBits 2 0 0) = some (.configureRead (configureBits 2 0 0)) ∧
    arrivalCommand node (sent .drive .state 5 [0, 0, 0, 0, 0]) = none := by decide +kernel

/-- R155, R163: the factory record is valid and loads its defaults; a field out of its range (weight 5) puts a node
with id 7 and stroke 5,000 in the safe profile, with the id 0 and that stroke. -/
theorem test_load :
    let bad := ((State.reset.stored.set 0 (encodeField 7)).set 3 (encodeField 5)).set 15 (encodeField 5000)
    loadConfig State.reset.stored = (defaultConfig, true) ∧
    (loadConfig (State.reset.stored.set 0 (encodeField 7))).2 = false ∧
    (let c := loadConfig bad; (c.1.id, c.1.weight, c.1.stroke, c.2) = (0, 1, 5000, true)) := by decide +kernel

/-- R163: the end of LISTEN in the safe profile begins the safe seat's warning of 3,000 ms. -/
theorem test_listen_end_safe : (ran .listenEnd (settled { State.reset with nt := 2000 })).drive.warningDl = some 5000 := by
  decide +kernel

/-! ### Witnesses: the hypotheses of each statement are met, clause by clause -/

/-- The node with an energised drive, 20 s into its move. -/
def moving : State := settled { driving .travel (toPm 900) .opening node with
  supply := { node.supply with admission := .admitted, running := true }
  pos := { node.pos with crossCheckDl := none } }

/-- A queued telegram of a kind. -/
def queued (k : Kind) : Queued := ⟨k, .drive, [0], 20000, false⟩

/-- A transmission in progress of a kind. -/
def flight (k : Kind) : InFlight := ⟨k, makeFrame .drive k 5 (List.replicate k.payloadBytes 0xFF), false, []⟩

/-- The node with a queue and a transmission in progress. -/
def sending (q : List Queued) (f : Option InFlight) : State :=
  settled (node.setLine { node.line with queue := q, inFlight := f, assembly := .absent 320 })

/-- The node with a STATE in transmission: so many of its bits read back, so many µs after the last edge and so many from
the end of the node's own pulse, with edges still to be sampled, and what the other stations do. -/
def midway (n q driven : Nat) (samples : List Nat) (feed : LineFeed) : State :=
  let bits := (flight .state).frame.bits.take n
  let s := sending [queued .state] (some { flight .state with read := bits })
  { s with
    served := true, lineFeed := feed
    line := { s.line with assembly := .reading bits q, samples := samples, driven := driven } }

/-- R27, Figure 2-14: the clock begins a queued telegram on an idle line at once, and finds the idle line 320 µs after
the last edge; an edge of another station before then makes it wait; the start pulse, a 0, is driven and to be sampled. -/
theorem test_clock_begins :
    let s := { sending [queued .state] none with served := true }
    let w := fun pulses : List Pulse => tick ({ s with
      line := { s.line with assembly := .absent 100 }, lineFeed := ⟨500, 0, pulses⟩ })
    (tick s).pending = [.transmissionStart] ∧ (tick (s.setListen true)).pending = [] ∧
    ((w []).line.assembly, (w []).lineFeed.left, mayTransmit (w [])) = (.absent 320, 280, true) ∧
    (w [⟨219, 27⟩]).line.assembly = .reading [] 0 ∧
    (let l := (ran .transmissionStart s).line
     (l.assembly, l.samples, l.driven) = (.reading [] 0, [0], 54)) := by decide +kernel

/-- R21, R22, R28, R34, Figures 2-1 and 2-14: the own first class bit, a 1 of class DRIVE, falls 80 µs after the start edge
and holds the line for a third of its period; 40 µs later it reads 1; while another station still holds the line it reads
0 and the contest is lost; the sample of the last bit completes the transmission, in the next millisecond where its 40 µs
reach into it. -/
theorem test_own_bits :
    let one := tick (midway 1 40 14 [] ⟨500, 0, []⟩)
    let lost := tick (midway 1 0 27 [0] ⟨500, 54, [⟨80, 27⟩]⟩)
    let late := tick (midway 63 0 27 [0] ⟨40, 0, []⟩)
    (one.line.assembly, one.line.samples, one.line.driven, one.lineFeed.left) = (.reading [false] 0, [0], 27, 460) ∧
    ((tick one).line.assembly, (tick one).pending, (tick one).lineFeed.left) = (.reading [false, true] 40, [], 420) ∧
    (lost.line.assembly, lost.pending, lost.lineFeed) =
      (.reading [false, false] 40, [.transmissionLost [false, false]], ⟨460, 14, [⟨40, 27⟩]⟩) ∧
    (tick (tick (midway 63 40 0 [] ⟨500, 0, []⟩))).pending = [.transmissionComplete (flight .state).frame.bits] ∧
    (late.nt, late.pending, (tick (late.setServed true)).pending.length) = (20501, [], 1) := by decide +kernel

/-- R21, Figure 2-1: another station's edge 45 µs after the node's own edge is hidden by an own 0, which holds the line for
53.3 µs, and only holds the line longer; one 30 µs after an own 1 is seen, and begins the own next bit, a 0. -/
theorem test_edges_align :
    let hidden := tick (midway 1 40 14 [] ⟨500, 0, [⟨5, 54⟩]⟩)
    let seen := tick (midway 1 0 27 [0] ⟨500, 0, [⟨30, 54⟩]⟩)
    (hidden.line.assembly, hidden.line.samples, hidden.lineFeed) = (.reading [false] 45, [], ⟨495, 54, []⟩) ∧
    (seen.line.assembly, seen.line.samples, seen.line.driven) = (.reading [false] 0, [30, 0], 54) := by decide +kernel

theorem witness_StepTakesTheFrontCommand : (node.setPending [.listenEnd]).pending = [.listenEnd] := rfl

theorem witness_ClockIssuesThenAdvances :
    node.pending = [] ∧ node.served = false ∧ node.power = true ∧ restartReady node = false ∧
    (node.setServed true).served = true ∧ (node.setPower false).power = false ∧
    mayTransmit node = false ∧ mayTransmit (sending [queued .state] none) = true ∧ nextEvent node = none ∧
    nextEvent (midway 64 40 14 [] ⟨500, 0, []⟩) = some (200, .stop) ∧
    nextEvent (midway 64 40 14 [] ⟨500, 0, [⟨199, 27⟩]⟩) = some (199, .begin) ∧
    nextEvent (midway 1 0 27 [0] ⟨500, 0, [⟨40, 27⟩]⟩) = some (40, .sample) ∧
    nextEvent (midway 1 40 14 [] ⟨500, 0, [⟨5, 54⟩]⟩) = some (5, .begin) ∧
    nextEvent (midway 1 0 27 [0] ⟨40, 0, []⟩) = some (40, .sample) ∧
    restartReady (node.setDrive { node.drive with controlledStop := true }) = true ∧
    moving.drive.state.energised = true ∧ node.drive.state.energised = false ∧ moving.safe = false ∧
    (ran .listenEnd (moving.setPins { moving.pins with supply := 189, current := 301 })).pins.supply < moving.cfg.sagThreshold ∧
    moving.cfg.sagThreshold ≤ moving.pins.supply ∧
    due (moving.nt + 1) moving.drive.checkStart = false ∧ due (20501 : Time) (some 20501) = true ∧
    currentLimit moving < 301 ∧ moving.pins.current ≤ currentLimit moving := by decide +kernel

theorem witness_StepKeepsTheLaws : ReadyWhilePowered (settled node) ∧ LevelsLawful node ∧ QueueLawful node ∧
    PeersLawful (node.setPeers [peer 9 true]) ∧ EntriesLawful node ∧ CountInBounds node ∧ RetryBounded node ∧
    DriveTimed node ∧ DriveSounded node ∧ SafeSeatLawful node ∧ SafeSeatLawful State.reset ∧
    (∃ t, step node = .next t) := by
  refine ⟨fun _ => settled_ready rfl, ?_, ?_, ?_, ?_, ?_, ?_, ?_, rfl, ?_, ?_, ⟨_, rfl⟩⟩
  · unfold LevelsLawful; decide
  · unfold QueueLawful; decide
  · unfold PeersLawful recordLawful; decide
  · unfold EntriesLawful; decide
  · unfold CountInBounds; decide
  · unfold RetryBounded; decide
  · exact ⟨trivial, by decide⟩
  · unfold SafeSeatLawful; decide
  · unfold SafeSeatLawful; decide

theorem witness_BridgeNeverShootsThrough : energised node = false ∧ energised moving = true ∧
    moving.drive.dir = some .opening ∧ (driving .seating (toPm 1) .closing node).drive.dir = some .closing ∧
    energised (driving .seating (toPm 1) .closing node) = true ∧ (node.setPower false).power = false ∧
    (driving .stopping (toPm 1) .closing node).drive.state = .stopping := by decide

/-- The node in WARNING with its deadline passed. -/
def warned : State := settled { driving .warning (toPm 900) .opening node with
  drive := { (driving .warning (toPm 900) .opening node).drive with warningDl := some 20500 }
  pos := { node.pos with crossCheckDl := none } }

theorem witness_NoMotionWithoutWarningOrBraking :
    energised moving = true ∧ energised (ran .listenEnd moving) = true ∧ energised warned = false ∧
    energised (ran .warningDeadline warned) = true ∧
    (let s := settled { moving with supply := { moving.supply with sagTimer := some 20450 } }
     SafeSeatLawful s ∧ energised s = true ∧ energised (ran .sag s) = false ∧ (ran .sag s).power = true) := by
  unfold SafeSeatLawful
  decide +kernel

theorem witness_ChangedReportIsQueued : let t := ran (.requestOpenTo (requestBits 0)) (settled node)
    reportedFields t ≠ reportedFields (settled node) ∧ refusesPlacement .state t = false := by decide +kernel

theorem witness_ConfigurationChangesOnlyAtStartsAndWrites :
    let busy := node.setStore ⟨true, some 620500, some ⟨1, 2, 20530⟩, false⟩
    Instr.listenEnd ≠ .powerUp ∧ Instr.listenEnd ≠ .restartStart ∧
    (∀ torn, Instr.listenEnd ≠ .logicSupplyLoss torn) ∧ (∀ value check, Instr.listenEnd ≠ .writeComplete value check) ∧
    node.store.writing = none ∧ (∀ w, busy.store.writing = some w → w.index ≠ 2) :=
  ⟨nofun, nofun, fun _ => nofun, fun _ _ => nofun, rfl, by decide⟩

theorem witness_SendingAndReceivingAgree :
    ([1, 2] : List Byte).length = Kind.intent.payloadBytes ∧ (receive observeBits).isSome = true ∧
    (∀ e ∈ [(⟨500, true⟩ : LineEdge)], e.read = true) ∧
    (List.replicate observeBits.length 119).length = observeBits.length ∧
    (∀ g ∈ List.replicate observeBits.length 119, g < 120) ∧ 1 < observeBits.length ∧
    (⟨199, false⟩ : LineEdge).quiet < 200 ∧ (⟨279, false⟩ : LineEdge).quiet < 280 ∧
    node.cfg.weight ≤ 15 ∧ node.cfg.group ≤ 15 ∧ node.drive.retry ≤ 15 ∧ node.cfg.facade ≤ 15 ∧
    (∀ d ∈ (node.setSensor { node.sensor with direction := some 15 }).sensor.direction, d ≤ 15) := by decide +kernel

theorem witness_OneWrongBitIsNeverReceived :
    (receive ((observeBits.take 20) ++ observeBits.getD 20 false :: observeBits.drop 21)).isSome = true := by
  decide +kernel

theorem witness_LowerArbitrationFieldWins :
    (makeFrame .storm .observe 5 []).arbitration < (makeFrame .drive .state 1 []).arbitration := by decide

theorem witness_TransmissionBeginsWithTheQueueHead :
    (Ready (sending [queued .state] none) ∧ (sending [queued .state] none).line.inFlight = none ∧
      lineIdle (sending [queued .state] none) = true ∧
      refusesPlacement .state (sending [queued .state] none) = false) ∧
    (Ready (sending [] none) ∧ (sending [] none).line.queue = [] ∧
      (sending [] (some (flight .state))).line.inFlight.isSome = true ∧ lineIdle (midway 1 0 54 [0] ⟨500, 0, []⟩) = false ∧
      refusesPlacement .state (State.reset.setLine { State.reset.line with queue := [queued .state] }) = true) ∧
    (let w := { sending [queued .state] none with served := true, lineFeed := ⟨2, 0, [⟨1, 27⟩]⟩ }
     let b := { w with line := { w.line with assembly := .absent 319 } }
     let held := { w with lineFeed := ⟨2, 1, [⟨1, 27⟩]⟩ }
     w.pending = [] ∧ w.served = true ∧ w.drive.controlledStop = false ∧ w.line.inFlight = none ∧ w.line.samples = [] ∧
     (∀ p ∈ w.lineFeed.pulses.head?, 1 ≤ p.wait) ∧ nextEvent b = some (1, .stop) ∧ mayTransmit b = false ∧
     nextEvent held = some (1, .stop) ∧ lineIdle held = false) :=
  ⟨⟨settled_ready rfl, rfl, rfl, rfl⟩, ⟨settled_ready rfl, rfl, rfl, rfl, rfl⟩, by decide +kernel⟩

theorem witness_PlacementIsRefusedReplacesOrJoins :
    refusesPlacement .state State.reset = true ∧ refusesPlacement .state node = false ∧
    node.line.queue.filter (fun e => e.kind == .state) = [] ∧
    (sending [queued .state] none).line.queue.filter (fun e => e.kind == .state) = [queued .state] := by decide

theorem witness_TransmissionEndsLostOrComplete :
    Ready (sending [queued .state] (some (flight .state))) ∧ (flight .state).frame.bits[0]? = some false ∧
    (flight .state).frame.bits[1]? = some true ∧ (flight .state).frame.bits[12]? = some true ∧
    (flight .state).frame.bits[2]? = some false ∧
    (let m := midway 1 40 14 [] ⟨500, 0, [⟨13, 54⟩]⟩
     let f := { flight .state with read := [false] }
     m.power = true ∧ m.pending = [] ∧ m.served = true ∧ m.drive.controlledStop = false ∧ m.line.inFlight = some f ∧
     m.line.assembly = .reading [false] 40 ∧ m.line.samples = [] ∧ wholeEdges [false] 0 = false ∧
     f.frame.bits[f.read.length]? = some true ∧ 13 < m.line.driven ∧ 40 + 13 < 80) ∧
    (let m := midway 1 40 14 [] ⟨500, 14, [⟨14, 54⟩]⟩
     m.line.driven ≤ 14 ∧ m.lineFeed.held ≤ 14 ∧ 14 < m.lineFeed.left) ∧
    (let m := midway 1 0 27 [0] ⟨41, 40, [⟨40, 54⟩]⟩
     m.line.samples = [0] ∧ m.line.assembly = .reading [false] 0 ∧ wholeBits [false] = false ∧
     40 - 0 < m.lineFeed.left ∧ m.line.driven + 0 ≤ 40 ∧ m.lineFeed.held + 0 ≤ 40) :=
  ⟨settled_ready rfl, by decide +kernel⟩

theorem witness_IdentityClashIsRecorded :
    Ready (sending [queued .state] (some (flight .state))) ∧ (flight .state).frame.bits[13]? = some true ∧
    ((sending [] none).line.clashes.filter (fun t => decide (age 20500 t ≤ 60000)) ++ [(20500 : Time)]).length < 3 ∧
    3 ≤ (([20000, 20100] : List Time).filter (fun t => decide (age 20500 t ≤ 60000)) ++ [(20500 : Time)]).length :=
  ⟨settled_ready rfl, by decide +kernel⟩

theorem witness_WithdrawAndIntentCancelEachOther :
    let a := sending [queued .intent] (some (flight .intent))
    let b := sending [queued .withdraw] (some (flight .withdraw))
    QueueLawful a ∧ QueueLawful b ∧ QueueLawful node ∧ refusesPlacement .withdraw a = false ∧
    refusesPlacement .intent b = false ∧ a.line.holds .intent = true ∧ a.line.flying .intent = true ∧
    b.line.flying .withdraw = true ∧ b.line.queue.filter (fun x => x.kind == .intent) = [] ∧
    a.line.queue.filter (fun x => x.kind == .intent) = [queued .intent] ∧
    a.line.queue.filter (fun x => x.kind == .withdraw) = [] ∧
    b.line.queue.filter (fun x => x.kind == .withdraw) = [queued .withdraw] ∧
    (b.setLine { b.line with intentSent := true }).line.intentSent = true := by
  unfold QueueLawful; decide

theorem witness_DiscardedTelegramAndEchoLeaveNoTrace :
    Ready (settled node) ∧ receive [] = none ∧ (Instr.observeArrival []).arrivalBits = some [] ∧
    (receive (sent .routine .record 5 [0, 0, 0, 0, 0])).map (fun f => f.source.toNat) = some (lineId node) :=
  ⟨settled_ready rfl, by decide +kernel⟩

theorem witness_ArrivalsAndTheDeadlineGovernIsolation :
    Ready (settled node) ∧ (Instr.observeArrival observeBits).wf = true ∧
    (receive observeBits).map (fun f => f.source.toNat) = some 9 ∧ lineId node = 5 ∧
    (receive (sent .routine .record 9 [0, 0, 0, 0, 0])).map (fun f => f.kind) = some Kind.record.code ∧
    (receive (sent .drive .request 63 [6, 0, 0, 0])).map (fun f => (f.kind, handedOn f node)) =
      some (Kind.request.code, false) ∧
    (receive (sent .drive .configure 63 [6, 0, 0, 0, 0])).map (fun f => (f.kind, handedOn f node)) =
      some (Kind.configure.code, false) ∧
    node.line.isolated = false ∧ passed (60000 : Time) node.line.isolationDl = true ∧
    passed (59999 : Time) node.line.isolationDl = false := ⟨settled_ready rfl, by decide +kernel⟩

theorem witness_ArrivalsAndTheDeadlineGovernIsolation_dispatch : receive (observeBits.take 40) = none ∧
    spelt (requestBits 4) = some (5, 63, [5, 4]) ∧ spelt (configureBits 2 0 0) = some (6, 63, [5, 2]) ∧
    spelt (sent .drive .request 63 [63, 3, 0, 0]) = some (5, 63, [63, 3]) ∧
    spelt (sent .drive .request 63 [0x41, 5, 0, 0]) = some (5, 63, [0x41, 5]) ∧
    spelt (sent .drive .configure 63 [6, 3, 0, 0, 0]) = some (6, 63, [6, 3]) ∧
    (0x41 : Byte).toNat / 64 = 1 ∧ (0x41 : Byte).toNat % 64 = node.cfg.group := by decide +kernel

theorem witness_ObservesArePlacedAtTheirDeadlines :
    Ready (settled node) ∧ node.safe = false ∧ passed node.nt node.weather.periodicDl = true ∧
    refusesPlacement .observe node = false ∧ refusesPlacement .observe (node.setListen true) = true ∧
    node.weather.firstPeriodic = true ∧ due node.nt (some 20500) = true ∧ due node.nt (some 20501) = false ∧
    node.weather.deferred = none ∧ lowerClass .storm (some .rain) = .storm :=
  ⟨settled_ready rfl, by decide +kernel⟩

theorem witness_AcceptedEdgeIsCounted : let s := settled { node with sensor := { node.sensor with windowBegin := 20000 } }
    Ready s ∧ Ready (settled State.reset) ∧ State.reset.cfg.windFitted = false ∧ s.cfg.windFitted = true ∧
    s.sensor.prevEdge ≠ some s.nt ∧ s.nt.toNat / 1000 = s.sensor.windowBegin.toNat / 1000 :=
  ⟨settled_ready rfl, settled_ready rfl, by decide⟩

/-- The node at the end of its twenty-first second. -/
def atWindow : State := settled { node with nt := 21000, sensor := { node.sensor with windowBegin := 20000 } }

theorem witness_WindowEndFormsTheWind : atWindow.power = true ∧ windowEnds atWindow = true ∧
    atWindow.cfg.windFitted = true ∧ atWindow.sensor.vane.length ≤ 3 ∧
    (∀ o ∈ (ran (.windowEnd 0) atWindow).sensor.periodMem, o = none) ∧
    some 25 ∈ (ran (.windowEnd 0) (atWindow.setSensor { atWindow.sensor with shortest := some 25 })).sensor.periodMem ∧
    (ran (.windowEnd 0) (atWindow.setSensor { atWindow.sensor with vane := [1, 1] })).sensor.vane = [1, 1, 0] ∧
    (ran (.windowEnd 0) (atWindow.setSensor { atWindow.sensor with vane := [2, 1] })).sensor.vane = [2, 1, 0] ∧
    sectorDiff 1 0 ≤ 1 ∧ 1 < sectorDiff 2 0 := by decide +kernel

theorem witness_WindowEndJudgesTheAnemometer : Ready atWindow ∧ Ready (settled { State.reset with nt := 1000 }) ∧
    windowEnds atWindow = true ∧ atWindow.cfg.windFitted = true ∧ windowEnds { State.reset with nt := 1000 } = true ∧
    State.reset.cfg.windFitted = false ∧ State.reset.safe = true :=
  ⟨settled_ready rfl, settled_ready rfl, by decide⟩

theorem witness_GridSampleMovesTheWetState : Ready (settled node) ∧ Ready (settled State.reset) ∧
    State.reset.cfg.wetFitted = false ∧ gridDue node = true ∧ node.sensor.wet ≠ .fault ∧
    (2399 + 1 ≥ 2400 ∧ 4080 ≤ (4095 : BitVec 12).toNat) ∧ node.weather.holdoffDl = none ∧
    refusesPlacement .observe node = false ∧
    (ran (.gridSample 2250) (settled { node with sensor := { node.sensor with candidate := some .wet, agree := 3 } })).sensor.wet
      ≠ node.sensor.wet ∧
    (ran (.gridSample 0) (settled { node with sensor := { node.sensor with wet := .fault, clearRun := 3 } })).sensor.wet = .dry :=
  ⟨settled_ready rfl, settled_ready rfl, by decide +kernel⟩

theorem witness_ButtonsSettleAndPressesDemand :
    let s := settled { node with sensor := { node.sensor with
      openButton := ⟨some false, 4, false⟩, closeButton := ⟨some false, 4, false⟩ } }
    let pursuing := fun (st : DriveState) (c : Continuation) => settled { driving st (toPm 900) .opening s with
      cfg := { s.cfg with strokeFitted := true }
      drive := { (driving st (toPm 900) .opening s).drive with continuation := some c, retry := 2 }
      levels := { s.levels with demand := .acting, demandTarget := some (.pm 900), handed := some (toPm 900) } }
    (∀ st c, Ready (pursuing st c) ∧ LevelsLawful (pursuing st c) ∧ buttonsDue (pursuing st c) = true ∧
      (pursuing st c).levels.demand = .acting ∧ (pursuing st c).supply.admission = .none ∧
      suspect (pursuing st c) = false ∧ position (pursuing st c) = 500 ∧ 500 ≤ (pursuing st c).cfg.maxOpen ∧
      (pursuing st c).drive.controlledStop = false ∧ (pursuing st c).drive.goal ≠ some ⟨.demand, .pm 500⟩ ∧
      (pursuing st c).cfg.strokeFitted = true ∧ (pursuing st c).drive.state = st ∧
      (pursuing st c).drive.continuation = some c ∧ (pursuing st c).sensor.closeButton.run = 4) ∧
    Ready s ∧ LevelsLawful s ∧ s.safe = false ∧ State.reset.safe = true ∧ buttonsDue s = true ∧
    buttonsDue State.reset = true ∧ s.sensor.openButton.settled = some false ∧ s.sensor.openButton.run = 4 ∧
    s.sensor.closeButton.run = 4 ∧ mayAct s = true ∧ s.levels.storm = .quiet ∧ s.levels.rain = .quiet ∧
    node.sensor.openButton.settled ≠ some true ∧ node.sensor.openButton.run < 4 := by
  refine ⟨fun st c => ⟨settled_ready rfl, ?_, ?_⟩, settled_ready rfl, ?_, ?_⟩
  · unfold LevelsLawful; exact ⟨rfl, rfl, rfl⟩
  · exact ⟨(by decide : buttonsDue node = true), rfl, rfl, rfl, (by decide : position node = 500),
      Nat.le_of_ble_eq_true rfl, rfl, nofun, rfl, rfl, rfl, rfl⟩
  · unfold LevelsLawful; decide
  · decide

/-- The uncommissioned node after LISTEN with its safe seat in a phase and its key settled. -/
def safeNode (ph : SafePhase) (st : DriveState) (key : Option Bool) : State := settled { State.reset with
  nt := 20500, listen := false
  drive := { State.reset.drive with state := st, safePhase := ph }
  sensor := { State.reset.sensor with keySettled := key, keyRun := 19 } }

/-- R163: a key-on ends the safe seat's warning, and the next key-off begins it again. -/
theorem test_safe_seat_key :
    let t := ran (.keySample true) (safeNode .warning .warning none)
    let u := ran (.keySample false) (safeNode .notBegun .idle (some true))
    (t.drive.state, t.drive.safePhase) = (.idle, .notBegun) ∧
    (u.drive.state, u.drive.safePhase, u.drive.warningDl) = (.warning, .warning, some 23500) := by decide +kernel

theorem witness_KeyTurnsServiceHold :
    let s := fun (k : Option Bool) (run : Nat) => settled { node with sensor := { node.sensor with keySettled := k, keyRun := run } }
    (∀ k run, Ready (s k run)) ∧ LevelsLawful (s none 0) ∧ keyDue (s (some true) 19) = true ∧
    keyDue (s none 19) = true ∧ node.store.writing = none ∧
    (let b := settled ((s (some true) 19).setStore ⟨true, some 30000, some ⟨1, 2, 20530⟩, false⟩)
     Ready b ∧ LevelsLawful b ∧ keyDue b = true ∧ b.store.isOpen = true ∧ b.store.writing.isSome = true) ∧
    keyDue (safeNode .seating .seating none) = true ∧ keyDue (safeNode .ended .idle (some true)) = true ∧
    (∀ ph st key, Ready (safeNode ph st key) ∧ LevelsLawful (safeNode ph st key) ∧
      (safeNode ph st key).safe = true ∧ (safeNode ph st key).listen = false ∧
      (safeNode ph st key).drive.controlledStop = false ∧ (safeNode ph st key).drive.safePhase = ph ∧
      (safeNode ph st key).drive.state = st ∧ (safeNode ph st key).sensor.keySettled = key) := by
  refine ⟨fun _ _ => settled_ready rfl, ?_, by decide, by decide, rfl,
    ⟨settled_ready rfl, ?_, by decide, rfl, rfl⟩, by decide, by decide,
    fun _ _ _ => ⟨settled_ready rfl, ?_, ?_⟩⟩
  · unfold LevelsLawful; decide
  · unfold LevelsLawful; decide
  · unfold LevelsLawful; exact ⟨rfl, rfl, rfl⟩
  · exact ⟨rfl, rfl, rfl, rfl, rfl, rfl⟩

theorem witness_ObserveRenewsCreatesOrEvicts :
    let s := settled (node.setPeers fullTable)
    Ready s ∧ Ready (settled node) ∧ PeersLawful s ∧
    (receive observeBits).map (fun f => (f.kind, f.source.toNat, (observationOf f.payload 0).windCapable)) =
      some (Kind.observe.code, 9, true) ∧ lineId s = 5 ∧ s.peers.length = 24 ∧
    (∀ r ∈ s.peers, r.source ≠ 9) ∧ (∃ r ∈ s.peers, r.keep = false) ∧
    (∀ r ∈ s.peers, r.keep = false → r = peer 33 false) ∧ node.peers.length < 24 ∧
    (∃ r ∈ (node.setPeers [peer 9 true]).peers, r.source = 9) ∧
    (∀ r ∈ (fullTable.take 23 ++ [peer 34 true]), r.keep = true) := by
  refine ⟨settled_ready rfl, settled_ready rfl, ?_, by decide +kernel⟩
  unfold PeersLawful recordLawful
  decide +kernel

/-- The node WAITING for a supply of a budget, the running peer 9 of weight 2 and its own weight of 2 in the load. -/
def waiting (budget : Nat) : State := settled { driving .waitSlot (toPm 900) .opening node with
  cfg := { node.cfg with budget := budget }
  peers := [⟨9, false, 20000, none, some ⟨true, 2, 1, 20000⟩⟩]
  supply := { node.supply with
    entries := [⟨5, .demand, .opening, 2, 20250, true⟩], own := some (.demand, .opening), admission := .waiting } }

theorem witness_StateRenewsTheRunningMark :
    let s := settled (node.setPeers [peer 9 true])
    Ready s ∧
    (∀ budget, Ready (waiting budget) ∧ (waiting budget).supply.admission = .waiting ∧
      (∃ r ∈ (waiting budget).peers, r.source = 9)) ∧
    (let u := settled (node.setPeers fullTable)
     Ready u ∧ PeersLawful u ∧ u.peers.length = 24 ∧ (∀ r ∈ u.peers, r.source ≠ 9) ∧ u.safe = false ∧
     u.cfg.group = 1 ∧ (∀ r ∈ u.peers, r.keep = false → r = peer 33 false) ∧ peer 33 false ∈ u.peers) ∧
    s.supply.admission ≠ .waiting ∧ (∃ r ∈ s.peers, r.source = 9) ∧
    (receive (sent .drive .state 9 [1, 0x21, 0, 0, 0])).map (fun f => (f.kind, f.source.toNat)) =
      some (Kind.state.code, 9) ∧
    loadOf (waiting 16) ≤ (waiting 16).cfg.budget ∧ (waiting 3).cfg.budget < loadOf (waiting 3) ∧
    (receive (sent .drive .state 9 [1, 0x22, 0, 0, 0])).isSome = true := by
  refine ⟨settled_ready rfl, fun _ => ⟨settled_ready rfl, rfl, _, .head _, rfl⟩, ⟨settled_ready rfl, ?_, by decide⟩,
    by decide +kernel⟩
  unfold PeersLawful recordLawful
  decide +kernel

/-- R121, R124: an admission with a warning time of 0 enters RAMP directly; from 10 qs below the target count the
position tests lead on to APPROACH at once, and a suspect position brakes. -/
theorem test_unwarned_admission :
    let s := fun w : State => settled { w with cfg := { w.cfg with warnTime := 0 } }
    let run := fun w : State => (ran (.withdrawArrival (sent .drive .withdraw 9 [1])) (s w)).drive
    (run (waiting 16)).state = .ramp ∧ (run (waiting 16)).duty = (waiting 16).cfg.startDuty ∧
    (run { waiting 16 with pos := { node.pos with count := 3590 } }).state = .approach ∧
    (run { waiting 16 with pos := { node.pos with reasons := Reasons.empty.add .hallSkip } }).state = .stopping := by
  decide +kernel

/-- R47, R48: a STATE of the node's group evicts the ORDINARY record from a full table; one of another group is not
taken, and its sender's running does not stay. -/
theorem test_state_into_full_table : let s := settled (node.setPeers fullTable)
    let t := ran (.stateArrival (sent .drive .state 9 [1, 0x21, 0, 0, 0])) s
    let u := ran (.stateArrival (sent .drive .state 9 [1, 0x22, 0, 0, 0])) s
    t.peers.length = 24 ∧ t.peers.head? = some ⟨9, true, 20500, none, some ⟨true, 2, 1, 20500⟩⟩ ∧
    (∀ r ∈ t.peers, r.source ≠ 33) ∧ u.peers = s.peers := by decide +kernel

theorem witness_ScanAgesTheTable : Ready (settled node) ∧ node.nt.toNat % 1000 = 500 ∧
    node.supply.admission ≠ .waiting ∧
    (let w := settled ((waiting 3).setPeers [⟨9, false, 12000, none, some ⟨true, 2, 1, 12000⟩⟩])
     Ready w ∧ w.supply.admission = .waiting ∧ w.nt.toNat % 1000 = 500 ∧
     (∃ r ∈ w.peers, ∃ p, r.st = some p ∧ p.running = true ∧ 7000 < age w.nt p.stateAt) ∧
     (ran .peerScan w).supply.admission = .admitted) :=
  ⟨settled_ready rfl, by decide, by decide, settled_ready rfl, rfl, rfl,
    ⟨_, .head _, _, rfl, rfl, by decide⟩, by decide +kernel⟩

theorem witness_TheTick : LevelsLawful atWindow ∧ PeersLawful (atWindow.setPeers [peer 9 true]) ∧
    atWindow.power = true ∧ atWindow.safe = false ∧ windowEnds atWindow = true ∧
    (ran (.windowEnd 0) atWindow).weather.anem = .ok ∧
    (ran (.windowEnd 0) { atWindow with cfg := { atWindow.cfg with windFitted := false } }).weather.anem ≠ .ok ∧
    (calm.fresh = true ∧ calm.windCapable = true ∧ calm.anem = .ok) ∧ refusesPlacement .observe atWindow = false ∧
    atWindow.weather.holdoffDl = none ∧ atWindow.weather.prevGust < atWindow.cfg.stormLimit ∧
    (ran (.windowEnd 0) (atWindow.setSensor { atWindow.sensor with wet := .wet })).levels.rain = .acting := by
  refine ⟨?_, ?_, ?_⟩
  · unfold LevelsLawful; decide
  · unfold PeersLawful recordLawful; decide
  · decide +kernel

theorem witness_QuietDeadlinesClearTheWeatherLevels :
    let s := settled { atWindow with
      weather := { atWindow.weather with startWindow := true, stormQuietDl := some 21000, rainQuietDl := some 21000 }
      levels := { atWindow.levels with storm := .acting, rain := .armed } }
    let u := s.setLevels { s.levels with rain := .quiet, demand := .armed, demandTarget := some (.pm 900) }
    Ready s ∧ LevelsLawful s ∧ LevelsLawful u ∧ s.safe = false ∧ s.nt.toNat % 1000 = 0 ∧ passed s.nt 10000#32 = true ∧
    s.weather.stormHolds = false ∧ s.weather.rainHolds = false ∧ due s.nt s.weather.stormQuietDl = true ∧
    due s.nt s.weather.rainQuietDl = true ∧ mayAct s = true ∧
    u.levels.demand ≠ .quiet ∧ (ran .stormExpiry (settled u)).levels.demand = .acting := by
  refine ⟨settled_ready rfl, ?_, ?_, by decide +kernel⟩
  · unfold LevelsLawful; decide
  · unfold LevelsLawful; decide

/-- The node pursuing a DEMAND. -/
def demanding (st : DriveState) : State := settled { driving st (toPm 900) .opening node with
  levels := { node.levels with demand := .acting, demandTarget := some (.pm 900), expiryDl := some 20500 } }

theorem witness_DemandIsCleared : Ready (demanding .travel) ∧ LevelsLawful (demanding .travel) ∧
    EntriesLawful (demanding .travel) ∧ (demanding .travel).safe = false ∧
    due (demanding .travel).nt (demanding .travel).levels.expiryDl = true ∧
    (demanding .blocked).drive.state = .blocked ∧ (demanding .travel).drive.goal ≠ none ∧
    (demanding .travel).drive.controlledStop = false ∧
    (receive (requestBits 2)).map (fun f => (f.kind, f.source.toNat, requestAddressed f.payload node)) =
      some (Kind.request.code, 63, true) ∧
    (receive (requestBits 3)).map (fun f => (f.kind, requestAction f.payload)) = some (Kind.request.code, 3) := by
  refine ⟨settled_ready rfl, ?_, ?_, ?_⟩
  · unfold LevelsLawful; decide
  · unfold EntriesLawful; decide
  · decide +kernel

/-- The node with a stroke potentiometer pursuing a DEMAND in a drive state with a continuation and a goal in hand. -/
def closable (st : DriveState) (c : Continuation) (g : Option Goal) : State :=
  let s := demanding st
  settled { s with
    cfg := { s.cfg with strokeFitted := true }
    drive := { s.drive with continuation := some c, goal := g, retry := 2 } }

theorem witness_DemandIsTaken : Ready (settled node) ∧ LevelsLawful (settled node) ∧ node.safe = false ∧
    (receive (requestBits 0)).map (fun f => (f.kind, f.source.toNat, f.payload)) =
      some (Kind.request.code, 63, [5, 0, 1, 44]) ∧
    (receive (requestBits 1)).map (fun f => requestAction f.payload) = some 1 ∧ node.cfg.strokeFitted = false ∧
    lineId node = 5 ∧
    (∀ st c d, Ready (closable st c d) ∧ LevelsLawful (closable st c d) ∧ (closable st c d).safe = false ∧
      (closable st c d).cfg.strokeFitted = true ∧ (closable st c d).drive.controlledStop = false ∧
      (closable st c d).supply.admission ≠ .admitted ∧ (closable st c d).drive.state = st ∧
      (closable st c d).drive.continuation = some c ∧ (closable st c d).drive.goal = d) := by
  refine ⟨settled_ready rfl, ?_, by decide, by decide +kernel, by decide +kernel, rfl, rfl,
    fun _ _ _ => ⟨settled_ready rfl, ?_, rfl, rfl, rfl, nofun, rfl, rfl, rfl⟩⟩
  · unfold LevelsLawful; decide
  · unfold LevelsLawful; exact ⟨rfl, rfl, rfl⟩

/-- R131, R127, R135: a CLOSE that changes no goal takes the drive out of RETRY_WAIT with the retry count kept, one that
changes it with the count forgiven, out of BLOCKED always forgiven; in BACKOFF and in a braking for VERDICT or SAG it is
held, in one for GOAL it is not. -/
theorem test_close_notice :
    let close := fun (st : DriveState) (c : Continuation) (g : Goal) =>
      (ran (.requestClose (requestBits 1)) (closable st c (some g))).drive
    let seat : Goal := ⟨.demand, .seat⟩
    let outcome := fun d : Drive => (d.state, d.retry)
    let held := fun d : Drive => (d.state, d.heldChange, d.heldClose)
    outcome (close .retryWait .goal seat) = (.waitSlot, 2) ∧ outcome (close .retryWait .goal (toPm 900)) = (.waitSlot, 0) ∧
    outcome (close .blocked .goal seat) = (.waitSlot, 0) ∧
    held (close .backoff .goal seat) = (.backoff, false, true) ∧
    held (close .stopping .verdict seat) = (.stopping, false, true) ∧
    held (close .stopping .backoff (toPm 900)) = (.stopping, true, true) ∧
    held (close .stopping .sag (toPm 900)) = (.stopping, false, true) ∧
    held (close .stopping .goal seat) = (.stopping, false, false) ∧
    held (close .sagWait .goal seat) = (.sagWait, false, false) := by decide +kernel

theorem witness_HandedGoalAsksForTheSupply : Ready (settled node) ∧ EntriesLawful (settled node) ∧
    300 = min node.cfg.maxOpen (1 * 256 + 44) ∧ mayAct node = true ∧ suspect node = false ∧
    node.drive.state = .idle ∧ node.drive.controlledStop = false ∧ node.supply.admission = .none ∧
    5 < gap 300 (position node) ∧ node.line.listenOnly = false ∧ node.safe = false ∧
    needsMotion (toPm 300) node = true ∧ needsMotion ⟨.storm, .seat⟩ node = true ∧
    needsMotion (toPm 500) node = false ∧ refusesPlacement .intent node = false ∧
    refusesPlacement .intent (node.setListen true) = true := by
  refine ⟨settled_ready rfl, ?_, ?_⟩
  · unfold EntriesLawful; decide
  · decide

/-- The node with its drive in a state on its way to 900 pm, handed another goal. -/
def rehanded (st : DriveState) (g : Option Goal) : State :=
  let s := driving st (toPm 900) .opening node
  takeGoal g (s.setDrive { s.drive with patternStart := 20000, warningDl := some 23000, retry := 2 })

theorem witness_HandedGoalAsksForTheSupply_changes :
    EntriesLawful (waiting 16) ∧ (waiting 16).safe = false ∧
    (waiting 16).supply.admission ≠ .admitted ∧ (waiting 16).drive.controlledStop = false ∧
    some (toPm 300) ≠ (waiting 16).drive.goal ∧ needsMotion (toPm 300) (waiting 16) = true ∧
    passed (20500 : Time) (after 19501 (100 * min 30 10)) = false ∧
    passed (20500 : Time) (after 19500 (100 * min 30 10)) = true ∧
    goalDir (toPm 300) node = .closing ∧ goalDir (toPm 700) node = .opening ∧
    needsMotion ⟨.demand, .seat⟩ node = true ∧
    (let at' := fun record : Option Nat => needsMotion ⟨.demand, .seat⟩ (node.setDrive { node.drive with seatRecord := record })
     at' (some 480) = false ∧ at' (some 520) = false ∧ at' (some 479) = true ∧ at' (some 521) = true) ∧
    needsMotion (toPm 505) node = false ∧ needsMotion (toPm 495) node = false ∧ needsMotion (toPm 506) node = true ∧
    needsMotion (toPm 494) node = true ∧ goalDir (toPm 500) node = .opening ∧ goalDir (toPm 499) node = .closing := by
  refine ⟨?_, by decide⟩
  unfold EntriesLawful; decide

/-- R121, R122, R131 to R133, R135: a change of goal in each state of the drive. -/
theorem test_changes_of_goal :
    let asked := rehanded .waitSlot (some (toPm 300))
    let storm := rehanded .warning (some ⟨.storm, .seat⟩)
    (asked.drive.state, asked.supply.own, asked.supply.admission) =
      (.waitSlot, some (.demand, .closing), .settling) ∧
    (rehanded .waitSlot (some (toPm 500))).drive.state = .idle ∧
    (storm.drive.state, storm.drive.warningDl) = (.warning, some 21000) ∧
    (rehanded .travel (some (toPm 700))).drive.state = .travel ∧
    (rehanded .travel (some (toPm 600))).drive.state = .approach ∧
    (rehanded .travel (some (toPm 300))).drive.continuation = some .goal ∧
    (rehanded .seating (some (toPm 900))).drive.state = .seating ∧
    (rehanded .seating (some (toPm 600))).drive.state = .approach ∧
    (rehanded .backoff (some (toPm 300))).drive.heldChange = true ∧
    (rehanded .backoff none).drive.state = .stopping ∧
    ((rehanded .blocked (some (toPm 300))).drive.state, (rehanded .blocked (some (toPm 300))).drive.retry) =
      (.waitSlot, 0) ∧
    (rehanded .sagWait (some (toPm 300))).drive.state = .sagWait := by decide +kernel

/-- Entries of the peers 10 to 17. -/
def crowd : List Entry := (List.range 8).map fun i => ⟨i + 10, .demand, .opening, 1, 15000, false⟩

theorem witness_PeerIntentsAreKept :
    let s := settled (node.setSupply { node.supply with entries := crowd })
    Ready s ∧ s.safe = false ∧ s.supply.admission = .none ∧ EntriesLawful s ∧
    (s.supply.entries.filter fun e => e.source != 9 || e.own).length = 8 ∧
    (∀ e ∈ crowd, e = ⟨17, .demand, .opening, 1, 15000, false⟩ ∨
      e.outranks ⟨17, .demand, .opening, 1, 15000, false⟩ = true) ∧
    (receive (sent .storm .intent 9 [0, 0x21])).map (fun f => (f.kind, f.source.toNat, payloadGroup f.payload)) =
      some (Kind.intent.code, 9, 1) ∧
    (receive (sent .storm .intent 9 [0, 0x22])).map (fun f => payloadGroup f.payload) = some 2 ∧
    (receive (sent .drive .withdraw 9 [1])).map (fun f => f.kind) = some Kind.withdraw.code ∧
    passed s.nt (after 15000 5001) = true ∧
    (let w := (waiting 16).setSupply { (waiting 16).supply with
       entries := [⟨9, .demand, .opening, 1, 15000, false⟩, ⟨5, .demand, .opening, 2, 20250, true⟩] }
     (settled w).supply.admission = .waiting ∧ w.safe = false ∧
     (∃ e ∈ w.supply.entries, e.own = false ∧ e.source = 9 ∧ passed w.nt (after e.heardAt 5001) = true) ∧
     (w.supply.entries.filter fun e => e.source != 9 || e.own).length < 8 ∧
     (receive (sent .drive .withdraw 63 [1])).map (fun f => f.source.toNat) = some 63) := by
  refine ⟨settled_ready rfl, by decide, by decide, ?_, ?_⟩
  · unfold EntriesLawful; decide +kernel
  · decide +kernel

theorem witness_PeerIntentsAreKept_admitted :
    let a := settled (moving.setSupply { moving.supply with entries := crowd })
    let w := (waiting 3).setSupply { (waiting 3).supply with
      entries := crowd.take 7 ++ [⟨5, .demand, .opening, 2, 20250, true⟩] }
    Ready a ∧ EntriesLawful a ∧ a.safe = false ∧ a.supply.admission = .admitted ∧
    w.supply.admission = .waiting ∧ (w.supply.entries.filter fun e => e.source != 9 || e.own).length = 8 ∧
    (⟨9, .storm, .closing, 2, 20500, false⟩ : Entry).outranks ⟨16, .demand, .opening, 1, 15000, false⟩ = true ∧
    (⟨20, .demand, .closing, 2, 20500, false⟩ : Entry).outranks ⟨16, .demand, .opening, 1, 15000, false⟩ = false := by
  refine ⟨settled_ready rfl, ?_, by decide +kernel⟩
  unfold EntriesLawful; decide +kernel

/-- R101, R102, R108: into the full list of a WAITING node a STORM intent evicts the lowest peer entry, stands first,
and keeps the node waiting. -/
theorem test_intent_into_full_list :
    let w := settled ((waiting 4).setSupply { (waiting 4).supply with
      entries := crowd.take 7 ++ [⟨5, .demand, .opening, 2, 20250, true⟩] })
    let t := ran (.intentArrival (sent .storm .intent 9 [0, 0x21])) w
    t.supply.entries.map Entry.source = [9, 10, 11, 12, 13, 14, 15, 5] ∧ t.supply.admission = .waiting ∧
    t.supply.entries.head? = some ⟨9, .storm, .closing, 2, 20500, false⟩ := by decide +kernel

theorem witness_AdmittedDemandYieldsToWeather :
    let s := settled { moving with levels := { moving.levels with handed := some (toPm 900) } }
    Ready s ∧ s.safe = false ∧ s.supply.admission = .admitted ∧ s.drive.controlledStop = false ∧
    s.levels.handed = some ⟨.demand, .pm 900⟩ ∧ s.cfg.budget < s.cfg.weight + 3 ∧ s.cfg.weight + 2 ≤ s.cfg.budget ∧
    (receive (sent .storm .intent 9 [0, 0x31])).map (fun f => (f.source.toNat, payloadGroup f.payload, payloadWeight f.payload)) =
      some (9, 1, 3) ∧
    (receive (sent .drive .intent 9 [0xA0, 0x31])).map (fun f => ((f.payload.getD 0 0).toNat / 64, f.kind)) =
      some (2, Kind.intent.code) ∧
    (let c := settled { s with drive := { s.drive with state := .stopping, continuation := some .halt, controlledStop := true } }
     let t := ran (.intentArrival (sent .storm .intent 9 [0, 0x31])) c
     c.power = true ∧ c.levels.handed = some ⟨.demand, .pm 900⟩ ∧ c.supply.admission = .admitted ∧
     (t.supply.admission, t.supply.running, t.drive.state, t.drive.continuation) =
       (.none, false, .stopping, some .halt)) := ⟨settled_ready rfl, by decide +kernel⟩

/-- The node in WAIT_SLOT with its settle and refresh deadlines passed. -/
def settling : State := settled { driving .waitSlot (toPm 900) .opening node with
  supply := { node.supply with
    entries := [⟨5, .demand, .opening, 2, 20250, true⟩], own := some (.demand, .opening), admission := .settling
    settleDl := some 20500, refreshDl := some 20500 } }

theorem witness_SettleDeadlineAdmitsOrWaits : Ready settling ∧ settling.safe = false ∧
    settling.supply.admission = .settling ∧ due settling.nt settling.supply.settleDl = true ∧
    loadOf settling ≤ settling.cfg.budget ∧
    settling.cfg.budget < loadOf (settling.setPeers [peer 9 true, peer 10 true]) ∧ settling.supply.running = false ∧
    settling.drive.state = .waitSlot ∧ warningTime settling.drive.goal settling ≠ 0 ∧
    warningTime settling.drive.goal { settling with cfg := { settling.cfg with warnTime := 0 } } = 0 := ⟨settled_ready rfl, by decide⟩

theorem witness_IntentIsRefreshed : Ready settling ∧ settling.supply.own = some (.demand, .opening) ∧
    settling.supply.refreshDl = some 20500 ∧ passed settling.nt 20500 = true ∧
    refusesPlacement .intent settling = false ∧ refusesPlacement .intent (settling.setListen true) = true :=
  ⟨settled_ready rfl, by decide⟩

theorem witness_SagStopsTheDrive :
    let s := settled { moving with supply := { moving.supply with sagTimer := some 20450 } }
    Ready s ∧ s.safe = false ∧ energised s = true ∧ s.supply.sagTimer = some 20450 ∧ 50 ≤ (s.nt - 20450).toNat :=
  ⟨settled_ready rfl, by decide⟩

/-- The node closing in TRAVEL at a count. -/
def closingAt (count : Int) : State := settled { moving with
  pos := { moving.pos with count := count }
  drive := { moving.drive with dir := some .closing, goal := some ⟨.demand, .seat⟩ } }

theorem witness_WarningEndsInRampAndTravel : Ready warned ∧ (∀ count, Ready (closingAt count)) ∧
    warned.safe = false ∧ warned.drive.goal = some (toPm 900) ∧ warned.drive.state = .warning ∧
    warned.drive.safePhase ≠ .warning ∧ due warned.nt warned.drive.warningDl = true ∧
    suspect warned = false ∧ warned.cfg.startDuty < warned.cfg.travelDuty ∧
    ((warned.cfg.approachBand : Int) < 3600 - warned.pos.count) ∧
    suspect (warned.setPos { warned.pos with reasons := Reasons.empty.add .hallSkip }) = true ∧
    60 + warned.cfg.rampStep < warned.cfg.travelDuty ∧ warned.cfg.travelDuty ≤ 228 + warned.cfg.rampStep ∧
    warned.pos.crossCheckDl = none ∧ moving.drive.state = .travel ∧ moving.drive.dir = some .opening ∧
    (1 : HallPair) = hallNext moving.pos.hall ∧ warned.cfg.seatBand = 120 ∧ warned.cfg.approachBand = 400 :=
  ⟨settled_ready rfl, fun _ => settled_ready rfl, by decide⟩

/-- R124, R126: on a closing step APPROACH begins at 400 quarter-steps, SEATING at 120 with its 8,000 ms; on an opening
one APPROACH begins 400 before the target count of 3,600. -/
theorem test_position_tests :
    let down := fun count : Int => (ran (.hallStep 2) (closingAt count)).drive
    let up := fun count : Int =>
      (ran (.hallStep 1) { moving with pos := { moving.pos with count := count } }).drive.state
    ((down 402).state, (down 401).state) = (.travel, .approach) ∧
    ((down 122).state, (down 121).state) = (.approach, .seating) ∧ (down 121).duty = 90 ∧
    (down 121).seatTimeoutDl = some 28500 ∧ (up 3198, up 3199, up 3599) = (.travel, .approach, .stopping) := by
  decide +kernel

/-- The node at the end of a braking. -/
def braked (c : Continuation) (p retry : Nat) : State := settled { node with drive := { node.drive with
  state := .stopping, stopDl := some 20500, continuation := some c, goal := some (toPm p), retry := retry } }

/-- The node with a stroke potentiometer at the end of the braking of its arrival at 600 pm of a stroke of 5,000. -/
def fitted (raw : BitVec 12) : State := settled { braked .goal 600 0 with
  cfg := { node.cfg with strokeFitted := true, closedReading := 3600, openReading := 400, stroke := 5000 }
  pins := { node.pins with stroke := raw }
  pos := { node.pos with count := 3002, crossCheckDl := none }
  levels := { node.levels with demand := .acting, demandTarget := some (.pm 600), handed := some (toPm 600) } }

/-- The uncommissioned node at the end of the braking of its safe seat, its key on or off. -/
def safeBraked (ph : SafePhase) (key : Bool) : State :=
  let s := safeNode ph .stopping (some key)
  settled { s with
    drive := { s.drive with stopDl := some 20500, continuation := some .goal }
    levels := { s.levels with serviceHold := key } }

theorem witness_BrakingEndsByItsContinuation :
    (∀ c p retry, Ready (braked c p retry)) ∧ EntriesLawful (braked .goal 500 0) ∧
    (∀ raw, Ready (fitted raw) ∧ EntriesLawful (fitted raw) ∧ (fitted raw).drive.state = .stopping ∧
      due (fitted raw).nt (fitted raw).drive.stopDl = true ∧ (fitted raw).cfg.strokeFitted = true ∧
      (fitted raw).pos.referenced = true ∧ suspect (fitted raw) = false ∧ acting (fitted raw) = some .demand ∧
      (fitted raw).drive.controlledStop = false ∧ needsMotion (toPm 600) (fitted raw) = false ∧
      needsMotion ⟨.demand, .seat⟩ (fitted raw) = true) ∧
    (∀ ph key, Ready (safeBraked ph key) ∧ LevelsLawful (safeBraked ph key) ∧ (safeBraked ph key).safe = true ∧
      (safeBraked ph key).drive.state = .stopping ∧ due (safeBraked ph key).nt (safeBraked ph key).drive.stopDl = true ∧
      (safeBraked ph key).drive.goal = none ∧ (safeBraked ph key).drive.safePhase = ph ∧
      (safeBraked ph key).levels.serviceHold = key ∧ (safeBraked ph key).listen = false ∧
      (safeBraked ph key).drive.controlledStop = false) ∧
    due (braked .goal 500 0).nt (braked .goal 500 0).drive.stopDl = true ∧
    needsMotion (toPm 500) (braked .goal 500 0) = false ∧ needsMotion (toPm 900) (braked .goal 900 0) = true ∧
    suspect (braked .goal 900 0) = false ∧
    (braked .yield 900 0).supply.admission = .none ∧ 0 < (braked .backoff 900 0).cfg.backoff ∧
    (braked .verdict 900 4).cfg.retryLimit < (braked .verdict 900 4).drive.retry ∧
    (braked .verdict 900 3).drive.retry ≤ (braked .verdict 900 3).cfg.retryLimit ∧
    (braked .sag 900 0).drive.obstructionPending = false := by
  refine ⟨fun _ _ _ => settled_ready rfl, ?_, fun _ => ⟨settled_ready rfl, ?_, rfl,
      Eq.trans rfl (by decide : due 20500 (some 20500) = true), rfl, rfl, rfl, rfl, rfl,
      Eq.trans rfl (by decide : needsMotion (toPm 600) (fitted 0) = false), rfl⟩,
    fun _ key => ⟨settled_ready rfl, ?_, rfl, rfl, Eq.trans rfl (by decide : due 20500 (some 20500) = true), rfl, rfl,
      rfl, rfl, rfl⟩, by decide⟩
  · unfold EntriesLawful; decide
  · show EntriesLawful node
    unfold EntriesLawful; decide
  · unfold LevelsLawful; cases key <;> exact ⟨rfl, rfl, rfl⟩

/-- Figure 8-6, the last two rows: the braking of an arrival at 3,002 ends in IDLE, where raw 1,480 reads 662 against
600: MISMATCH, closed-seated handed, and the drive asks for the supply; raw 1,690 reads 596 and it rests. R163: a key-off
in the braking of the safe seat has called for it: it begins anew; a seat that has ended does not. -/
theorem test_comparison_after_braking :
    let apart := ran .stopDeadline (fitted 1480)
    let agrees := ran .stopDeadline (fitted 1690)
    let seat := fun ph key => (ran .stopDeadline (safeBraked ph key)).drive
    (apart.pos.reasons, apart.levels.handed, apart.drive.state, apart.supply.own) =
      (Reasons.empty.add .mismatch, some ⟨.demand, .seat⟩, .waitSlot, some (.demand, .closing)) ∧
    (agrees.pos.reasons, agrees.drive.state, agrees.pos.crossCheckDl) = (Reasons.empty, .idle, some 30500) ∧
    ((seat .notBegun false).state, (seat .notBegun false).warningDl) = (.warning, some 23500) ∧
    (seat .notBegun true).state = .idle ∧ (seat .ended false).state = .idle := by decide +kernel

/-- Figure 7-3, R131, R132: a VERDICT with the yield mark asks anew; a held change is taken on entry into BLOCKED; a sag
with an obstruction pending above the limit blocks; GOAL leads to RAMP also after a yield (notes/assumptions/51.md). -/
theorem test_braking_marks :
    let s := braked .verdict 900 3
    let b := braked .verdict 900 4
    let g := braked .sag 900 4
    (ran .stopDeadline (s.setDrive { s.drive with yieldMark := true })).drive.state = .waitSlot ∧
    (let t := ran .stopDeadline (b.setDrive { b.drive with heldChange := true })
     (t.drive.state, t.drive.retry) = (.waitSlot, 0)) ∧
    (let t := ran .stopDeadline (s.setDrive { s.drive with heldClose := true })
     (t.drive.state, t.drive.retry) = (.waitSlot, 3)) ∧
    (ran .stopDeadline (g.setDrive { g.drive with obstructionPending := true })).drive.state = .blocked ∧
    (let r := braked .goal 900 0
     let t := ran .stopDeadline (r.setDrive { r.drive with yieldMark := true })
     (t.drive.state, t.supply.admission, t.supply.running, t.drive.yieldMark) = (.ramp, .none, false, true)) := by
  decide +kernel

theorem witness_SeatingEndsUnconfirmed :
    let d : Drive := { node.drive with
      state := .seating, seatTimeoutDl := some 20500, safeSeatDl := some 20500, safePhase := .seating }
    let w : Drive := { node.drive with state := .warning, warningDl := some 20500, safePhase := .warning }
    Ready (settled (node.setDrive d)) ∧ node.safe = false ∧ due node.nt d.seatTimeoutDl = true ∧
    Ready (settled ((State.reset.setNt 20500).setDrive d)) ∧ LevelsLawful (State.reset.setDrive d) ∧
    due 20500 d.safeSeatDl = true ∧ Ready (settled ((State.reset.setNt 20500).setDrive w)) ∧ State.reset.safe = true ∧
    due 20500 w.warningDl = true := by
  refine ⟨settled_ready rfl, by decide, by decide, settled_ready rfl, ?_, by decide, settled_ready rfl, by decide,
    by decide⟩
  unfold LevelsLawful; decide

theorem witness_WaitsEndInARequestOrRest :
    let s := fun (st : DriveState) (p : Nat) => settled { node with
      cfg := { node.cfg with strokeFitted := true }
      drive := { node.drive with
        state := st, goal := some (toPm p), backoffDl := some 20500, retryDl := some 20500, holdoffDl := some 20500 } }
    (∀ st p, Ready (s st p)) ∧ due (s .backoff 900).nt (s .backoff 900).drive.backoffDl = true ∧
    due (s .retryWait 900).nt (s .retryWait 900).drive.retryDl = true ∧
    due (s .sagWait 900).nt (s .sagWait 900).drive.holdoffDl = true ∧
    needsMotion (toPm 900) (s .retryWait 900) = true ∧ needsMotion (toPm 500) (s .sagWait 500) = false ∧
    (∀ st p, (s st p).supply.admission ≠ .admitted ∧ (s st p).cfg.strokeFitted = true) :=
  ⟨fun _ _ => settled_ready rfl, by decide, by decide, by decide, by decide, by decide, fun _ _ => ⟨nofun, rfl⟩⟩

/-- The node with a stroke potentiometer (3,600 closed, 400 open) in SEATING on an over-current, suspect by a skip. -/
def fittedSeat (raw : BitVec 12) : State := settled { driving .seating ⟨.demand, .seat⟩ .closing node with
  cfg := { node.cfg with strokeFitted := true, closedReading := 3600, openReading := 400, mismatch := 50 }
  drive := { (driving .seating ⟨.demand, .seat⟩ .closing node).drive with ocTimer := some 20400 }
  pins := { node.pins with stroke := raw }
  pos := { node.pos with count := 30, referenced := false, reasons := Reasons.empty.add .hallSkip }
  levels := { node.levels with demand := .acting, demandTarget := some (.pm 900) } }

theorem witness_OverCurrentIsClassified :
    let s := fun (st : DriveState) (dir : Dir) (count : Int) => settled { driving st (toPm 900) dir node with
      drive := { (driving st (toPm 900) dir node).drive with ocTimer := some 20400 }
      pos := { node.pos with count := count } }
    (∀ st dir count, Ready (s st dir count)) ∧
    (∀ raw, Ready (fittedSeat raw) ∧ energised (fittedSeat raw) = true ∧
      (fittedSeat raw).drive.ocTimer = some 20400 ∧ (fittedSeat raw).drive.state = .seating ∧
      acting (fittedSeat raw) = some .demand ∧ suspect (fittedSeat raw) = true ∧
      (fittedSeat raw).cfg.strokeFitted = true) ∧
    energised (s .travel .closing 120) = true ∧
    energised (s .seating .closing 0) = true ∧ energised (s .backoff .opening 300) = true ∧
    (s .travel .closing 120).pos.count ≤ ((s .travel .closing 120).cfg.seatBand : Int) ∧
    ((s .travel .closing 121).cfg.seatBand : Int) < (s .travel .closing 121).pos.count ∧
    100 ≤ (node.nt - 20400).toNat ∧ node.drive.retry ≤ node.cfg.retryLimit ∧
    (let c := (fittedSeat 0).cfg
     c.mismatch < strokePosition 3436 c.closedReading c.openReading ∧
     strokePosition 3437 c.closedReading c.openReading ≤ c.mismatch) :=
  ⟨fun _ _ _ => settled_ready rfl, fun _ => ⟨settled_ready rfl, rfl, rfl, rfl, rfl, rfl, rfl⟩, by decide⟩

/-- R148: a seat clears HALL_SKIP; with the stroke sensor apart it leaves MISMATCH and makes no notice, with the sensor
in agreement the DEMAND target is handed again. -/
theorem test_fitted_seat :
    let apart := ran .overCurrent (fittedSeat 0)
    let agreed := ran .overCurrent (fittedSeat 3600)
    apart.pos.reasons = Reasons.empty.add .mismatch ∧ apart.levels.handed = none ∧
    suspect agreed = false ∧ agreed.levels.handed = some (toPm 900) ∧ agreed.drive.goal = some (toPm 900) := by
  decide +kernel

theorem witness_RefuseEndsAndRunningIsRefreshed :
    let s := settled { moving with drive := { moving.drive with refuseUntil := some 20500, refreshDl := some 20500 } }
    Ready s ∧ s.drive.refuseUntil = some 20500 ∧ passed s.nt 20500 = true ∧ passed s.nt 20501 = false ∧ s.safe = false ∧
    s.supply.running = true ∧ due s.nt s.drive.refreshDl = true ∧ s.line.listenOnly = false ∧
    s.drive.state ≠ .blocked ∧ suspect s = false ∧
    suspect (s.setPos { s.pos with reasons := Reasons.empty.add .hallSkip }) = true ∧ State.reset.safe = true :=
  ⟨settled_ready rfl, by decide⟩

/-- R139, R164: WARN is off from 250 to 500 ms of its period, and the slow blink of a suspect node from 500 ms on. -/
theorem test_indicators :
    let w := driving .warning (toPm 900) .opening node
    let s := fun start : Time => w.setDrive { w.drive with pattern := some .warn, patternStart := start }
    sounderOn (s 20251) = true ∧ sounderOn (s 20250) = false ∧ toneOf node = 20 ∧ lampOn node = true ∧
    lampOn (node.setPos { node.pos with reasons := Reasons.empty.add .hallSkip }) = false := by decide +kernel

/-- R22: the line is not idle before 320 µs, after an edge read 1, or held dominant. -/
theorem test_line_idle :
    let s := sending [queued .state] none
    (ran .transmissionStart s).line.inFlight.isSome = true ∧
    (ran .transmissionStart (s.setLineFeed { s.lineFeed with held := 1 })).line.inFlight = none ∧
    (ran .transmissionStart (s.setLine { s.line with driven := 1 })).line.inFlight = none ∧
    (ran .transmissionStart (s.setLine { s.line with
      assembly := ((Assembly.absent 320).hear [⟨700, true⟩]).1 })).line.inFlight = none := by decide +kernel

/-- The node holding 500 pm in IDLE for DEMAND, with a hold reference; the last reported position is 500. -/
def holding (h : Nat) : State := settled { node with
  levels := { node.levels with demand := .acting, demandTarget := some (.pm 500), holdRef := some h }
  pos := { node.pos with lastReported := 500 } }

theorem witness_HallStepsMoveTheCount :
    let s := fun (count : Int) => settled { moving with pos := { moving.pos with count := count } }
    (∀ count, Ready (s count)) ∧
    (∀ h, Ready (holding h) ∧ (holding h).drive.state = .idle ∧ acting (holding h) = some .demand ∧
      (holding h).levels.holdRef = some h ∧ (holding h).drive.controlledStop = false ∧ suspect (holding h) = false) ∧
    (1 : HallPair) = hallNext moving.pos.hall ∧ moving.pos.hall = hallNext (2 : HallPair) ∧
    (3 : HallPair) = ~~~moving.pos.hall ∧ (s 5023).pos.count + 1 = ((s 5023).cfg.stroke : Int) + 1024 ∧
    ((s 5024).cfg.stroke : Int) + 1024 < (s 5024).pos.count + 1 ∧ (s (-1023)).pos.count - 1 = -1024 ∧
    (s (-1024)).pos.count - 1 < -1024 ∧ moving.drive.state = .travel ∧ moving.drive.goal = some ⟨.demand, .pm 900⟩ ∧
    ((900 * moving.cfg.stroke / 1000 : Nat) : Int) ≤ (s 3599).pos.count + 1 ∧ energised moving = true ∧
    moving.cfg.strokeFitted = false ∧ suspect moving = false ∧
    (holding 0).safe = false ∧ position (ran (.hallStep 2) (holding 0)) = 499 ∧ position (holding 0) = 500 ∧
    gap 499 519 = 20 ∧ gap 499 520 = 21 ∧
    (let at' := fun count : Int => position (node.setPos { node.pos with count := count })
     at' (-1) = 0 ∧ at' 0 = 0 ∧ at' 3 = 0 ∧ at' 4 = 1 ∧ at' 3999 = 999 ∧ at' 4000 = 1000 ∧ at' 5024 = 1000) :=
  ⟨fun _ => settled_ready rfl, fun _ => ⟨settled_ready rfl, rfl, rfl, rfl, rfl, rfl⟩, by decide +kernel⟩

/-- R134, R85: the onset of suspect brakes an opening move and hands closed-seated. R86: a drift of 21 pm hands the
goal again, one of 20 pm does not. R38: 20 pm from the last reported position place a STATE. -/
theorem test_onset_drift_and_report :
    let skip := ran (.hallSkip 3) (demanding .travel)
    let drift := fun h : Nat => (ran (.hallStep 2) (holding h)).levels
    let told := fun last : Nat =>
      (ran (.hallStep 2) ((holding 500).setPos { (holding 500).pos with lastReported := last })).line.holds .state
    (skip.drive.state, skip.drive.goal) = (.stopping, some ⟨.demand, .seat⟩) ∧
    ((drift 520).handed, (drift 520).holdRef) = (some (toPm 500), some 499) ∧
    ((drift 519).handed, (drift 519).holdRef) = (none, some 519) ∧ told 479 = true ∧ told 480 = false := by
  decide +kernel

/-- The node with a stroke potentiometer at rest, its cross-check deadline passed, DEMAND acting or not. -/
def checked (l : LevelState) : State := settled { node with
  cfg := { node.cfg with strokeFitted := true }, pos := { node.pos with crossCheckDl := some 20500 }
  levels := { node.levels with demand := l, demandTarget := some (.pm 500) } }

theorem witness_VelocityAndCrossCheckAreTaken :
    let m := settled { moving with
      pos := { moving.pos with windowBegin := 20400, windowStart := 1997 }
      drive := { moving.drive with checkStart := some 20400, stallRun := 2 } }
    let c := checked .quiet
    Ready m ∧ (∀ l, Ready (checked l)) ∧
    velocityEnds m = true ∧ energised m = true ∧ due m.pos.windowBegin m.drive.checkStart = true ∧
    (m.pos.count - m.pos.windowStart).natAbs < stallSpeed m ∧ stallSpeed m ≤ (m.pos.count - 1996).natAbs ∧
    2 ≤ m.drive.stallRun ∧ m.drive.retry ≤ m.cfg.retryLimit ∧ velocityEnds node = true ∧ energised node = false ∧
    due m.pos.windowBegin (some 20401) = false ∧
    c.drive.state = .idle ∧ due c.nt c.pos.crossCheckDl = true ∧ c.pos.referenced = true ∧
    gap (strokePosition 2048 c.cfg.closedReading c.cfg.openReading) (position c) ≤ c.cfg.mismatch ∧
    c.cfg.mismatch < gap (strokePosition 0 c.cfg.closedReading c.cfg.openReading) (position c) ∧
    acting c = none ∧ acting (checked .acting) = some .demand ∧ suspect (checked .acting) = false ∧
    needsMotion ⟨.demand, .seat⟩ (checked .acting) = true ∧ (checked .acting).supply.admission = .none :=
  ⟨settled_ready rfl, fun _ => settled_ready rfl, by decide⟩

/-- R128, R125: the third slow window of a SEATING drive is a seat. R151, R85: a MISMATCH found in IDLE while DEMAND acts
hands closed-seated in its name. -/
theorem test_stall_and_mismatch :
    let m := { driving .seating ⟨.demand, .seat⟩ .closing node with
      pos := { node.pos with windowBegin := 20400, windowStart := 30, count := 28 } }
    let t := ran .velocityWindowEnd (settled (m.setDrive { m.drive with checkStart := some 20400, stallRun := 2 }))
    let c := ran (.crossCheckDeadline 0) (checked .acting)
    (t.drive.state, t.drive.seatRecord, t.pos.count, t.pos.windowStart) = (.stopping, some 0, 0, 0) ∧
    (c.levels.handed, c.levels.holdRef, c.drive.state, c.supply.own) =
      (some ⟨.demand, .seat⟩, some 500, .waitSlot, some (.demand, .closing)) := by decide +kernel

theorem witness_ConfigureIsAnswered :
    let opened : Commissioning := ⟨true, some 620500, none, false⟩
    let busy : Commissioning := ⟨true, some 620500, some ⟨1, 2, 20530⟩, false⟩
    (∀ v, Ready (settled (node.setStore v))) ∧
    (receive (configureBits 0 0 0)).map (fun f => (f.kind, f.source.toNat, f.payload.getD 0 0, f.payload.getD 1 0)) =
      some (Kind.configure.code, 63, 5, 0) ∧
    (receive (configureBits 1 1 2)).map (fun f => f.payload.getD 1 0) = some 1 ∧
    (receive (configureBits 2 34 0)).map (fun f => f.payload.getD 1 0) = some 2 ∧
    lineId node = 5 ∧ node.listen = false ∧ node.line.listenOnly = false ∧ node.store.isOpen = false ∧
    keyIsOn (node.setSensor { node.sensor with keySettled := some true }) = true ∧ keyIsOn node = false ∧
    opened.isOpen = true ∧ opened.writing = none ∧ busy.writing.isSome = true ∧
    node.stored[33]?.isSome = true ∧ node.stored[34]? = none ∧ inRange 1 15 = true ∧ inRange 1 16 = false := by
  refine ⟨fun _ => settled_ready rfl, ?_⟩
  decide +kernel

/-- The uncommissioned node with its window open, to be closed, a RECORD queued and in transmission. -/
def uncommissioned (w : Option Writing) : State := settled { safeNode .ended .idle (some true) with
  store := ⟨true, some 20500, w, true⟩
  line := { State.reset.line with queue := [queued .record], inFlight := some (flight .record) } }

theorem witness_WriteCompletesAndWindowCloses :
    let s := settled (node.setStore ⟨true, some 20500, some ⟨1, 2, 20500⟩, true⟩)
    let u := settled (node.setStore ⟨true, some 20500, none, false⟩)
    Ready s ∧ Ready u ∧
    (∀ w, Ready (uncommissioned w) ∧ LevelsLawful (uncommissioned w) ∧ (uncommissioned w).safe = true ∧
      (uncommissioned w).store = ⟨true, some 20500, w, true⟩ ∧ due 20500 (uncommissioned w).store.deadline = true ∧
      keyDue (uncommissioned w) = true ∧ (uncommissioned w).sensor.keySettled = some true ∧
      (uncommissioned w).sensor.keyRun = 19) ∧
    s.listen = false ∧ s.store.isOpen = true ∧ passed s.nt 20500 = true ∧ u.safe = false ∧
    due s.nt s.store.deadline = true ∧ due u.nt u.store.deadline = true ∧ u.store.writing = none := by
  refine ⟨settled_ready rfl, settled_ready rfl, fun _ => ⟨settled_ready rfl, ?_, rfl, rfl, rfl,
      Eq.trans rfl (by decide : keyDue (uncommissioned none) = true), rfl, rfl⟩, by decide⟩
  unfold LevelsLawful; exact ⟨rfl, rfl, rfl⟩

/-- R35, R156: in the safe profile the closing takes the queued RECORD and cuts the one in transmission, by the
deadline, by a key-off, and at the completion of a write. -/
theorem test_safe_window_closes :
    let none' := fun s : State => s.line.queue = [] ∧ s.line.inFlight = none ∧ s.store.isOpen = false
    none' (ran .commissioningWindowDeadline (uncommissioned none)) ∧
    none' (ran (.keySample false) (uncommissioned none)) ∧
    none' (ran (.writeComplete 2 (checkBits 2)) (uncommissioned (some ⟨1, 2, 20500⟩))) := by decide +kernel

theorem witness_FieldCheckBitsCorrectOneAndFindTwo : (0 < 22 ∧ 21 < 22 ∧ 0 ≠ 21) ∧
    State.reset.stored.length = 34 ∧ (∀ f ∈ State.reset.stored, (checkField f).2 ≠ .uncorrectable) ∧
    (let read := State.reset.stored.map fun f => (checkField f).1.toNat
     read = defaultValues ∧ read.getD 20 0 ≤ read.getD 21 0 ∧ read.getD 22 0 ≤ read.getD 21 0 ∧
     read.getD 3 0 ≤ read.getD 2 0 ∧ read.getD 13 0 ≤ read.getD 14 0 ∧ read.getD 6 0 = 0) ∧
    (State.reset.stored.set 3 (encodeField 5)).length = 34 ∧ ¬((checkField (encodeField 5)).1.toNat ≤ 4) ∧
    (checkField { encodeField 5 with value := 6 }).2 = .uncorrectable := by decide +kernel

theorem witness_PowerUpStartsColdOrWarm :
    let s := (settled node).setPower false
    let held := fun count : Int => (settled { node with pos := { node.pos with count := count } }).setPower false
    s.power = false ∧ s.retained.valid = true ∧ (ran .powerUp s).safe = true ∧
    (ran .powerUp { s with stored := s.stored.set 0 (encodeField 5) }).safe = false ∧
    -1024 ≤ s.retained.items.count ∧ s.retained.items.count ≤ (s.cfg.stroke : Int) + 1024 ∧
    (held 5025).retained.valid = true ∧ ((held 5025).cfg.stroke : Int) + 1024 < (held 5025).retained.items.count ∧
    (held (-1025)).retained.valid = true ∧ (held (-1025)).retained.items.count < -1024 ∧
    ({ s.retained with lossLatch := true } : Retained).valid = false := by decide +kernel

theorem witness_LossOfPowerStopsTheNode : node.power = true ∧ node.store.writing = none ∧
    (node.setPower false).power = false ∧ Instr.listenEnd ≠ .powerUp ∧
    Instr.listenEnd ≠ .backupRailLoss ∧ (∀ pair, Instr.listenEnd ≠ .hallStep pair ∧ Instr.listenEnd ≠ .hallSkip pair) :=
  ⟨rfl, rfl, rfl, nofun, nofun, fun _ => ⟨nofun, nofun⟩⟩

theorem witness_ListenEndLetsALevelAct :
    let s := settled { node with listen := true, levels := { node.levels with storm := .armed } }
    let u := settled { State.reset with nt := 2000 }
    Ready s ∧ LevelsLawful s ∧ Ready u ∧ LevelsLawful u ∧ s.listen = true ∧ passed s.nt 2000#32 = true ∧
    s.safe = false ∧ s.levels.serviceHold = false ∧ s.levels.storm ≠ .quiet ∧ u.listen = true ∧
    passed u.nt 2000#32 = true ∧ u.safe = true ∧ u.drive.safePhase = .notBegun ∧ u.drive.state = .idle := by
  refine ⟨settled_ready rfl, ?_, settled_ready rfl, ?_, by decide⟩
  · unfold LevelsLawful; decide
  · unfold LevelsLawful; decide

theorem witness_RestartStopsThenStarts :
    let s := settled { node with drive := { node.drive with controlledStop := true } }
    Ready (settled node) ∧ Ready moving ∧ Ready s ∧
    Ready (settled (s.setStore ⟨true, none, some ⟨1, 2, 20530⟩, false⟩)) ∧
    Ready (settled { (driving .waitSlot (toPm 900) .opening node) with
      cfg := { node.cfg with strokeFitted := true } }) ∧
    (∀ count, Ready (settled (s.setPos { s.pos with count := count }))) ∧ moving.drive.state.energised = true ∧
    (receive (requestBits 4)).map (fun f => (f.kind, f.payload.getD 0 0, f.payload.getD 1 0)) =
      some (Kind.request.code, 5, 4) ∧ lineId node = 5 ∧ node.drive.controlledStop = false ∧
    node.cfg.strokeFitted = false ∧ s.drive.controlledStop = true ∧ s.drive.state = .idle ∧ s.store.writing = none ∧
    (ran .restartStart { s with stored := s.stored.set 0 (encodeField 5) }).safe = false ∧ s.stored[1]?.isSome = true :=
  ⟨settled_ready rfl, settled_ready rfl, settled_ready rfl, settled_ready rfl, settled_ready rfl,
    fun _ => settled_ready rfl, by decide +kernel⟩

/-- R154, R79, R98: a restart brings a count past a bound to it, with OVERRANGE, and holds a raised level ARMED with a
fresh quiet deadline; the factory stroke is 4,000, STORM's quiet time 600 s and RAIN's 1,800 s. -/
theorem test_restored :
    let s := fun count : Int => settled { node with
      stored := node.stored.set 0 (encodeField 5)
      drive := { node.drive with controlledStop := true }, pos := { node.pos with count := count }
      levels := { node.levels with storm := .acting, rain := .armed } }
    let high := ran .restartStart (s 5025)
    let low := ran .restartStart (s (-1025))
    (high.pos.count, high.pos.reasons.overrange, high.pos.referenced, high.pos.lastReported) =
      (5024, true, false, 1000) ∧
    (low.pos.count, low.pos.reasons.overrange, low.pos.windowStart) = (-1024, true, -1024) ∧
    (ran .restartStart (s 5024)).pos.reasons.overrange = false ∧
    (high.weather.stormQuietDl, high.weather.rainQuietDl) = (some 600000, some 1800000) ∧
    (high.levels.storm, high.levels.rain, high.levels.handed) = (.armed, .armed, none) := by decide +kernel

/-- R138, R163: a controlled stop ends the safe seat's seating; the braking ends with HALT. -/
theorem test_controlled_stop_of_safe_seat :
    let s := (safeNode .seating .seating none).setStore ⟨true, none, none, false⟩
    let t := ran (.requestRestart (sent .drive .request 63 [0, 4, 0, 0])) (settled s)
    (t.drive.state, t.drive.continuation, t.drive.safePhase) = (.stopping, some .halt, .notBegun) := by decide +kernel

end Sys2Proof.Tests
end

section
/-! What the end of a command leaves of each block, and when a command with a test is carried out. -/

namespace Sys2Proof.Machine

/-- A command whose time has come, in a node with logic supply. -/
theorem liveWhen_due {s : State} {test : State → Bool} (f : State → State) (hp : s.power = true)
    (ht : test s = true) : liveWhen test f s = commit s (f s) := by
  simp [liveWhen, hp, ht]

section
variable (s t : State)

@[simp] theorem commit_store : (commit s t).store = t.store := by rw [commit_frame]
@[simp] theorem commit_sensor : (commit s t).sensor = t.sensor := by rw [commit_frame]
@[simp] theorem commit_weather : (commit s t).weather = t.weather := by rw [commit_frame]
@[simp] theorem commit_levels : (commit s t).levels = t.levels := by rw [commit_frame]
@[simp] theorem commit_supply : (commit s t).supply = t.supply := by rw [commit_frame]

/-- The drive of a state at the end of a command: the running refresh deadline apart, as the command made it. -/
theorem commit_drive : (commit s t).drive = { t.drive with refreshDl := (commit s t).drive.refreshDl } :=
  congrArg State.drive (commit_frame s t)

/-- The position block at the end of a command: the last reported position apart, as the command made it. -/
theorem commit_pos : (commit s t).pos = { t.pos with lastReported := (commit s t).pos.lastReported } :=
  congrArg State.pos (commit_frame s t)

/-- In the safe profile no STATE is placed, and the end of a command leaves the drive as it is (R116). -/
theorem commit_drive_safe {s t : State} (h : t.safe = true) : (commit s t).drive = t.drive := by
  simp only [commit, h, Bool.not_true, Bool.false_and, Bool.false_eq_true, if_false]
  rfl

end

end Sys2Proof.Machine
end

section
/-! The anemometer and the window ends (R4 to R14). -/

namespace Sys2Proof.Machine

/-! ### Accepted edges -/

theorem recordedPeriod_within {nt p : Time} (h : 2 ≤ (nt - p).toNat ∧ (nt - p).toNat ≤ 65535) :
    recordedPeriod nt (some p) = some (nt - p).toNat := if_pos h

theorem recordedPeriod_outside {nt p : Time} (h : ¬(2 ≤ (nt - p).toNat ∧ (nt - p).toNat ≤ 65535)) :
    recordedPeriod nt (some p) = none := if_neg h

theorem offerPeriod_next (nt p : Time) (kept : Option Nat) : offerPeriod (recordedPeriod nt (some p)) kept =
    if 2 ≤ (nt - p).toNat ∧ (nt - p).toNat ≤ 65535 then
      some (min (nt - p).toNat (kept.getD (nt - p).toNat)) else kept := by
  by_cases h : 2 ≤ (nt - p).toNat ∧ (nt - p).toNat ≤ 65535
  · rw [recordedPeriod_within h, if_pos h]
    cases kept with
    | none => exact congrArg some (Nat.min_self _).symm
    | some q => rfl
  · rw [recordedPeriod_outside h, if_neg h]
    rfl

/-- A second edge at one NT, and any edge with the wind part clear, is none (R4). -/
theorem takeEdge_ignored {s : State} (h : s.cfg.windFitted = false ∨ s.sensor.prevEdge = some s.nt) :
    takeEdge s = s := by
  rcases h with h | h <;> simp [takeEdge, h]

/-- An edge accepted in the open window (R4, R5, R14). -/
theorem takeEdge_accepted {s : State} (hw : s.cfg.windFitted = true) (hp : s.sensor.prevEdge ≠ some s.nt)
    (hb : s.nt.toNat / 1000 = s.sensor.windowBegin.toNat / 1000) : takeEdge s = { s with
      sensor := { s.sensor with
        count := s.sensor.count + 1, prevEdge := some s.nt, zeroRun := 0
        shortest := offerPeriod (recordedPeriod s.nt s.sensor.prevEdge) s.sensor.shortest }
      weather := { s.weather with
        anem := if s.weather.anem = .stuck ∧ s.safe = false then .ok else s.weather.anem } } := by
  have hgo : (!s.cfg.windFitted || s.sensor.prevEdge == some s.nt) = false := by simp [hw, hp]
  unfold takeEdge countEdge
  rw [hgo]
  simp only [Bool.false_eq_true, if_false, if_pos hb]
  split <;> rfl

/-- Settles O25: an edge is ignored or accepted, and neither brings an occasion for a STATE or a mirrored item. -/
theorem acceptedEdgeIsCounted : Obligations.AcceptedEdgeIsCounted := by
  refine ⟨fun s hr h => congrArg _ (live_quiet hr (takeEdge_ignored h) rfl rfl rfl rfl), fun s hr hw hp hb => ?_⟩
  refine (congrArg _ (live_quiet hr (takeEdge_accepted hw hp hb) rfl rfl rfl rfl)).trans ?_
  cases s.sensor.prevEdge with
  | none => rfl
  | some p => rw [offerPeriod_next]

end Sys2Proof.Machine
end

section
/-! The window ends (R6 to R13). -/

namespace Sys2Proof.Machine

/-! ### The shortest period, the largest speed, the vane -/

@[simp] theorem shortestOf_append_none (l : List (Option Nat)) : shortestOf (l ++ [none]) = shortestOf l := by
  simp [shortestOf]

@[simp] theorem shortestOf_append_some (l : List (Option Nat)) (p : Nat) :
    shortestOf (l ++ [some p]) = shorter p (shortestOf l) := by
  simp [shortestOf]

/-- The shortest of the periods is one of them, and none is shorter; it is none just where no period stands (R7). -/
theorem shortestOf_spec (l : List (Option Nat)) :
    (shortestOf l = none → ∀ q, some q ∉ l) ∧
    ∀ p, shortestOf l = some p → some p ∈ l ∧ ∀ q, some q ∈ l → p ≤ q := by
  induction l using List.reverseRecOn with
  | nil => simp [shortestOf]
  | append_singleton l o ih =>
    obtain ⟨absent, present⟩ := ih
    cases o with
    | none => simpa using ⟨absent, present⟩
    | some n =>
      rw [shortestOf_append_some]
      cases h : shortestOf l with
      | none =>
        have gone := absent h
        simp [shorter, gone]
      | some m =>
        obtain ⟨hm, least⟩ := present m h
        refine ⟨nofun, fun p hp => ?_⟩
        obtain rfl : min n m = p := by simpa [shorter] using hp
        refine ⟨?_, fun q hq => ?_⟩
        · rcases Nat.le_total n m with hnm | hnm <;> simp [hnm, hm]
        · rcases List.mem_append.1 hq with hq | hq
          · exact (Nat.min_le_right n m).trans (least q hq)
          · simp only [List.mem_singleton, Option.some.injEq] at hq
            omega

theorem periodSpeedOf_absent (factor : Nat) {mem : List (Option Nat)} (h : ∀ o ∈ mem, o = none) :
    periodSpeedOf factor mem = 0 := by
  have hs : shortestOf mem = none := by
    cases hc : shortestOf mem with
    | none => rfl
    | some p => exact nomatch h _ ((shortestOf_spec mem).2 p hc).1
  simp [periodSpeedOf, hs]

theorem clampNat_zero (hi n : Nat) : clampNat 0 hi n = min hi n := by
  unfold clampNat; split <;> [omega; split] <;> omega

theorem periodSpeedOf_least (factor : Nat) {mem : List (Option Nat)} {p : Nat} (hp : some p ∈ mem)
    (least : ∀ q, some q ∈ mem → p ≤ q) : periodSpeedOf factor mem = min 600 (factor * 100 / p) := by
  have hs : shortestOf mem = some p := by
    cases hc : shortestOf mem with
    | none => exact absurd hp ((shortestOf_spec mem).1 hc p)
    | some m =>
      obtain ⟨hm, leastm⟩ := (shortestOf_spec mem).2 m hc
      rw [Nat.le_antisymm (least m hm) (leastm p hp)]
  simp [periodSpeedOf, hs, clampNat_zero]

@[simp] theorem largest_append (l : List Nat) (v : Nat) : largest (l ++ [v]) = max (largest l) v := by
  simp [largest]

/-- The largest of a list bounds each of it, and is one of it or 0. -/
theorem largest_spec (l : List Nat) : (∀ v ∈ l, v ≤ largest l) ∧ (largest l = 0 ∨ largest l ∈ l) := by
  induction l using List.reverseRecOn with
  | nil => simp [largest]
  | append_singleton l n ih =>
    obtain ⟨bound, one⟩ := ih
    rw [largest_append]
    refine ⟨fun v hv => ?_, ?_⟩
    · rcases List.mem_append.1 hv with hv | hv
      · exact (bound v hv).trans (Nat.le_max_left _ _)
      · obtain rfl := List.mem_singleton.1 hv
        exact Nat.le_max_right _ _
    · rcases Nat.le_total (largest l) n with h | h
      · simp [h]
      · rcases one with one | one <;> simp [h, one]

/-- A gust taken as the larger of the period speed and the memory's largest is one of the two. -/
theorem max_largest_mem (period : Nat) (mem : List Nat) :
    max period (largest mem) = period ∨ max period (largest mem) ∈ mem := by
  rcases (largest_spec mem).2 with h | h
  · simp [h]
  · rcases Nat.le_total period (largest mem) with k | k <;> simp [k, h]

theorem vaneWith_eq {history : List Nat} (h : history.length ≤ 3) (reading : Nat) :
    vaneWith reading history = (history ++ [reading]).drop ((history ++ [reading]).length - 3) := by
  unfold vaneWith
  have hl : (history ++ [reading]).length = history.length + 1 := by simp
  rw [hl]
  split
  · rw [show history.length + 1 - 3 = 0 by omega]
    rfl
  · rw [List.drop_append_of_le_length (by omega)]
    rfl

theorem acceptedOf_near {a b c : Nat} (h1 : sectorDiff a b ≤ 1) (h2 : sectorDiff a c ≤ 1) (h3 : sectorDiff b c ≤ 1) :
    acceptedOf [a, b, c] = some c := by
  simp [acceptedOf, h1, h2, h3]

theorem acceptedOf_apart {a b c : Nat} (h : 1 < sectorDiff a b ∨ 1 < sectorDiff a c ∨ 1 < sectorDiff b c) :
    acceptedOf [a, b, c] = none := by
  have hn : ¬((sectorDiff a b ≤ 1 ∧ sectorDiff a c ≤ 1) ∧ sectorDiff b c ≤ 1) := by omega
  simp [acceptedOf, hn]

theorem acceptedOf_short {l : List Nat} (h : l.length ≠ 3) : acceptedOf l = none := by
  unfold acceptedOf
  split
  · simp at h
  · rfl

/-- The vane lines of a sector read back as the sector (R11). -/
theorem graySector_lines : ∀ sector : BitVec 4, graySector (sector ^^^ (sector >>> 1)) = sector.toNat := by decide

/-! ### Triggers and the assessment tick: what they leave -/

theorem placeObserve_eq (cls : Class) (s : State) : placeObserve cls s =
    { s with line := { s.line with queue := (placeObserve cls s).line.queue } } := by
  unfold placeObserve place
  split
  · rfl
  · exact congrArg s.setLine (put_queue _ _ _ _ _)

/-- A trigger moves the transmit queue, the hold-off deadline and the deferred class, and nothing else (R37). -/
theorem triggerObserve_eq (cls : Class) (s : State) : triggerObserve cls s = { s with
    line := { s.line with queue := (triggerObserve cls s).line.queue }
    weather := { s.weather with
      holdoffDl := (triggerObserve cls s).weather.holdoffDl, deferred := (triggerObserve cls s).weather.deferred } } := by
  have placed : placeImmediate cls s = { s with
      line := { s.line with queue := (placeImmediate cls s).line.queue }
      weather := { s.weather with
        holdoffDl := (placeImmediate cls s).weather.holdoffDl, deferred := (placeImmediate cls s).weather.deferred } } := by
    unfold placeImmediate
    rw [placeObserve_eq]
    rfl
  unfold triggerObserve
  split
  · rfl
  · split
    · exact placed
    · split
      · exact placed
      · rfl

/-- Setting the weather levels' states is no more than an appointment may do. -/
theorem takeResult_turns (a b c d : Bool) (s : State) : Turns s (takeResult a b c d s) := by
  unfold takeResult
  refine Turns.trans ?_ (appointFrom_spec _ _).1
  exact { Turns.refl s with }

/-- An assessment tick keeps the Sensor Front and the anemometer state (R58, R76). -/
theorem assessmentTick_keeps (s : State) :
    (assessmentTick s).sensor = s.sensor ∧ (assessmentTick s).weather.anem = s.weather.anem := by
  unfold assessmentTick
  generalize hr : takeResult _ _ _ _ _ = r
  have kept : r.sensor = s.sensor ∧ r.weather.anem = s.weather.anem := by
    have h := takeResult_turns (stormCondition s) (!stormCondition s && due s.nt s.weather.stormQuietDl)
      (rainCondition s) (!rainCondition s && due s.nt s.weather.rainQuietDl) (s.setWeather (assessed s))
    rw [hr] at h
    exact ⟨h.sensor, by rw [h.weather]; rfl⟩
  unfold gustTrigger
  split
  · rw [triggerObserve_eq]
    exact kept
  · exact kept

/-! ### Window ends -/

/-- The Sensor Front after a window end, with the wind part set or clear. -/
def windowFront (vane : BitVec 4) (s : State) : Sensor :=
  if s.cfg.windFitted then closedWindow s.cfg s.nt vane s.sensor else calmWindow s.nt s.sensor

/-- A window end in the safe profile makes no assessment (R58, R79). -/
theorem takeWindowEnd_safe (vane : BitVec 4) {s : State} (h : s.safe = true) :
    takeWindowEnd vane s = (s.setPins { s.pins with vane := vane }).setSensor (windowFront vane s) := if_pos h

/-- A window end outside the safe profile judges the anemometer and makes an assessment tick (R13, R58). -/
theorem takeWindowEnd_assesses (vane : BitVec 4) {s : State} (h : s.safe = false) :
    takeWindowEnd vane s = assessmentTick
      (((s.setPins { s.pins with vane := vane }).setSensor (windowFront vane s)).setWeather
        { s.weather with anem := anemAfter s (windowFront vane s).zeroRun }) :=
  if_neg (by simp [h])

theorem takeWindowEnd_sensor (vane : BitVec 4) (s : State) : (takeWindowEnd vane s).sensor = windowFront vane s := by
  cases h : s.safe with
  | true => rw [takeWindowEnd_safe vane h]; rfl
  | false => rw [takeWindowEnd_assesses vane h]; exact (assessmentTick_keeps _).1

theorem takeWindowEnd_anem (vane : BitVec 4) {s : State} (h : s.safe = false) :
    (takeWindowEnd vane s).weather.anem = anemAfter s (windowFront vane s).zeroRun := by
  rw [takeWindowEnd_assesses vane h]
  exact (assessmentTick_keeps _).2

theorem exec_windowEnd (vane : BitVec 4) {s : State} (hp : s.power = true) (hw : windowEnds s = true) :
    exec (.windowEnd vane) s = .next (commit s (takeWindowEnd vane s)) :=
  congrArg _ (liveWhen_due _ hp hw)

theorem windowFront_fitted (vane : BitVec 4) {s : State} (h : s.cfg.windFitted = true) :
    windowFront vane s = closedWindow s.cfg s.nt vane s.sensor := if_pos h

theorem windowFront_calm (vane : BitVec 4) {s : State} (h : s.cfg.windFitted = false) :
    windowFront vane s = calmWindow s.nt s.sensor := if_neg (by simp [h])

theorem closedWindow_direction (cfg : Loaded) (nt : Time) (vane : BitVec 4) (f : Sensor) :
    (closedWindow cfg nt vane f).direction = (acceptedOf (closedWindow cfg nt vane f).vane).or f.direction := rfl

/-- The gust of a closed window bounds its gust memory and its period speed, and is one of them (R8). -/
theorem closedWindow_gust (cfg : Loaded) (nt : Time) (vane : BitVec 4) (f : Sensor) :
    let g := closedWindow cfg nt vane f
    (∀ v ∈ g.gustMem, v ≤ g.gust) ∧ g.periodSpeed ≤ g.gust ∧ (g.gust = g.periodSpeed ∨ g.gust ∈ g.gustMem) :=
  ⟨fun v hv => ((largest_spec _).1 v hv).trans (Nat.le_max_right _ _), Nat.le_max_left _ _, max_largest_mem _ _⟩

/-- Settles O26: the Sensor Front after the command is the closed window, whatever the tick then does. -/
theorem windowEndFormsTheWind : Obligations.WindowEndFormsTheWind := by
  intro vane s hp hw hf
  refine ⟨_, exec_windowEnd vane hp hw, ?_⟩
  rw [commit_sensor, takeWindowEnd_sensor, windowFront_fitted vane hf, closedWindow_direction]
  obtain ⟨bound, above, one⟩ := closedWindow_gust s.cfg s.nt vane s.sensor
  exact ⟨clampNat_zero _ _, rfl, rfl, rfl, rfl, periodSpeedOf_absent _, fun p => periodSpeedOf_least _, rfl,
    bound, above, one, rfl, rfl, fun hl => vaneWith_eq hl _,
    fun a b c hv h1 h2 h3 => by rw [hv, acceptedOf_near h1 h2 h3]; rfl,
    fun a b c hv h => by rw [hv, acceptedOf_apart h]; rfl,
    fun hv => by rw [acceptedOf_short hv]; rfl, graySector_lines⟩

theorem windyPeer_iff (r : PeerRecord) : windyPeer r = true ↔
    ∃ o, r.obs = some o ∧ o.fresh = true ∧ o.windCapable = true ∧ 50 ≤ o.mean := by
  unfold windyPeer
  cases r.obs <;> simp [and_assoc]

/-- STUCK after a window end with the wind part set (R13). -/
theorem anemAfter_stuck_iff {s : State} (h : s.cfg.windFitted = true) (n : Nat) : anemAfter s n = .stuck ↔
    s.weather.anem = .stuck ∨ (s.weather.anem = .ok ∧ n = 600 ∧ ∃ r ∈ s.peers, windyPeer r = true) := by
  simp only [anemAfter, h, Bool.not_true, Bool.false_eq_true, if_false, List.any_eq_true]
  split
  · next hc => simp [hc]
  · next hc => simp [hc]

theorem anemAfter_ok {s : State} {n : Nat} (h : anemAfter s n = .ok) : s.weather.anem = .ok := by
  unfold anemAfter at h
  split at h
  · cases h
  · split at h
    · cases h
    · exact h

/-- Settles O27: the anemometer state is judged by the window just closed, and stays in the safe profile. -/
theorem windowEndJudgesTheAnemometer : Obligations.WindowEndJudgesTheAnemometer := by
  refine ⟨fun vane s hp hw hf => ⟨_, exec_windowEnd vane hp hw, ?_⟩,
    fun vane s hp hw hf => ⟨_, exec_windowEnd vane hp hw, ?_⟩,
    fun vane s hr hw hs => ?_⟩
  · rw [commit_sensor, commit_weather, takeWindowEnd_sensor]
    refine ⟨?_, fun hs => ?_, fun h => ?_⟩
    · rw [windowFront_fitted vane hf]
      rfl
    · rw [takeWindowEnd_anem vane hs, anemAfter_stuck_iff hf]
      simp only [windyPeer_iff]
    · cases hs : s.safe with
      | true => rw [takeWindowEnd_safe vane hs] at h; exact h
      | false => rw [takeWindowEnd_anem vane hs] at h; exact anemAfter_ok h
  · rw [commit_sensor, commit_weather, takeWindowEnd_sensor, windowFront_calm vane hf]
    refine ⟨fun hs => ?_, rfl⟩
    rw [takeWindowEnd_anem vane hs]
    simp [anemAfter, hf]
  · exact ⟨_, congrArg Host.Outcome.next (liveWhen_quiet hr hw (takeWindowEnd_safe vane hs) rfl rfl rfl rfl), rfl⟩

end Sys2Proof.Machine
end

section
/-! The wetness grid (R15 to R17) and the OBSERVE that a change of the wet state raises (R37, R77). -/

namespace Sys2Proof.Machine

/-! ### The agreement test -/

theorem agreeOn_same {p : Wet} {f : Sensor} (h : p = f.wet) : agreeOn p f = { f with candidate := none, agree := 0 } :=
  if_pos h

theorem agreeOn_again {p : Wet} {f : Sensor} (h : p ≠ f.wet) (hc : f.candidate = some p) (ha : f.agree < 3) :
    agreeOn p f = { f with agree := f.agree + 1 } := by
  have hn : ¬4 ≤ f.agree + 1 := by omega
  simp [agreeOn, h, hc, hn]

theorem agreeOn_fourth {p : Wet} {f : Sensor} (h : p ≠ f.wet) (hc : f.candidate = some p) (ha : 3 ≤ f.agree) :
    agreeOn p f = { f with wet := p, candidate := none, agree := 0 } := by
  have hn : 4 ≤ f.agree + 1 := by omega
  simp [agreeOn, h, hc, hn]

theorem agreeOn_new {p : Wet} {f : Sensor} (h : p ≠ f.wet) (hc : f.candidate ≠ some p) :
    agreeOn p f = { f with candidate := some p, agree := 1 } := by
  simp [agreeOn, h, hc]

/-- The agreement test moves the wet state, the candidate and the agreement count, and nothing else. -/
theorem agreeOn_eq (p : Wet) (f : Sensor) : agreeOn p f = { f with
    wet := (agreeOn p f).wet, candidate := (agreeOn p f).candidate, agree := (agreeOn p f).agree } := by
  unfold agreeOn
  split
  · rfl
  · split
    · split <;> rfl
    · rfl

/-! ### A sample -/

/-- The run of samples at full scale after one more (R17). -/
def highAfter (v : Nat) (f : Sensor) : Nat := if 4080 ≤ v then f.highRun + 1 else 0

theorem sampleGrid_proposes {v : Nat} {f : Sensor} (h : f.wet ≠ .fault) (hh : highAfter v f < 2400) :
    sampleGrid v f = { agreeOn (proposedWet f.wet v) f with highRun := highAfter v f } := by
  unfold sampleGrid
  rw [if_neg h]
  exact if_neg (Nat.not_le.2 hh)

theorem sampleGrid_faults {v : Nat} {f : Sensor} (h : f.wet ≠ .fault) (hh : 2400 ≤ highAfter v f) :
    sampleGrid v f = { agreeOn (proposedWet f.wet v) f with
      wet := .fault, candidate := none, agree := 0, clearRun := 0, highRun := 2400 } := by
  unfold sampleGrid
  rw [if_neg h]
  exact if_pos hh

theorem sampleGrid_fault_high {v : Nat} {f : Sensor} (h : f.wet = .fault) (hv : 4080 ≤ v) :
    sampleGrid v f = { f with clearRun := 0 } := by
  have hn : ¬v < 4080 := by omega
  simp [sampleGrid, h, hn]

theorem sampleGrid_fault_low {v : Nat} {f : Sensor} (h : f.wet = .fault) (hv : v < 4080) (hc : f.clearRun < 3) :
    sampleGrid v f = { f with clearRun := f.clearRun + 1 } := by
  have hn : ¬4 ≤ f.clearRun + 1 := by omega
  simp [sampleGrid, h, hv, hn]

theorem sampleGrid_fault_clears {v : Nat} {f : Sensor} (h : f.wet = .fault) (hv : v < 4080) (hc : 3 ≤ f.clearRun) :
    sampleGrid v f = { f with wet := .dry, clearRun := 4, highRun := 0, agree := 0, candidate := none } := by
  have hn : 4 ≤ f.clearRun + 1 := by omega
  simp [sampleGrid, h, hv, hn]

/-- A sample moves the wet state, the agreement test and the two runs, and nothing else of the Sensor Front. -/
theorem sampleGrid_eq (v : Nat) (f : Sensor) : sampleGrid v f = { f with
    wet := (sampleGrid v f).wet, candidate := (sampleGrid v f).candidate, agree := (sampleGrid v f).agree
    highRun := (sampleGrid v f).highRun, clearRun := (sampleGrid v f).clearRun } := by
  by_cases h : f.wet = .fault
  · by_cases hv : v < 4080
    · by_cases hc : f.clearRun < 3
      · rw [sampleGrid_fault_low h hv hc]
      · rw [sampleGrid_fault_clears h hv (by omega)]
    · rw [sampleGrid_fault_high h (by omega)]
  · by_cases hh : highAfter v f < 2400
    · rw [sampleGrid_proposes h hh, agreeOn_eq]
    · rw [sampleGrid_faults h (by omega), agreeOn_eq]

/-! ### The trigger -/

theorem placeObserve_taken {s : State} (h : refusesPlacement .observe s = false) (cls : Class) :
    placeObserve cls s = s.setLine (s.line.put s.nt .observe cls (observePayload s)) := by
  simp [placeObserve, place, h]

/-- A trigger in a node that is not held off places its OBSERVE at once (R37). -/
theorem triggerObserve_placed {s : State} (h : refusesPlacement .observe s = false) (hd : s.weather.holdoffDl = none)
    (cls : Class) : triggerObserve cls s = placeImmediate cls s := by
  simp [triggerObserve, h, hd]

/-- The OBSERVE of a trigger carries the payload of the moment. -/
theorem placeImmediate_holds {s : State} (h : refusesPlacement .observe s = false) (cls : Class) :
    ∃ e ∈ (placeImmediate cls s).line.queue, e.kind = .observe ∧ e.payload = observePayload (placeImmediate cls s) ∧
      e.cls = cls := by
  unfold placeImmediate
  rw [placeObserve_taken h]
  obtain ⟨e, he, hk, hc, hp⟩ := put_holds s.line s.nt .observe cls (observePayload s)
  exact ⟨e, he, hk, hp, hc⟩

theorem wetTriggerClass_eq (w : Wet) : wetTriggerClass w = if w = .damp ∨ w = .wet then .rain else .routine := by
  cases w <;> rfl

/-! ### The command -/

/-- The node with a grid sample taken by the Sensor Front. -/
def withGridSample (v : BitVec 12) (s : State) : State :=
  (s.setPins { s.pins with grid := v }).setSensor { sampleGrid v.toNat s.sensor with gridAt := some s.nt }

theorem takeGridSample_still {v : BitVec 12} {s : State} (h : (sampleGrid v.toNat s.sensor).wet = s.sensor.wet) :
    takeGridSample v s = withGridSample v s := if_pos h

theorem takeGridSample_moved {v : BitVec 12} {s : State} (h : (sampleGrid v.toNat s.sensor).wet ≠ s.sensor.wet) :
    takeGridSample v s = triggerObserve (wetTriggerClass (sampleGrid v.toNat s.sensor).wet) (withGridSample v s) :=
  if_neg h

theorem takeGridSample_sensor (v : BitVec 12) (s : State) :
    (takeGridSample v s).sensor = { sampleGrid v.toNat s.sensor with gridAt := some s.nt } := by
  by_cases h : (sampleGrid v.toNat s.sensor).wet = s.sensor.wet
  · rw [takeGridSample_still h]
    rfl
  · rw [takeGridSample_moved h, triggerObserve_eq]
    rfl

/-- A grid sample moves its part of the Sensor Front, the hold-off of triggers and the transmit queue, and nothing
else. -/
theorem takeGridSample_eq (v : BitVec 12) (s : State) : takeGridSample v s = { s with
    pins := { s.pins with grid := v }
    sensor := { s.sensor with
      wet := (takeGridSample v s).sensor.wet, candidate := (takeGridSample v s).sensor.candidate
      agree := (takeGridSample v s).sensor.agree, highRun := (takeGridSample v s).sensor.highRun
      clearRun := (takeGridSample v s).sensor.clearRun, gridAt := some s.nt }
    weather := { s.weather with
      holdoffDl := (takeGridSample v s).weather.holdoffDl, deferred := (takeGridSample v s).weather.deferred }
    line := { s.line with queue := (takeGridSample v s).line.queue } } := by
  have front : (withGridSample v s).sensor = { s.sensor with
      wet := (sampleGrid v.toNat s.sensor).wet, candidate := (sampleGrid v.toNat s.sensor).candidate
      agree := (sampleGrid v.toNat s.sensor).agree, highRun := (sampleGrid v.toNat s.sensor).highRun
      clearRun := (sampleGrid v.toNat s.sensor).clearRun, gridAt := some s.nt } :=
    congrArg (fun f : Sensor => { f with gridAt := some s.nt }) (sampleGrid_eq v.toNat s.sensor)
  rw [takeGridSample_sensor, ← front]
  by_cases h : (sampleGrid v.toNat s.sensor).wet = s.sensor.wet
  · rw [takeGridSample_still h]
    rfl
  · rw [takeGridSample_moved h]
    exact triggerObserve_eq _ _

/-- A grid sample changes nothing that a STATE reports or the record mirrors. -/
theorem exec_gridSample {v : BitVec 12} {s : State} (hr : Ready s) (hd : gridDue s = true) :
    exec (.gridSample v) s = .next (takeGridSample v s) := by
  refine congrArg Host.Outcome.next (liveWhen_quiet hr hd rfl ?_ ?_ ?_ ?_) <;> rw [takeGridSample_eq] <;> rfl

/-- The proposal of a sample outside FAULT moves the wet state by the agreement test (R15, R16). -/
theorem takeGridSample_agrees {v : BitVec 12} {s : State} (h : s.sensor.wet ≠ .fault)
    (hh : highAfter v.toNat s.sensor < 2400) {p : Wet} (hp : p = proposedWet s.sensor.wet v.toNat) :
    let f := (takeGridSample v s).sensor
    f.highRun = highAfter v.toNat s.sensor ∧ f.clearRun = s.sensor.clearRun ∧
    (p = s.sensor.wet → f.wet = s.sensor.wet ∧ f.candidate = none ∧ f.agree = 0) ∧
    (p ≠ s.sensor.wet → s.sensor.candidate = some p → s.sensor.agree < 3 →
      f.wet = s.sensor.wet ∧ f.candidate = some p ∧ f.agree = s.sensor.agree + 1) ∧
    (p ≠ s.sensor.wet → s.sensor.candidate = some p → 3 ≤ s.sensor.agree →
      f.wet = p ∧ f.candidate = none ∧ f.agree = 0) ∧
    (p ≠ s.sensor.wet → s.sensor.candidate ≠ some p →
      f.wet = s.sensor.wet ∧ f.candidate = some p ∧ f.agree = 1) := by
  rw [takeGridSample_sensor, sampleGrid_proposes h hh, ← hp]
  refine ⟨rfl, ?_, fun k => ?_, fun k c a => ?_, fun k c a => ?_, fun k c => ?_⟩
  · rw [agreeOn_eq]
  · rw [agreeOn_same k]
    exact ⟨rfl, rfl, rfl⟩
  · rw [agreeOn_again k c a]
    exact ⟨rfl, c, rfl⟩
  · rw [agreeOn_fourth k c a]
    exact ⟨rfl, rfl, rfl⟩
  · rw [agreeOn_new k c]
    exact ⟨rfl, rfl, rfl⟩

/-- A sample in FAULT moves the run below full scale, whose fourth clears the fault (R17). -/
theorem takeGridSample_in_fault {v : BitVec 12} {s : State} (h : s.sensor.wet = .fault) :
    let f := (takeGridSample v s).sensor
    (4080 ≤ v.toNat → f.wet = .fault ∧ f.clearRun = 0) ∧
    (v.toNat < 4080 → s.sensor.clearRun < 3 → f.wet = .fault ∧ f.clearRun = s.sensor.clearRun + 1) ∧
    (v.toNat < 4080 → 3 ≤ s.sensor.clearRun →
      f.wet = .dry ∧ f.candidate = none ∧ f.agree = 0 ∧ f.highRun = 0 ∧ f.clearRun = 4) := by
  rw [takeGridSample_sensor]
  refine ⟨fun hv => ?_, fun hv hc => ?_, fun hv hc => ?_⟩
  · rw [sampleGrid_fault_high h hv]
    exact ⟨h, rfl⟩
  · rw [sampleGrid_fault_low h hv hc]
    exact ⟨h, rfl⟩
  · rw [sampleGrid_fault_clears h hv hc]
    exact ⟨rfl, rfl, rfl, rfl, rfl⟩

/-- A change of the wet state in a node that is not held off places an OBSERVE at once (R37, R77). -/
theorem takeGridSample_observes {v : BitVec 12} {s : State} (h : (takeGridSample v s).sensor.wet ≠ s.sensor.wet)
    (hr : refusesPlacement .observe s = false) (hd : s.weather.holdoffDl = none) :
    (takeGridSample v s).weather.holdoffDl = some (after s.nt 500) ∧
    ∃ e ∈ (takeGridSample v s).line.queue, e.kind = .observe ∧ e.payload = observePayload (takeGridSample v s) ∧
      e.cls = (if (takeGridSample v s).sensor.wet = .damp ∨ (takeGridSample v s).sensor.wet = .wet then .rain
        else .routine) := by
  have hm : takeGridSample v s = placeImmediate (wetTriggerClass (takeGridSample v s).sensor.wet) (withGridSample v s) := by
    rw [takeGridSample_sensor] at h ⊢
    rw [takeGridSample_moved h]
    exact triggerObserve_placed (s := withGridSample v s) hr hd _
  rw [← wetTriggerClass_eq]
  generalize wetTriggerClass (takeGridSample v s).sensor.wet = cls at hm ⊢
  rw [hm]
  refine ⟨?_, placeImmediate_holds (s := withGridSample v s) hr cls⟩
  unfold placeImmediate
  rw [placeObserve_eq]
  rfl

/-- Settles O28: proposal, agreement and fault of the sample, and the trigger where the wet state moved. -/
theorem gridSampleMovesTheWetState : Obligations.GridSampleMovesTheWetState := by
  refine ⟨fun v s hr hf => ⟨by simp [gridDriven, hf], ?_⟩, fun v s hr hd => ⟨?_, _, exec_gridSample hr hd, ?_⟩⟩
  · exact congrArg Host.Outcome.next (liveWhen_idle _ (by simp [gridDue, hf]))
  · have hf : s.cfg.wetFitted = true := by simp [gridDue] at hd; exact hd.1.1
    simp [gridDriven, hr.1, hf]
  · refine ⟨fun hw => ⟨fun hh => ?_, fun hh => ?_⟩, takeGridSample_in_fault, takeGridSample_eq v s,
      fun h => ?_, takeGridSample_observes⟩
    · refine takeGridSample_agrees hw hh ?_
      cases h : s.sensor.wet with
      | fault => exact absurd h hw
      | dry | damp | wet => rfl
    · rw [takeGridSample_sensor, sampleGrid_faults hw hh]
      exact ⟨rfl, rfl, rfl, rfl, rfl⟩
    · rw [takeGridSample_sensor] at h
      rw [takeGridSample_still h]
      exact ⟨rfl, rfl⟩

end Sys2Proof.Machine
end

section
/-! Which level acts after an appointment (R81), and what a handing of no goal does. -/

namespace Sys2Proof.Machine

/-! ### The acting level -/

theorem appointed_acting (l : Level) (c : Option Level) (p : LevelState) :
    appointed l c p = .acting ↔ p ≠ .quiet ∧ c = some l := by
  unfold appointed
  split
  · simp_all
  · split <;> simp_all

/-- The level chosen is raised (R81). -/
theorem chosenLevel_raised {s : State} {l : Level} (h : chosenLevel s = some l) :
    (l = .storm → s.levels.storm ≠ .quiet) ∧ (l = .rain → s.levels.rain ≠ .quiet) ∧
    (l = .demand → s.levels.demand ≠ .quiet) := by
  unfold chosenLevel at h
  split at h
  · cases h
  · split at h
    · cases h; simp_all
    · split at h
      · cases h; simp_all
      · split at h
        · cases h; simp_all
        · cases h

/-- With every level in the state an appointment gives it, the level that acts is the one chosen (R81). -/
theorem acting_of_lawful {s : State} (h : LevelsLawful s) : acting s = chosenLevel s := by
  obtain ⟨hs, hr, hd⟩ := h
  have storm : s.levels.storm = .acting ↔ s.levels.storm ≠ .quiet ∧ chosenLevel s = some .storm := by
    conv_lhs => rw [hs]
    exact appointed_acting _ _ _
  have rain : s.levels.rain = .acting ↔ s.levels.rain ≠ .quiet ∧ chosenLevel s = some .rain := by
    conv_lhs => rw [hr]
    exact appointed_acting _ _ _
  have demand : s.levels.demand = .acting ↔ s.levels.demand ≠ .quiet ∧ chosenLevel s = some .demand := by
    conv_lhs => rw [hd]
    exact appointed_acting _ _ _
  unfold acting Levels.acting
  cases hc : chosenLevel s with
  | none => simp [storm, rain, demand, hc]
  | some l =>
    obtain ⟨h1, h2, h3⟩ := chosenLevel_raised hc
    cases l with
    | storm => simp [storm, hc, h1]
    | rain => simp [storm, rain, hc, h2]
    | demand => simp [storm, rain, demand, hc, h3]

theorem appointFrom_chosen (before : Option Level) (s : State) :
    chosenLevel (appointFrom before s) = chosenLevel s := by
  obtain ⟨turns, -, hs, hr, hd⟩ := appointFrom_spec before s
  exact chosenLevel_congr turns.serviceHold turns.listen turns.safe
    (by rw [hs]; exact appointed_quiet _ _ _) (by rw [hr]; exact appointed_quiet _ _ _)
    (by rw [hd]; exact appointed_quiet _ _ _)

/-- After an appointment the level chosen acts (R81). -/
theorem appointFrom_acting (before : Option Level) (s : State) : acting (appointFrom before s) = chosenLevel s :=
  (acting_of_lawful (appointFrom_spec before s).2.1).trans (appointFrom_chosen before s)

theorem acting_setAppointed (s : State) : acting (s.setLevels (appointedLevels s)) = chosenLevel s :=
  (acting_of_lawful (setAppointed_lawful s)).trans (chosenLevel_appointed s)

/-- An appointment after which the same level acts hands nothing (R81, R85). -/
theorem appointFrom_same {before : Option Level} {s : State} (h : chosenLevel s = before) :
    appointFrom before s = s.setLevels (appointedLevels s) := by
  unfold appointFrom
  exact if_pos ((acting_setAppointed s).trans h)

/-- An appointment after which another level acts hands its goal (R81, R85). -/
theorem appointFrom_other {before : Option Level} {s : State} (h : chosenLevel s ≠ before) :
    appointFrom before s = handGoal (s.setLevels (appointedLevels s)) := by
  unfold appointFrom
  exact if_neg (by rwa [acting_setAppointed])

theorem chosenLevel_not {s : State} (h : mayAct s = false) : chosenLevel s = none := by
  simp [chosenLevel, h]

theorem mayAct_safe {s : State} (h : s.safe = true) : mayAct s = false := by simp [mayAct, h]

/-- In the safe profile no level acts (R81). -/
theorem acting_safe {s : State} (h : LevelsLawful s) (hs : s.safe = true) : acting s = none :=
  (acting_of_lawful h).trans (chosenLevel_not (mayAct_safe hs))

/-! ### Passages written out -/

/-- A passage moves the drive, the cross-check deadline and the sag timer, and nothing else. -/
theorem moveDrive_eq (d : Drive) (s : State) : moveDrive d s = { s with
    drive := d, pos := (moveDrive d s).pos, supply := (moveDrive d s).supply } := by
  unfold moveDrive
  dsimp only
  split <;> split <;> rfl

/-- An entry into STOPPING keeps the levels. -/
theorem enterStopping_eq (c : Continuation) (s : State) : enterStopping c s = { s with
    drive := { s.drive.cleared with state := .stopping, stopDl := some (after s.nt 200), continuation := some c }
    pos := (enterStopping c s).pos, supply := (enterStopping c s).supply } := moveDrive_eq _ _

/-- An entry into IDLE while no level acts: the drive rests and the levels stay (R129, R151). -/
theorem enterIdle_unled {s : State} (h : acting s = none) : enterIdle s = { s with
    supply := (enterIdle s).supply, line := (enterIdle s).line, pos := (enterIdle s).pos
    drive := { s.drive.cleared.unmarked with state := .idle, retry := 0 } } := by
  rw [enterIdle_rests (.inr (.inr h)), restInIdle_eq]
  simp only [h, if_pos]
  split <;> rfl

/-- A handing of no goal leaves the drive where it is, brings it to rest, or brakes it (R120, R122, R127, R133). -/
theorem takeGoal_none (s : State) :
    takeGoal none s = s.setDrive { s.drive with goal := none } ∨
    takeGoal none s = enterIdle (s.setDrive { s.drive with goal := none }) ∨
    takeGoal none s = enterStopping .goal (s.setDrive { s.drive with goal := none }) := by
  by_cases hc : s.drive.controlledStop = true
  · exact .inl (by simp [takeGoal, hc])
  · by_cases hg : none = s.drive.goal
    · cases hd : s.drive.state <;> simp [takeGoal, hc, hd, ← hg, takeGoalAtRest]
    · cases hd : s.drive.state <;>
        simp [takeGoal, hc, hd, hg, takeGoalAtRest, changeWhileWaiting, changeWhileWarning, changeWhileMoving]

/-- A handing of no goal while no level acts keeps the levels. -/
theorem takeGoal_none_levels {s : State} (h : acting s = none) : (takeGoal none s).levels = s.levels := by
  have h' : acting (s.setDrive { s.drive with goal := none }) = none := h
  rcases takeGoal_none s with k | k | k <;> rw [k]
  · rfl
  · rw [enterIdle_unled h']
    rfl
  · rw [enterStopping_eq]
    rfl

/-- A handing while no level acts leaves no goal handed and no hold reference (R85, R86). -/
theorem handGoal_unled {s : State} (h : acting s = none) :
    (handGoal s).levels.handed = none ∧ (handGoal s).levels.holdRef = none := by
  have hg : formGoal s = none := by simp [formGoal, h]
  have hr : acting (recordHanding s) = none := h
  unfold handGoal
  rw [hg, takeGoal_none_levels hr]
  simp [recordHanding, hg]

end Sys2Proof.Machine
end

section
/-! The service key (R19, R93, R156, R163). -/

namespace Sys2Proof.Machine

/-! ### A contact settles -/

theorem settleContact_same {need : Nat} {level : Bool} {settled : Option Bool} (h : settled = some level) (run : Nat) :
    settleContact need level settled run = (settled, 0) := if_pos h

theorem settleContact_counts {need run : Nat} {level : Bool} {settled : Option Bool} (h : settled ≠ some level)
    (hr : run + 1 < need) : settleContact need level settled run = (settled, run + 1) := by
  simp [settleContact, h, Nat.not_le.2 hr]

theorem settleContact_settles {need run : Nat} {level : Bool} {settled : Option Bool} (h : settled ≠ some level)
    (hr : need ≤ run + 1) : settleContact need level settled run = (some level, 0) := by
  simp [settleContact, h, hr]

/-! ### A sample of the key -/

/-- The node with a sample of the key taken by the Sensor Front. -/
def withKeySample (on : Bool) (settled : Option Bool) (run : Nat) (s : State) : State :=
  (s.setPins { s.pins with keyOn := on }).setSensor
    { s.sensor with keySettled := settled, keyRun := run, keyAt := some s.nt }

/-- A sample after which the key's settled level is the old one only counts (R19). -/
theorem takeKeySample_still {on : Bool} {s : State} {run : Nat}
    (h : settleContact 20 on s.sensor.keySettled s.sensor.keyRun = (s.sensor.keySettled, run)) :
    takeKeySample on s = withKeySample on s.sensor.keySettled run s := by
  unfold takeKeySample
  rw [h]
  simp only [ne_eq, and_not_self, if_false]
  rw [if_neg (by rintro ⟨h1, h2⟩; cases h1.symm.trans h2)]
  rfl

theorem takeKeySample_settles {on : Bool} {s : State} (h : s.sensor.keySettled ≠ some on) (hr : 19 ≤ s.sensor.keyRun) :
    takeKeySample on s =
      (if on = true then takeKeyOn (withKeySample on (some on) 0 s)
       else if s.sensor.keySettled = some true then takeKeyOff (withKeySample on (some on) 0 s)
       else withKeySample on (some on) 0 s) := by
  unfold takeKeySample
  rw [settleContact_settles h (by omega)]
  cases on with
  | true => simp [h]; rfl
  | false => simp; rfl

theorem exec_keySample {on : Bool} {s : State} (hp : s.power = true) (hd : keyDue s = true) :
    exec (.keySample on) s = .next (commit s (takeKeySample on s)) :=
  congrArg Host.Outcome.next (liveWhen_due _ hp hd)

/-- A sample that only counts brings nothing else about. -/
theorem exec_keySample_quiet {on : Bool} {s : State} {settled : Option Bool} {run : Nat} (hr : Ready s)
    (hd : keyDue s = true) (h : takeKeySample on s = withKeySample on settled run s) :
    exec (.keySample on) s = .next (withKeySample on settled run s) :=
  congrArg Host.Outcome.next (liveWhen_quiet hr hd h rfl rfl rfl rfl)

/-! ### Service hold turned on and off -/

/-- The node with service hold turned on or off. -/
def withHold (hold : Bool) (s : State) : State := s.setLevels { s.levels with serviceHold := hold }

theorem mayAct_withHold (s : State) : mayAct (withHold true s) = false := by simp [mayAct, withHold]

theorem interruptSafeSeat_moves (s : State) : Moves s (interruptSafeSeat s) := by
  have h : Moves s (s.setDrive { s.drive with safePhase := .notBegun }) :=
    Moves.setDrive _ _ rfl rfl (fun h => h) (fun h => h)
  unfold interruptSafeSeat
  split
  · exact h.trans (enterIdle_moves _)
  · exact h.trans (enterStopping_moves _ _)
  · exact Moves.refl s

theorem takeKeyOn_eq (s : State) : takeKeyOn s =
    let t := appointFrom (acting s) (withHold true s)
    if t.safe then interruptSafeSeat t else t := rfl

/-- What a key-on does to the levels (R93, R81): service hold on, no level acts, none is raised or cleared. -/
theorem takeKeyOn_levels {s : State} (h : LevelsLawful s) :
    let t := takeKeyOn s
    Turns (withHold true s) t ∧ acting t = none ∧
    (t.levels.storm = .quiet ↔ s.levels.storm = .quiet) ∧ (t.levels.rain = .quiet ↔ s.levels.rain = .quiet) ∧
    (t.levels.demand = .quiet ↔ s.levels.demand = .quiet) ∧
    (acting s ≠ none → t.levels.handed = none ∧ t.levels.holdRef = none) := by
  have none' : chosenLevel (withHold true s) = none := chosenLevel_not (mayAct_withHold s)
  obtain ⟨turns, lawful, hs, hr, hd⟩ := appointFrom_spec (acting s) (withHold true s)
  have acts := (appointFrom_acting (acting s) (withHold true s)).trans none'
  have quiets : ∀ t, Moves (appointFrom (acting s) (withHold true s)) t →
      (t.levels.storm = .quiet ↔ s.levels.storm = .quiet) ∧ (t.levels.rain = .quiet ↔ s.levels.rain = .quiet) ∧
      (t.levels.demand = .quiet ↔ s.levels.demand = .quiet) := fun t m => by
    rw [m.storm, m.rain, m.demand, hs, hr, hd]
    exact ⟨appointed_quiet _ _ _, appointed_quiet _ _ _, appointed_quiet _ _ _⟩
  rw [takeKeyOn_eq]
  cases hsafe : s.safe with
  | true =>
    have m := interruptSafeSeat_moves (appointFrom (acting s) (withHold true s))
    obtain ⟨q1, q2, q3⟩ := quiets _ m
    simp only [if_pos (turns.safe.trans hsafe)]
    refine ⟨turns.trans m.toTurns, ?_, q1, q2, q3, fun ha => absurd (acting_safe h hsafe) ha⟩
    exact acting_safe (m.levelsLawful lawful) (m.safe.trans (turns.safe.trans hsafe))
  | false =>
    obtain ⟨q1, q2, q3⟩ := quiets _ (Moves.refl _)
    have hsafe' : ¬(appointFrom (acting s) (withHold true s)).safe = true := by
      rw [turns.safe.trans hsafe]
      exact Bool.false_ne_true
    simp only [if_neg hsafe']
    refine ⟨turns, acts, q1, q2, q3, fun ha => ?_⟩
    rw [appointFrom_other (by rw [none']; exact ha.symm)]
    exact handGoal_unled ((acting_setAppointed _).trans none')

/-- In the safe profile a turn of the key appoints no level and hands nothing. -/
theorem appointFrom_withHold_safe {s : State} (h : LevelsLawful s) (hs : s.safe = true) (hold : Bool) :
    appointFrom (acting s) (withHold hold s) =
      (withHold hold s).setLevels (appointedLevels (withHold hold s)) :=
  appointFrom_same ((chosenLevel_not (mayAct_safe (s := withHold hold s) hs)).trans (acting_safe h hs).symm)

/-- What a key-on in the safe profile does to the drive (R163). -/
theorem takeKeyOn_safe {s : State} (h : LevelsLawful s) (hs : s.safe = true) :
    let d := (takeKeyOn s).drive
    (s.drive.safePhase = .warning →
      d.state = .idle ∧ d.safePhase = .notBegun ∧ d.warningDl = none ∧ d.pattern = none) ∧
    (s.drive.safePhase = .seating → d.state = .stopping ∧ d.safePhase = .notBegun ∧
      d.continuation = some .goal ∧ d.stopDl = some (after s.nt 200) ∧ d.safeSeatDl = none) ∧
    (s.drive.safePhase = .notBegun ∨ s.drive.safePhase = .ended → d = s.drive) := by
  have hk : takeKeyOn s = interruptSafeSeat ((withHold true s).setLevels (appointedLevels (withHold true s))) := by
    rw [takeKeyOn_eq, appointFrom_withHold_safe h hs]
    exact if_pos hs
  have unled : acting ((withHold true s).setLevels (appointedLevels (withHold true s))) = none :=
    (acting_setAppointed _).trans (chosenLevel_not (mayAct_withHold s))
  rw [hk]
  generalize hu : (withHold true s).setLevels (appointedLevels (withHold true s)) = u at unled ⊢
  have hd : u.drive = s.drive := by rw [← hu]; rfl
  have hn : u.nt = s.nt := by rw [← hu]; rfl
  rw [← hd, ← hn]
  refine ⟨fun hp => ?_, fun hp => ?_, fun hp => ?_⟩
  · simp only [interruptSafeSeat, hp]
    rw [enterIdle_unled (by exact unled)]
    exact ⟨rfl, rfl, rfl, rfl⟩
  · simp only [interruptSafeSeat, hp]
    rw [enterStopping_eq]
    exact ⟨rfl, rfl, rfl, rfl, rfl⟩
  · rcases hp with hp | hp <;> simp [interruptSafeSeat, hp]

/-! ### The commissioning window and the safe seat at a key-off -/

/-- The end of a window moves the window and the queue, and nothing else. -/
theorem endWindow_eq (s : State) : endWindow s = { s with
    store := (endWindow s).store, line := (endWindow s).line } := by
  unfold endWindow closeWindow
  dsimp only
  split
  · rfl
  · split
    · rfl
    · split <;> rfl

theorem endWindow_closed {s : State} (h : s.store.writing = none) : (endWindow s).store.isOpen = false := by
  unfold endWindow closeWindow
  dsimp only
  split
  · next ho => simpa using ho
  · rw [h, if_neg (by simp)]
    split <;> rfl

theorem endWindow_waits {s : State} (ho : s.store.isOpen = true) (hw : s.store.writing.isSome = true) :
    endWindow s = s.setStore { s.store with closePending := true, deadline := none } := by
  simp [endWindow, ho, hw]

/-- The begin of the safe seat moves the drive and what a passage moves, and nothing else. -/
theorem beginSafeSeat_eq (s : State) : beginSafeSeat s = { s with
    drive := (beginSafeSeat s).drive, pos := (beginSafeSeat s).pos, supply := (beginSafeSeat s).supply } := by
  unfold beginSafeSeat
  split
  · exact moveDrive_eq _ _
  · rfl

theorem beginSafeSeat_begins {s : State} (h1 : s.safe = true) (h2 : s.listen = false)
    (h3 : s.levels.serviceHold = false) (h4 : s.drive.safePhase = .notBegun) (h5 : s.drive.state = .idle)
    (h6 : s.drive.controlledStop = false) : (beginSafeSeat s).drive = { s.drive.cleared with
      state := .warning, safePhase := .warning, pattern := some .warn, patternStart := s.nt
      warningDl := some (after s.nt 3000) } := by
  simp only [beginSafeSeat, h1, h2, h3, h4, h5, h6, Bool.not_false, Bool.and_self, beq_self_eq_true, if_true]
  rw [moveDrive_eq]

/-- A safe seat that has ended begins no more (R163). -/
theorem beginSafeSeat_ended {s : State} (h : s.drive.safePhase = .ended) : beginSafeSeat s = s := by
  simp [beginSafeSeat, h]

theorem takeKeyOff_eq (s : State) : takeKeyOff s =
    beginSafeSeat (endWindow (appointFrom (acting s) (withHold false s))) := rfl

/-- A key-off leaves the levels and the Sensor Front as the appointment does, and the window as its end does. -/
theorem takeKeyOff_kept (s : State) :
    let u := appointFrom (acting s) (withHold false s)
    (takeKeyOff s).levels = u.levels ∧ (takeKeyOff s).sensor = u.sensor ∧
    (takeKeyOff s).store = (endWindow u).store := by
  rw [takeKeyOff_eq, beginSafeSeat_eq, endWindow_eq]
  exact ⟨rfl, rfl, rfl⟩

/-- The level that acts with service hold off, written out (R81). -/
theorem chosenLevel_withHold_false (s : State) : chosenLevel (withHold false s) =
    if s.listen = true ∨ s.safe = true then none
    else if s.levels.storm ≠ .quiet then some .storm
    else if s.levels.rain ≠ .quiet then some .rain
    else if s.levels.demand ≠ .quiet then some .demand else none := by
  have may : mayAct (withHold false s) = (!s.listen && !s.safe) := rfl
  by_cases h : s.listen = true ∨ s.safe = true
  · rw [if_pos h]
    exact chosenLevel_not (by rw [may]; rcases h with h | h <;> simp [h])
  · have acts : mayAct (withHold false s) = true := by rw [may]; simpa using h
    rw [if_neg h]
    unfold chosenLevel
    rw [acts]
    rfl

/-- What a key-off does outside the drive (R93, R156). -/
theorem takeKeyOff_spec (s : State) :
    let t := takeKeyOff s
    t.sensor = s.sensor ∧ t.levels.serviceHold = false ∧ acting t = chosenLevel (withHold false s) ∧
    (s.store.writing = none → t.store.isOpen = false) ∧
    (s.store.isOpen = true → s.store.writing.isSome = true →
      t.store = { s.store with closePending := true, deadline := none }) := by
  obtain ⟨levels, sensor, store⟩ := takeKeyOff_kept s
  obtain ⟨turns, -⟩ := appointFrom_spec (acting s) (withHold false s)
  have acts := appointFrom_acting (acting s) (withHold false s)
  unfold acting at acts ⊢
  dsimp only
  rw [levels, sensor, store]
  refine ⟨turns.sensor, turns.serviceHold, acts, fun hw => ?_, fun ho hw => ?_⟩
  · exact endWindow_closed (by rw [turns.store]; exact hw)
  · rw [endWindow_waits (by rw [turns.store]; exact ho) (by rw [turns.store]; exact hw), State.setStore_store,
      turns.store]
    rfl

/-- What a key-off in the safe profile does to the drive (R163). -/
theorem takeKeyOff_safe {s : State} (h : LevelsLawful s) (hs : s.safe = true) (hl : s.listen = false) :
    (s.drive.safePhase = .notBegun → s.drive.state = .idle → s.drive.controlledStop = false →
      (takeKeyOff s).drive = { s.drive.cleared with
        state := .warning, safePhase := .warning, pattern := some .warn, patternStart := s.nt
        warningDl := some (after s.nt 3000) }) ∧
    (s.drive.safePhase = .ended → (takeKeyOff s).drive = s.drive) := by
  rw [takeKeyOff_eq, appointFrom_withHold_safe h hs, endWindow_eq]
  exact ⟨fun h1 h2 h3 => beginSafeSeat_begins hs hl rfl h1 h2 h3, fun h1 => by
    rw [beginSafeSeat_ended (by exact h1)]
    rfl⟩

/-! ### The command -/

/-- A sample of the key taken by the Sensor Front keeps the levels lawful. -/
theorem withKeySample_lawful {s : State} (h : LevelsLawful s) (on : Bool) (settled : Option Bool) (run : Nat) :
    LevelsLawful (withKeySample on settled run s) := h

/-- Settles O30: the key's settled level, then the key-on and the key-off, each with and without the safe seat. -/
theorem keyTurnsServiceHold : Obligations.KeyTurnsServiceHold := by
  intro on s hr hl hd
  have turnsOn : s.sensor.keySettled ≠ some true → on = true → 19 ≤ s.sensor.keyRun →
      exec (.keySample on) s = .next (commit s (takeKeyOn (withKeySample on (some on) 0 s))) := by
    rintro h rfl hrun
    rw [exec_keySample hr.1 hd, takeKeySample_settles h hrun, if_pos rfl]
  have turnsOff : s.sensor.keySettled = some true → on = false → 19 ≤ s.sensor.keyRun →
      exec (.keySample on) s = .next (commit s (takeKeyOff (withKeySample on (some on) 0 s))) := by
    rintro h rfl hrun
    rw [exec_keySample hr.1 hd, takeKeySample_settles (by simp [h]) hrun, if_neg (by simp), if_pos h]
  have lawful := withKeySample_lawful hl on (some on) 0
  refine ⟨fun h => ?_, fun h hrun => ?_, fun h ho hrun => ?_, fun h ho hrun => ⟨_, turnsOn h ho hrun, ?_⟩,
    fun h ho hrun => ⟨_, turnsOff h ho hrun, ?_⟩, fun hs h ho hrun => ⟨_, turnsOn h ho hrun, ?_⟩,
    fun hs h ho hrun hli => ⟨_, turnsOff h ho hrun, ?_⟩⟩
  · exact exec_keySample_quiet hr hd (takeKeySample_still (settleContact_same h _))
  · exact exec_keySample_quiet hr hd (takeKeySample_still (settleContact_counts h (by omega)))
  · subst ho
    refine exec_keySample_quiet hr hd ?_
    rw [takeKeySample_settles (by simp [h]) hrun, if_neg (by simp), if_neg (by simp [h])]
  · subst ho
    obtain ⟨turns, acts, q1, q2, q3, hh⟩ := takeKeyOn_levels lawful
    simp only [acting, commit_sensor, commit_levels, commit_store] at *
    refine ⟨by rw [turns.sensor]; rfl, turns.serviceHold, acts, turns.store, q1, q2, q3, hh⟩
  · subst ho
    obtain ⟨hsensor, hhold, hact, hclosed, hwaits⟩ := takeKeyOff_spec (withKeySample false (some false) 0 s)
    simp only [acting, commit_sensor, commit_levels, commit_store] at *
    exact ⟨by rw [hsensor]; rfl, hhold, hact.trans (chosenLevel_withHold_false _), hclosed, hwaits⟩
  · obtain ⟨turns, -⟩ := takeKeyOn_levels lawful
    obtain ⟨hwarn, hseat, hrest⟩ := takeKeyOn_safe lawful hs
    rw [commit_levels, commit_drive_safe (turns.safe.trans hs)]
    exact ⟨turns.serviceHold, hwarn, fun hp _ => hseat hp, hrest⟩
  · obtain ⟨-, hhold, -⟩ := takeKeyOff_spec (withKeySample on (some on) 0 s)
    obtain ⟨hbegin, hended⟩ := takeKeyOff_safe lawful hs hli
    rw [commit_levels, commit_drive_safe ?_]
    · refine ⟨hhold, fun h1 h2 h3 => ?_, hended⟩
      rw [hbegin h1 h2 h3]
      exact ⟨rfl, rfl, rfl, rfl, rfl⟩
    · rw [takeKeyOff_eq, beginSafeSeat_eq, endWindow_eq]
      exact (appointFrom_spec _ _).1.safe.trans hs

end Sys2Proof.Machine
end

section
/-! A DEMAND asked for (R88, R89): the raising, the appointment and the handing, then a press in its parts. -/

namespace Sys2Proof.Machine

/-- DEMAND raised with a target, before the appointment (R88). -/
def raiseDemand (t : Target) (s : State) : State := s.setLevels { s.levels with
  demandTarget := some t, demand := if s.levels.demand = .quiet then .armed else s.levels.demand }

/-- A DEMAND request after its appointment and its handing, before the expiry begins anew (R88). -/
def demandHanded (t : Target) (s : State) : State :=
  if acting s = some .demand ∧ acting (appoint (raiseDemand t s)) = some .demand then
    handGoal (appoint (raiseDemand t s)) else appoint (raiseDemand t s)

theorem takeDemand_eq (t : Target) (s : State) : takeDemand t s = restartExpiry (demandHanded t s) := rfl

/-- The target of a press (R89). -/
def pressTarget (closes : Bool) (s : State) : Target :=
  if s.levels.demand = .acting ∧ s.drive.state.movingForPress = true then demandAt (position s) s
  else if closes then .seat else demandAt s.cfg.maxOpen s

/-- A press after the demand and, of CLOSE, the close notice (R89). -/
def pressNoted (closes : Bool) (s : State) : State :=
  if closes then takeCloseNotice (takeDemand (pressTarget closes s) s) else takeDemand (pressTarget closes s) s

theorem takePress_unsafe {s : State} (h : s.safe = false) (closes : Bool) : takePress closes s =
    if (takeDemand (pressTarget closes s) s).levels.demand = .armed ∧
        !(takeDemand (pressTarget closes s) s).listen then playRefuse (pressNoted closes s)
    else pressNoted closes s := by
  unfold takePress
  rw [if_neg (by simp [h])]
  rfl

/-! ### What a press leaves -/

theorem demandHanded_turns (t : Target) (s : State) : Turns (raiseDemand t s) (demandHanded t s) := by
  have h := (appoint_spec (raiseDemand t s)).1
  unfold demandHanded
  split
  · exact h.trans (handGoal_moves _).toTurns
  · exact h

theorem pressNoted_moves (closes : Bool) (s : State) :
    Moves (takeDemand (pressTarget closes s) s) (pressNoted closes s) := by
  cases closes with
  | true => exact takeCloseNotice_moves _
  | false => exact Moves.refl _

theorem pressNoted_sensor (closes : Bool) (s : State) : (pressNoted closes s).sensor = s.sensor :=
  (pressNoted_moves closes s).sensor.trans (demandHanded_turns (pressTarget closes s) s).sensor

/-- In the safe profile no press is taken (R96). -/
theorem takePress_safe {s : State} (h : s.safe = true) (closes : Bool) : takePress closes s = s := by
  simp [takePress, h]

/-- A press keeps the Sensor Front. -/
theorem takePress_sensor (closes : Bool) (s : State) : (takePress closes s).sensor = s.sensor := by
  cases hs : s.safe with
  | true => rw [takePress_safe hs]
  | false =>
    rw [takePress_unsafe hs]
    split <;> exact pressNoted_sensor closes s

end Sys2Proof.Machine
end

section
/-! The buttons settle (R18), and what of a sample reaches the Level Controller (R89, R96). -/

namespace Sys2Proof.Machine

/-! ### One button -/

/-- A button after a sample: at its settled level, on the way from it, or settled anew (R18). -/
theorem sampleButton_spec (down : Bool) (b : Button) :
    let n := sampleButton down b
    (b.settled = some down → n.settled = some down ∧ n.run = 0) ∧
    (b.settled ≠ some down → b.run < 4 → n.settled = b.settled ∧ n.run = b.run + 1) ∧
    (b.settled ≠ some down → 4 ≤ b.run → n.settled = some down ∧ n.run = 0) := by
  unfold sampleButton
  refine ⟨fun h => ?_, fun h hr => ?_, fun h hr => ?_⟩
  · rw [settleContact_same h]
    exact ⟨h, rfl⟩
  · rw [settleContact_counts h (by omega)]
    exact ⟨rfl, rfl⟩
  · rw [settleContact_settles h (by omega)]
    exact ⟨rfl, rfl⟩

theorem pressed_iff (before now : Button) :
    pressed before now = true ↔ before.settled = some false ∧ now.settled = some true := by
  simp [pressed]

/-! ### The latches taken -/

/-- A button with its press taken. -/
def Button.released (b : Button) : Button := { b with latch := false }

theorem Button.released_of_clear {b : Button} (h : b.latch = false) : b.released = b := by
  cases b
  cases h
  rfl

theorem takeOpenLatch_clear {s : State} (h : s.sensor.openButton.latch = false) : takeOpenLatch s = s := by
  simp [takeOpenLatch, h]

theorem takeCloseLatch_clear {s : State} (h : s.sensor.closeButton.latch = false) : takeCloseLatch s = s := by
  simp [takeCloseLatch, h]

theorem takeOpenLatch_set {s : State} (h : s.sensor.openButton.latch = true) : takeOpenLatch s =
    takePress false (s.setSensor { s.sensor with openButton := s.sensor.openButton.released }) := if_pos h

theorem takeCloseLatch_set {s : State} (h : s.sensor.closeButton.latch = true) : takeCloseLatch s =
    takePress true (s.setSensor { s.sensor with closeButton := s.sensor.closeButton.released }) := if_pos h

theorem takeOpenLatch_sensor (s : State) : (takeOpenLatch s).sensor =
    { s.sensor with openButton := s.sensor.openButton.released } := by
  cases h : s.sensor.openButton.latch with
  | false => rw [takeOpenLatch_clear h, Button.released_of_clear h]
  | true => rw [takeOpenLatch_set h, takePress_sensor, State.setSensor_sensor]

theorem takeCloseLatch_sensor (s : State) : (takeCloseLatch s).sensor =
    { s.sensor with closeButton := s.sensor.closeButton.released } := by
  cases h : s.sensor.closeButton.latch with
  | false => rw [takeCloseLatch_clear h, Button.released_of_clear h]
  | true => rw [takeCloseLatch_set h, takePress_sensor, State.setSensor_sensor]

/-- In the safe profile the latches are cleared and nothing else happens (R96). -/
theorem takeOpenLatch_safe {s : State} (h : s.safe = true) : takeOpenLatch s = s.setSensor (takeOpenLatch s).sensor := by
  cases hl : s.sensor.openButton.latch with
  | false => rw [takeOpenLatch_clear hl, State.setSensor_same]
  | true => rw [takeOpenLatch_set hl, takePress_safe (by exact h), State.setSensor_sensor]

theorem takeCloseLatch_safe {s : State} (h : s.safe = true) :
    takeCloseLatch s = s.setSensor (takeCloseLatch s).sensor := by
  cases hl : s.sensor.closeButton.latch with
  | false => rw [takeCloseLatch_clear hl, State.setSensor_same]
  | true => rw [takeCloseLatch_set hl, takePress_safe (by exact h), State.setSensor_sensor]

/-! ### A sample of both buttons -/

/-- The node with a sample of the buttons taken by the Sensor Front. -/
def withButtons (openDown closeDown : Bool) (s : State) : State :=
  (s.setPins { s.pins with openDown := openDown, closeDown := closeDown }).setSensor
    { sampleButtons openDown closeDown s.sensor with buttonsAt := some s.nt }

theorem takeButtonSample_eq (openDown closeDown : Bool) (s : State) :
    takeButtonSample openDown closeDown s = takeCloseLatch (takeOpenLatch (withButtons openDown closeDown s)) := rfl

/-- After a sample the buttons stand as sampled, with no press latched. -/
theorem takeButtonSample_sensor (openDown closeDown : Bool) (s : State) :
    (takeButtonSample openDown closeDown s).sensor = { s.sensor with
      openButton := (sampleButton openDown s.sensor.openButton).released
      closeButton := (sampleButton closeDown s.sensor.closeButton).released
      buttonsAt := some s.nt } := by
  rw [takeButtonSample_eq, takeCloseLatch_sensor, takeOpenLatch_sensor]
  rfl

/-- A sample that latches no press is the Sensor Front's alone. -/
theorem takeButtonSample_quiet {openDown closeDown : Bool} {s : State} (ho : s.sensor.openButton.latch = false)
    (hc : s.sensor.closeButton.latch = false)
    (h1 : ¬(s.sensor.openButton.settled = some false ∧
      (sampleButton openDown s.sensor.openButton).settled = some true ∧
      (sampleButton closeDown s.sensor.closeButton).settled ≠ some true))
    (h2 : ¬(s.sensor.closeButton.settled = some false ∧
      (sampleButton closeDown s.sensor.closeButton).settled = some true ∧
      (sampleButton openDown s.sensor.openButton).settled ≠ some true)) :
    takeButtonSample openDown closeDown s = withButtons openDown closeDown s := by
  have clear : ∀ {b m n : Button}, b.latch = false →
      ¬(b.settled = some false ∧ m.settled = some true ∧ n.settled ≠ some true) →
      (b.latch || (pressed b m && n.settled != some true)) = false := by
    intro b m n hb h
    rw [hb, Bool.false_or, ← Bool.not_eq_true, Bool.and_eq_true, pressed_iff, bne_iff_ne]
    exact fun k => h ⟨k.1.1, k.1.2, k.2⟩
  rw [takeButtonSample_eq, takeOpenLatch_clear (clear ho h1), takeCloseLatch_clear (clear hc h2)]

theorem exec_buttonSample {openDown closeDown : Bool} {s : State} (hp : s.power = true) (hd : buttonsDue s = true) :
    exec (.buttonSample openDown closeDown) s = .next (commit s (takeButtonSample openDown closeDown s)) :=
  congrArg Host.Outcome.next (liveWhen_due _ hp hd)

theorem commit_withButtons {s : State} (hr : Ready s) (openDown closeDown : Bool) :
    commit s (withButtons openDown closeDown s) = withButtons openDown closeDown s :=
  commit_quiet (by exact hr.2.1) rfl (hr.2.2.keep rfl rfl)

/-- In the safe profile a sample of the buttons is the Sensor Front's alone (R96). -/
theorem takeButtonSample_safe {s : State} (h : s.safe = true) (openDown closeDown : Bool) :
    takeButtonSample openDown closeDown s =
      (withButtons openDown closeDown s).setSensor (takeButtonSample openDown closeDown s).sensor := by
  rw [takeButtonSample_eq, takeCloseLatch_safe, takeOpenLatch_safe (s := withButtons openDown closeDown s) h]
  · rfl
  · rw [takeOpenLatch_safe (s := withButtons openDown closeDown s) h]
    exact h

end Sys2Proof.Machine
end

section
/-! Which level leads once DEMAND is asked for (R81, R88), and what a press leaves of the levels (R89, R91, R94). -/

namespace Sys2Proof.Machine

/-! ### The level chosen, by cases -/

theorem chosenLevel_storm {s : State} (hm : mayAct s = true) (hs : s.levels.storm ≠ .quiet) :
    chosenLevel s = some .storm := by
  simp [chosenLevel, hm, hs]

theorem chosenLevel_rain {s : State} (hm : mayAct s = true) (hs : s.levels.storm = .quiet)
    (hr : s.levels.rain ≠ .quiet) : chosenLevel s = some .rain := by
  simp [chosenLevel, hm, hs, hr]

theorem chosenLevel_demand {s : State} (hm : mayAct s = true) (hs : s.levels.storm = .quiet)
    (hr : s.levels.rain = .quiet) (hd : s.levels.demand ≠ .quiet) : chosenLevel s = some .demand := by
  simp [chosenLevel, hm, hs, hr, hd]

/-- A DEMAND raised would act: a level may act and no weather level stands above it (R81). -/
def DemandLeads (s : State) : Prop := mayAct s = true ∧ s.levels.storm = .quiet ∧ s.levels.rain = .quiet

theorem demandLeads_of_chosen {s : State} (h : chosenLevel s = some .demand) : DemandLeads s := by
  by_cases hm : mayAct s = true
  · by_cases hs : s.levels.storm = .quiet
    · by_cases hr : s.levels.rain = .quiet
      · exact ⟨hm, hs, hr⟩
      · rw [chosenLevel_rain hm hs hr] at h
        cases h
    · rw [chosenLevel_storm hm hs] at h
      cases h
  · rw [chosenLevel_not (by simpa using hm)] at h
    cases h

theorem demandLeads_of_acting {s : State} (hl : LevelsLawful s) (h : s.levels.demand = .acting) : DemandLeads s :=
  demandLeads_of_chosen ((appointed_acting _ _ _).1 (hl.2.2.symm.trans h)).2

/-! ### DEMAND raised and appointed -/

theorem raiseDemand_raised (t : Target) (s : State) : (raiseDemand t s).levels.demand ≠ .quiet := by
  show (if s.levels.demand = .quiet then LevelState.armed else s.levels.demand) ≠ .quiet
  split
  · exact nofun
  · next h => exact h

theorem chosenLevel_raiseDemand_leads {s : State} (h : DemandLeads s) (t : Target) :
    chosenLevel (raiseDemand t s) = some .demand :=
  chosenLevel_demand (s := raiseDemand t s) h.1 h.2.1 h.2.2 (raiseDemand_raised t s)

/-- Where DEMAND does not lead, raising it changes no choice. -/
theorem chosenLevel_raiseDemand_follows {s : State} (h : ¬DemandLeads s) (t : Target) :
    chosenLevel (raiseDemand t s) = chosenLevel s := by
  by_cases hm : mayAct s = true
  · by_cases hs : s.levels.storm = .quiet
    · have hr : s.levels.rain ≠ .quiet := fun hr => h ⟨hm, hs, hr⟩
      rw [chosenLevel_rain hm hs hr, chosenLevel_rain (s := raiseDemand t s) hm hs hr]
    · rw [chosenLevel_storm hm hs, chosenLevel_storm (s := raiseDemand t s) hm hs]
  · have hm' : mayAct s = false := by simpa using hm
    rw [chosenLevel_not hm', chosenLevel_not (s := raiseDemand t s) hm']

theorem acting_raiseDemand (t : Target) (s : State) : acting (raiseDemand t s) = acting s := by
  by_cases h : s.levels.demand = .quiet <;> simp [acting, Levels.acting, raiseDemand, h]

/-- DEMAND raised with a target, after the appointment and before any handing (R81, R88). -/
def asked (t : Target) (s : State) : State := (raiseDemand t s).setLevels (appointedLevels (raiseDemand t s))

theorem asked_acting {s : State} (h : DemandLeads s) (t : Target) : acting (asked t s) = some .demand :=
  (acting_setAppointed _).trans (chosenLevel_raiseDemand_leads h t)

theorem asked_demand (t : Target) (s : State) : (asked t s).levels.demand =
    appointed .demand (chosenLevel (raiseDemand t s)) (raiseDemand t s).levels.demand := rfl

theorem asked_demand_leads {s : State} (h : DemandLeads s) (t : Target) : (asked t s).levels.demand = .acting := by
  rw [asked_demand, appointed_acting]
  exact ⟨raiseDemand_raised t s, chosenLevel_raiseDemand_leads h t⟩

theorem asked_demand_follows {s : State} (h : ¬DemandLeads s) (t : Target) : (asked t s).levels.demand = .armed := by
  rw [asked_demand, chosenLevel_raiseDemand_follows h]
  have hc : chosenLevel s ≠ some .demand := fun k => h (demandLeads_of_chosen k)
  simp [appointed, raiseDemand_raised, hc]

/-- Raising DEMAND moves no weather level (R81). -/
theorem asked_weather {s : State} (hl : LevelsLawful s) (t : Target) :
    (asked t s).levels.storm = s.levels.storm ∧ (asked t s).levels.rain = s.levels.rain := by
  by_cases h : DemandLeads s
  · exact ⟨((appointed_quiet _ _ _).2 h.2.1).trans h.2.1.symm, ((appointed_quiet _ _ _).2 h.2.2).trans h.2.2.symm⟩
  · have hc := chosenLevel_raiseDemand_follows h t
    exact ⟨(congrArg (appointed .storm · s.levels.storm) hc).trans hl.1.symm,
      (congrArg (appointed .rain · s.levels.rain) hc).trans hl.2.1.symm⟩

/-- Where DEMAND leads, its goal is handed, whether it acted before or begins to (R85, R88). -/
theorem demandHanded_leads {s : State} (h : DemandLeads s) (t : Target) :
    demandHanded t s = handGoal (asked t s) := by
  have chosen := chosenLevel_raiseDemand_leads h t
  by_cases ha : acting s = some .demand
  · have same : appoint (raiseDemand t s) = asked t s :=
      appointFrom_same (chosen.trans (ha.symm.trans (acting_raiseDemand t s).symm))
    unfold demandHanded
    rw [same, if_pos ⟨ha, asked_acting h t⟩]
  · unfold demandHanded
    rw [if_neg fun k => ha k.1]
    exact appointFrom_other (by rw [chosen, acting_raiseDemand]; exact fun k => ha k.symm)

/-- Where it does not lead, nothing is handed. -/
theorem demandHanded_follows {s : State} (hl : LevelsLawful s) (h : ¬DemandLeads s) (t : Target) :
    demandHanded t s = asked t s := by
  have same : appoint (raiseDemand t s) = asked t s := appointFrom_same (by
    rw [chosenLevel_raiseDemand_follows h, acting_raiseDemand, acting_of_lawful hl])
  unfold demandHanded
  rw [same, if_neg]
  exact fun k => h (demandLeads_of_chosen ((acting_of_lawful hl).symm.trans k.1))

/-- The handing of a DEMAND keeps the levels' states. -/
theorem demandHanded_moves {s : State} (hl : LevelsLawful s) (t : Target) :
    Moves (asked t s) (demandHanded t s) := by
  by_cases h : DemandLeads s
  · rw [demandHanded_leads h]
    exact handGoal_moves _
  · rw [demandHanded_follows hl h]
    exact Moves.refl _

/-! ### The levels after a press -/

/-- What a press does to the levels, the expiry among them (R84, R88, R89, R91), and that it leaves REFUSE. -/
theorem pressNoted_levels {s : State} (hl : LevelsLawful s) (closes : Bool) :
    let n := pressNoted closes s
    n.levels.demandTarget = some (pressTarget closes s) ∧
    n.levels.storm = s.levels.storm ∧ n.levels.rain = s.levels.rain ∧
    n.levels.expiryDl = (if s.cfg.demandExpiry = 0 then none else some (after s.nt (1000 * s.cfg.demandExpiry))) ∧
    (DemandLeads s → n.levels.demand = .acting) ∧ (¬DemandLeads s → n.levels.demand = .armed) ∧
    n.drive.refuseUntil = s.drive.refuseUntil := by
  have noted := pressNoted_moves closes s
  have turns := demandHanded_turns (pressTarget closes s) s
  have handed := demandHanded_moves hl (pressTarget closes s)
  obtain ⟨hstorm, hrain⟩ := asked_weather hl (pressTarget closes s)
  have demand : (pressNoted closes s).levels.demand = (asked (pressTarget closes s) s).levels.demand :=
    noted.demand.trans handed.demand
  refine ⟨noted.demandTarget.trans turns.demandTarget, noted.storm.trans (handed.storm.trans hstorm),
    noted.rain.trans (handed.rain.trans hrain), noted.expiryDl.trans ?_,
    fun h => demand.trans (asked_demand_leads h _), fun h => demand.trans (asked_demand_follows h _),
    noted.refuseUntil.trans turns.refuseUntil⟩
  rw [takeDemand_eq]
  show (if (demandHanded (pressTarget closes s) s).cfg.demandExpiry = 0 then _ else _) = _
  rw [turns.cfg, turns.nt]
  rfl

theorem takeDemand_demand (closes : Bool) (s : State) :
    (takeDemand (pressTarget closes s) s).levels.demand = (pressNoted closes s).levels.demand :=
  (pressNoted_moves closes s).demand.symm

theorem takeDemand_listen (t : Target) (s : State) : (takeDemand t s).listen = s.listen :=
  (demandHanded_turns t s).listen

/-- A press whose DEMAND does not act is refused with a sound, but in LISTEN (R94). -/
theorem takePress_refused {s : State} (hs : s.safe = false) {closes : Bool}
    (ha : (pressNoted closes s).levels.demand = .armed) (hl : s.listen = false) :
    takePress closes s = playRefuse (pressNoted closes s) := by
  rw [takePress_unsafe hs, takeDemand_demand, takeDemand_listen]
  exact if_pos ⟨ha, by rw [hl]; rfl⟩

theorem takePress_acting {s : State} (hs : s.safe = false) {closes : Bool}
    (ha : (pressNoted closes s).levels.demand = .acting) : takePress closes s = pressNoted closes s := by
  rw [takePress_unsafe hs, takeDemand_demand]
  exact if_neg fun k => by cases ha.symm.trans k.1

/-! ### What comes after a press took effect -/

/-- `t` is `n` but for what it reports, REFUSE and the demand expiry, in the blocks that a press moves. -/
structure EndsAs (n t : State) : Prop where
  drive : ∃ a b, t.drive = { n.drive with refreshDl := a, refuseUntil := b }
  pos : ∃ a, t.pos = { n.pos with lastReported := a }
  levels : ∃ a, t.levels = { n.levels with expiryDl := a }
  supply : t.supply = n.supply

theorem EndsAs.trans {a b c : State} (h : EndsAs a b) (k : EndsAs b c) : EndsAs a c := by
  obtain ⟨r, f, hd⟩ := h.drive
  obtain ⟨r', f', kd⟩ := k.drive
  obtain ⟨p, hp⟩ := h.pos
  obtain ⟨p', kp⟩ := k.pos
  obtain ⟨l, hl⟩ := h.levels
  obtain ⟨l', kl⟩ := k.levels
  exact ⟨⟨r', f', by rw [kd, hd]⟩, ⟨p', by rw [kp, hp]⟩, ⟨l', by rw [kl, hl]⟩, k.supply.trans h.supply⟩

theorem restartExpiry_ends (s : State) : EndsAs s (restartExpiry s) := ⟨⟨_, _, rfl⟩, ⟨_, rfl⟩, ⟨_, rfl⟩, rfl⟩

theorem commit_ends (s t : State) : EndsAs t (commit s t) :=
  ⟨⟨_, _, commit_drive s t⟩, ⟨_, commit_pos s t⟩, ⟨_, commit_levels s t⟩, commit_supply s t⟩

theorem takePress_ends {s : State} (hs : s.safe = false) (closes : Bool) :
    EndsAs (pressNoted closes s) (takePress closes s) := by
  rw [takePress_unsafe hs]
  split <;> exact ⟨⟨_, _, rfl⟩, ⟨_, rfl⟩, ⟨_, rfl⟩, rfl⟩

/-- A passage that ended in `n` ended so in what differs from it in reports alone. -/
theorem CameToRest.ends {s n t : State} (h : CameToRest s n) (e : EndsAs n t) : CameToRest s t := by
  obtain ⟨r, f, hd⟩ := e.drive
  obtain ⟨p, hp⟩ := e.pos
  obtain ⟨l, hl⟩ := e.levels
  show CameToRest s { n with drive := t.drive, pos := t.pos, levels := t.levels, supply := t.supply }
  rw [hd, hp, hl, e.supply]
  exact h

theorem WentOn.ends {retry : Nat} {s n t : State} (h : WentOn retry s n) (e : EndsAs n t) : WentOn retry s t := by
  obtain ⟨r, f, hd⟩ := e.drive
  obtain ⟨p, hp⟩ := e.pos
  obtain ⟨l, hl⟩ := e.levels
  show WentOn retry s { n with drive := t.drive, pos := t.pos, levels := t.levels, supply := t.supply }
  rw [hd, hp, hl, e.supply]
  exact h

theorem CloseTaken.ends {s n t : State} (h : CloseTaken s n) (e : EndsAs n t) : CloseTaken s t := by
  obtain ⟨r, f, hd⟩ := e.drive
  obtain ⟨p, hp⟩ := e.pos
  obtain ⟨l, hl⟩ := e.levels
  show CloseTaken s { n with drive := t.drive, pos := t.pos, levels := t.levels, supply := t.supply }
  rw [hd, hp, hl, e.supply]
  obtain ⟨waits, backs, stops, sags⟩ := h
  refine ⟨waits, fun k => ?_, fun k => ⟨fun c => ?_, fun c => ?_, fun c => ?_⟩, fun k => ?_⟩
  · exact congrArg (fun d : Drive => { d with refreshDl := r, refuseUntil := f }) (backs k)
  · exact congrArg (fun d : Drive => { d with refreshDl := r, refuseUntil := f }) ((stops k).1 c)
  · exact congrArg (fun d : Drive => { d with refreshDl := r, refuseUntil := f }) ((stops k).2.1 c)
  · exact congrArg (fun d : Drive => { d with refreshDl := r, refuseUntil := f }) ((stops k).2.2 c)
  · exact congrArg (fun d : Drive => { d with refreshDl := r, refuseUntil := f }) (sags k)

end Sys2Proof.Machine
end

section
/-! A press that stops a moving drive (R89, R122, R133). -/

namespace Sys2Proof.Machine

/-! ### Passages that a press can bring about -/

theorem moveDrive_sagCount (d : Drive) (s : State) : (moveDrive d s).supply.sagCount = s.supply.sagCount := by
  unfold moveDrive
  dsimp only
  split <;> split <;> rfl

/-- An arrival: the braking for GOAL, and no sag counted any more (R114, R124, R127). -/
theorem arrive_spec (s : State) :
    (arrive s).drive.state = .stopping ∧ (arrive s).drive.continuation = some .goal ∧ (arrive s).drive.duty = 0 ∧
    (arrive s).drive.stopDl = some (after s.nt 200) ∧ (arrive s).supply.sagCount = 0 := by
  have sag : (arrive s).supply.sagCount = 0 := moveDrive_sagCount _ _
  have drive : (arrive s).drive = { s.drive.cleared with
      state := .stopping, stopDl := some (after s.nt 200), continuation := some .goal } :=
    congrArg State.drive (moveDrive_eq _ _)
  rw [drive]
  exact ⟨rfl, rfl, rfl, rfl, sag⟩

/-- A drive that came to rest stands in IDLE, or waits for the supply with a goal handed there. -/
theorem CameToRest.state {s t : State} (h : CameToRest s t) : t.drive.state = .idle ∨ t.drive.state = .waitSlot := by
  obtain ⟨-, -, -, -, -, -, -, -, -, -, rests, hands⟩ := h
  by_cases hq : ¬(s.cfg.strokeFitted = true ∧ s.pos.referenced = true ∧ s.cfg.mismatch <
      gap (strokePosition s.pins.stroke.toNat s.cfg.closedReading s.cfg.openReading) (position s)) ∨
      suspect s = true ∨ acting s = none
  · exact .inl (rests hq).1.1
  · simp only [not_or, not_not, Bool.not_eq_true] at hq
    obtain ⟨apart, hs, ha⟩ := hq
    obtain ⟨l, hl⟩ := Option.ne_none_iff_exists'.1 ha
    obtain ⟨-, -, stays, waits⟩ := hands l apart hs hl
    cases hm : needsMotion ⟨l, .seat⟩ s with
    | false => exact .inl (stays (.inl hm)).1
    | true => cases hc : s.drive.controlledStop with
      | true => exact .inl (stays (.inr hc)).1
      | false => exact .inr (waits hm hc).1

theorem CameToRest.retry {s t : State} (h : CameToRest s t) : t.drive.retry = 0 := h.1

/-- A close notice finds nothing to do at rest, in WAIT_SLOT and in a braking for GOAL (R120, R121, R127). -/
theorem takeCloseNotice_none {s : State} (h : s.drive.state = .idle ∨ s.drive.state = .waitSlot ∨
    (s.drive.state = .stopping ∧ s.drive.continuation = some .goal)) : takeCloseNotice s = s := by
  rcases h with h | h | ⟨h, hc⟩
  · simp [takeCloseNotice, h]
  · simp [takeCloseNotice, h]
  · simp [takeCloseNotice, h, hc]

theorem restartExpiry_drive (s : State) : (restartExpiry s).drive = s.drive := rfl

theorem restartExpiry_supply (s : State) : (restartExpiry s).supply = s.supply := rfl

/-- The drive with a goal in hand. -/
def withDriveGoal (g : Option Goal) (s : State) : State := s.setDrive { s.drive with goal := g }

theorem takeGoal_moving {s : State} {g : Option Goal} (hc : s.drive.controlledStop = false) (hg : g ≠ s.drive.goal)
    (hs : s.drive.state = .ramp ∨ s.drive.state = .travel ∨ s.drive.state = .approach ∨ s.drive.state = .seating) :
    takeGoal g s = changeWhileMoving s.drive.goal g (withDriveGoal g s) := by
  rcases hs with hs | hs | hs | hs <;> simp [takeGoal, withDriveGoal, hc, hs, hg]

theorem takeGoal_warning {s : State} {g : Option Goal} (hc : s.drive.controlledStop = false) (hg : g ≠ s.drive.goal)
    (hs : s.drive.state = .warning) : takeGoal g s = changeWhileWarning g (withDriveGoal g s) := by
  simp [takeGoal, withDriveGoal, hc, hs, hg]

/-- A goal that is reached stops a moving drive as an arrival (R133). -/
theorem changeWhileMoving_reached {g : Goal} {s : State} (h : needsMotion g s = false) (old : Option Goal) :
    changeWhileMoving old (some g) s = arrive s := if_pos (by simp [h])

/-- A goal that is reached brings a warning drive to rest (R122). -/
theorem changeWhileWarning_reached {g : Goal} {s : State} (h : needsMotion g s = false) :
    changeWhileWarning (some g) s = enterIdle s := if_pos (by simp [h])

/-! ### The levels that a handing leaves -/

/-- Below an appointment only the handed goal and the hold reference of the levels move. -/
theorem Moves.levels_eq {s t : State} (h : Moves s t) :
    t.levels = { s.levels with handed := t.levels.handed, holdRef := t.levels.holdRef } := by
  have storm := h.storm
  have rain := h.rain
  have demand := h.demand
  have rainTarget := h.rainTarget
  have demandTarget := h.demandTarget
  have expiryDl := h.expiryDl
  have serviceHold := h.serviceHold
  generalize t.levels = a at *
  generalize s.levels = b at *
  cases a
  cases b
  simp_all

/-- A state whose levels differ from those of `y` in handing and expiry alone, read as `y` with its goal in hand. -/
theorem withGoal_eq {g handed : Option Goal} {s y n : State}
    (hy : y = { s with levels := y.levels, drive := { s.drive with goal := g } })
    (hh : y.levels.handed = handed) (hr : y.levels.holdRef = s.levels.holdRef)
    (hn : n.levels = { y.levels with
      handed := n.levels.handed, holdRef := n.levels.holdRef, expiryDl := n.levels.expiryDl }) :
    withGoal g handed s n = { y with levels := { y.levels with expiryDl := n.levels.expiryDl } } := by
  have levels : ({ n.levels with handed := handed, holdRef := s.levels.holdRef } : Levels) =
      { y.levels with expiryDl := n.levels.expiryDl } := by
    rw [hn, ← hh, ← hr]
  unfold withGoal
  rw [levels, hy]

/-- A state whose expiry began anew after `y` moved is read as `y` with its goal in hand. -/
theorem Moves.withGoal_eq {g handed : Option Goal} {s y u n : State} (h : Moves y u)
    (hy : y = { s with levels := y.levels, drive := { s.drive with goal := g } })
    (hh : y.levels.handed = handed) (hr : y.levels.holdRef = s.levels.holdRef) (hn : n = restartExpiry u) :
    withGoal g handed s n = { y with levels := { y.levels with expiryDl := n.levels.expiryDl } } := by
  refine Machine.withGoal_eq hy hh hr ?_
  have levels : n.levels = { u.levels with expiryDl := n.levels.expiryDl } := by rw [hn]; rfl
  generalize n.levels = v at levels ⊢
  rw [levels, h.levels_eq]

/-- Coming to rest does not look at the demand expiry. -/
theorem cameToRest_expiry (s t : State) (e : Option Time) :
    CameToRest { s with levels := { s.levels with expiryDl := e } } t ↔ CameToRest s t := Iff.rfl

/-! ### The goal of a press -/

theorem recordHanding_eq (s : State) : recordHanding s = s.setLevels { s.levels with
    handed := formGoal s
    holdRef := if formGoal s = none then none
      else if s.drive.state = .idle then some (position s) else s.levels.holdRef } := rfl

/-- The goal that DEMAND forms when it leads (R85). -/
theorem formGoal_asked {s : State} (h : DemandLeads s) (t : Target) :
    formGoal (asked t s) = some ⟨.demand, if suspect s then .seat else t⟩ := by
  unfold formGoal
  rw [asked_acting h]
  rfl

/-- The node with the goal of a leading DEMAND recorded and in hand, before the drive takes it (R85, R86). -/
def handedOver (t : Target) (s : State) : State :=
  (s.setLevels (recordHanding (asked t s)).levels).setDrive { s.drive with goal := formGoal (asked t s) }

theorem asked_eq (t : Target) (s : State) : asked t s = s.setLevels (asked t s).levels := rfl

theorem recordHanding_asked (t : Target) (s : State) :
    recordHanding (asked t s) = s.setLevels (recordHanding (asked t s)).levels := by
  rw [recordHanding_eq, asked_eq]
  rfl

theorem handedOver_eq (t : Target) (s : State) : handedOver t s = { s with
    levels := (handedOver t s).levels, drive := { s.drive with goal := formGoal (asked t s) } } := rfl

theorem withDriveGoal_recorded (t : Target) (s : State) :
    withDriveGoal (formGoal (asked t s)) (recordHanding (asked t s)) = handedOver t s := by
  rw [recordHanding_asked]
  rfl

theorem handedOver_nt (t : Target) (s : State) : (handedOver t s).nt = s.nt := by
  unfold handedOver
  rw [State.setDrive_nt, State.setLevels_nt]

theorem handedOver_handed (t : Target) (s : State) : (handedOver t s).levels.handed = formGoal (asked t s) := rfl

/-- A handing to a drive that is not in IDLE keeps the hold reference (R86). -/
theorem handedOver_holdRef {s : State} (h : DemandLeads s) (hi : s.drive.state ≠ .idle) (t : Target) :
    (handedOver t s).levels.holdRef = s.levels.holdRef := by
  show (if formGoal (asked t s) = none then none
    else if s.drive.state = .idle then some (position s) else s.levels.holdRef) = _
  rw [formGoal_asked h, if_neg (by simp), if_neg hi]

/-! ### The stop -/

/-- A position that a drive may hold is the target of a press that stops it (R84, R89). -/
theorem pressTarget_stops {s : State} (hd : s.levels.demand = .acting) (hm : s.drive.state.movingForPress = true)
    (h0 : position s ≠ 0) (hx : position s ≤ s.cfg.maxOpen) (closes : Bool) :
    pressTarget closes s = .pm (position s) := by
  unfold pressTarget
  rw [if_pos ⟨hd, hm⟩]
  simp [demandAt, clampNat_zero, Target.ofPm, h0, hx]

theorem position_setDrive (s : State) (d : Drive) : position (s.setDrive d) = position s := rfl

theorem position_setLevels (s : State) (v : Levels) : position (s.setLevels v) = position s := rfl

theorem needsMotion_here (l : Level) (s : State) : needsMotion ⟨l, .pm (position s)⟩ s = false := by
  simp [needsMotion, gap]

/-- A DEMAND for the present position needs no motion when it is taken. -/
theorem needsMotion_handedOver (t : Target) (s : State) :
    needsMotion ⟨.demand, .pm (position s)⟩ (handedOver t s) = false := by
  have here : position (handedOver t s) = position s := by
    unfold handedOver
    rw [position_setDrive, position_setLevels]
  rw [← here]
  exact needsMotion_here .demand (handedOver t s)

section
variable {s : State} (hl : LevelsLawful s) (hd : s.levels.demand = .acting) (hs : suspect s = false)
include hl hd hs

theorem formGoal_asked_here : formGoal (asked (.pm (position s)) s) = some ⟨.demand, .pm (position s)⟩ := by
  rw [formGoal_asked (demandLeads_of_acting hl hd), hs]
  rfl

variable (hc : s.drive.controlledStop = false) (hg : s.drive.goal ≠ some ⟨.demand, .pm (position s)⟩)
include hc hg

/-- A DEMAND for the present position brakes a moving drive (R89, R133). -/
theorem demandHanded_stops (hm : s.drive.state = .ramp ∨ s.drive.state = .travel ∨ s.drive.state = .approach ∨
    s.drive.state = .seating) :
    demandHanded (.pm (position s)) s = arrive (handedOver (.pm (position s)) s) := by
  rw [demandHanded_leads (demandLeads_of_acting hl hd)]
  have goal := formGoal_asked_here hl hd hs
  have recorded : (recordHanding (asked (.pm (position s)) s)).drive = s.drive := by rw [recordHanding_asked]; rfl
  unfold handGoal
  rw [takeGoal_moving (by rw [recorded]; exact hc) (by rw [recorded, goal]; exact hg.symm) (by rw [recorded]; exact hm),
    withDriveGoal_recorded, goal]
  exact changeWhileMoving_reached (needsMotion_handedOver _ s) _

/-- A DEMAND for the present position brings a warning drive to rest (R89, R122). -/
theorem demandHanded_rests (hm : s.drive.state = .warning) :
    demandHanded (.pm (position s)) s = enterIdle (handedOver (.pm (position s)) s) := by
  rw [demandHanded_leads (demandLeads_of_acting hl hd)]
  have goal := formGoal_asked_here hl hd hs
  have recorded : (recordHanding (asked (.pm (position s)) s)).drive = s.drive := by rw [recordHanding_asked]; rfl
  unfold handGoal
  rw [takeGoal_warning (by rw [recorded]; exact hc) (by rw [recorded, goal]; exact hg.symm) (by rw [recorded]; exact hm),
    withDriveGoal_recorded, goal]
  exact changeWhileWarning_reached (needsMotion_handedOver _ s)

variable (h0 : position s ≠ 0) (hx : position s ≤ s.cfg.maxOpen)
include h0 hx

/-- A press that stops a moving drive brings it to STOPPING as an arrival (R89, R114, R133). -/
theorem pressNoted_stops (hm : s.drive.state = .ramp ∨ s.drive.state = .travel ∨ s.drive.state = .approach ∨
    s.drive.state = .seating) (closes : Bool) :
    let n := pressNoted closes s
    n.drive.state = .stopping ∧ n.drive.continuation = some .goal ∧ n.drive.duty = 0 ∧
    n.drive.stopDl = some (after s.nt 200) ∧ n.supply.sagCount = 0 := by
  have moving : s.drive.state.movingForPress = true := by rcases hm with h | h | h | h <;> rw [h] <;> rfl
  have arrived := arrive_spec (handedOver (.pm (position s)) s)
  rw [handedOver_nt] at arrived
  have handed := demandHanded_stops hl hd hs hc hg hm
  have taken : pressNoted closes s = restartExpiry (arrive (handedOver (.pm (position s)) s)) := by
    unfold pressNoted
    rw [pressTarget_stops hd moving h0 hx, takeDemand_eq, handed, takeCloseNotice_none, ite_self]
    rw [restartExpiry_drive]
    exact .inr (.inr ⟨arrived.1, arrived.2.1⟩)
  dsimp only
  rw [taken, restartExpiry_drive, restartExpiry_supply]
  exact arrived

/-- A press that stops a warning drive brings it to rest (R89, R122). -/
theorem pressNoted_rests (hm : s.drive.state = .warning) (closes : Bool) :
    let n := pressNoted closes s
    let g : Option Goal := some ⟨.demand, .pm (position s)⟩
    CameToRest (withGoal g g s n) n := by
  have moving : s.drive.state.movingForPress = true := by rw [hm]; rfl
  have leads := demandLeads_of_acting hl hd
  have goal := formGoal_asked_here hl hd hs
  have handed := demandHanded_rests hl hd hs hc hg hm
  have rests := enterIdle_cameToRest (handedOver (.pm (position s)) s)
  have taken : pressNoted closes s = restartExpiry (enterIdle (handedOver (.pm (position s)) s)) := by
    unfold pressNoted
    rw [pressTarget_stops hd moving h0 hx, takeDemand_eq, handed, takeCloseNotice_none, ite_self]
    rcases rests.state with h | h
    · exact .inl h
    · exact .inr (.inl h)
  have given := (enterIdle_moves (handedOver (.pm (position s)) s)).withGoal_eq (handedOver_eq (.pm (position s)) s)
    rfl (handedOver_holdRef leads (by simp [hm]) _) taken
  rw [handedOver_handed, goal] at given
  dsimp only
  rw [given, cameToRest_expiry, taken]
  exact rests.ends (restartExpiry_ends _)

end

end Sys2Proof.Machine
end

section
/-! A CLOSE press in a drive that waits or carries out an obstruction (R88, R89, R127, R131, R132, R135). -/

namespace Sys2Proof.Machine

/-! ### The end of a wait -/

theorem waitOrIdle_state (s : State) :
    (waitOrIdle s).drive.state = .idle ∨ (waitOrIdle s).drive.state = .waitSlot := by
  unfold waitOrIdle
  split
  · exact (enterIdle_cameToRest s).state
  · next g hg =>
    split
    · rw [enterWaitSlot_eq hg]
      exact .inr rfl
    · exact (enterIdle_cameToRest s).state

theorem waitOrIdle_retry {s : State} (h : s.drive.retry = 0) : (waitOrIdle s).drive.retry = 0 := by
  unfold waitOrIdle
  split
  · exact (enterIdle_cameToRest s).retry
  · next g hg =>
    split
    · rw [enterWaitSlot_eq hg]
      exact h
    · exact (enterIdle_cameToRest s).retry

/-- A forgiven wait ends in IDLE or WAIT_SLOT with the retry count 0 (R131, R132). -/
theorem forgiveAndGo_state (s : State) : ((forgiveAndGo s).drive.state = .idle ∨
    (forgiveAndGo s).drive.state = .waitSlot) ∧ (forgiveAndGo s).drive.retry = 0 :=
  ⟨waitOrIdle_state _, waitOrIdle_retry rfl⟩

/-- The end of a wait does not look at the demand expiry, nor at the retry count it begins with. -/
theorem wentOn_expiry (retry : Nat) (s t : State) (e : Option Time) :
    WentOn retry { s with levels := { s.levels with expiryDl := e } } t ↔ WentOn retry s t := Iff.rfl

theorem wentOn_retry (retry k : Nat) (s t : State) :
    WentOn retry (s.setDrive { s.drive with retry := k }) t ↔ WentOn retry s t := Iff.rfl

theorem wentOn_restartExpiry (retry : Nat) (s t : State) : WentOn retry (restartExpiry s) t ↔ WentOn retry s t :=
  Iff.rfl

theorem waitOrIdle_went {s : State} (h : s.supply.admission ≠ .admitted) :
    WentOn s.drive.retry s (waitOrIdle s) := waitOrIdle_wentOn fun k => absurd k h

theorem forgiveAndGo_went {s : State} (h : s.supply.admission ≠ .admitted) : WentOn 0 s (forgiveAndGo s) :=
  (wentOn_retry 0 0 s _).1 (waitOrIdle_went (s := s.setDrive { s.drive with retry := 0 }) h)

/-! ### A handed goal in the states that wait -/

theorem takeGoal_waits {s : State} {g : Goal} (hc : s.drive.controlledStop = false)
    (hs : s.drive.state = .blocked ∨ s.drive.state = .retryWait) : takeGoal (some g) s =
      if some g = s.drive.goal then withDriveGoal (some g) s else forgiveAndGo (withDriveGoal (some g) s) := by
  rcases hs with hs | hs <;> simp [takeGoal, withDriveGoal, hc, hs]

/-- The states that carry out an obstruction hold a change of goal (R127, R135). -/
def HoldsChange (d : Drive) : Prop := d.state = .backoff ∨
  (d.state = .stopping ∧ (d.continuation = some .backoff ∨ d.continuation = some .verdict))

/-- The states in which a goal only comes to hand (R127, R137). -/
def KeepsGoal (d : Drive) : Prop := d.state = .sagWait ∨
  (d.state = .stopping ∧ d.continuation ≠ some .backoff ∧ d.continuation ≠ some .verdict)

theorem takeGoal_holds {s : State} {g : Goal} (hc : s.drive.controlledStop = false) (hs : HoldsChange s.drive) :
    takeGoal (some g) s = s.setDrive { s.drive with
      goal := some g, heldChange := s.drive.heldChange || decide (some g ≠ s.drive.goal) } := by
  by_cases hg : some g = s.drive.goal
  · rcases hs with hs | ⟨hs, -⟩ <;> simp [takeGoal, hc, hs, hg]
  · rcases hs with hs | ⟨hs, hk | hk⟩
    · simp [takeGoal, hc, hs, hg]
      rfl
    all_goals
      simp [takeGoal, hc, hs, hg, hk]
      rfl

theorem takeGoal_keeps {s : State} {g : Goal} (hc : s.drive.controlledStop = false) (hs : KeepsGoal s.drive) :
    takeGoal (some g) s = withDriveGoal (some g) s := by
  rcases hs with hs | ⟨hs, h1, h2⟩
  · simp [takeGoal, withDriveGoal, hc, hs]
  · simp [takeGoal, withDriveGoal, hc, hs, h1, h2]

/-! ### The close notice -/

theorem takeCloseNotice_blocked {s : State} (hc : s.drive.controlledStop = false) (hs : s.drive.state = .blocked) :
    takeCloseNotice s = forgiveAndGo s := by simp [takeCloseNotice, hc, hs]

theorem takeCloseNotice_retryWait {s : State} (hc : s.drive.controlledStop = false)
    (hs : s.drive.state = .retryWait) : takeCloseNotice s = waitOrIdle s := by simp [takeCloseNotice, hc, hs]

/-- The states in which a close notice is held (R127, R135). -/
def HoldsClose (d : Drive) : Prop := HoldsChange d ∨ (d.state = .stopping ∧ d.continuation = some .sag)

theorem takeCloseNotice_held {s : State} (hc : s.drive.controlledStop = false) (hs : HoldsClose s.drive) :
    takeCloseNotice s = s.setDrive { s.drive with heldClose := true } := by
  rcases hs with (hs | ⟨hs, hk | hk⟩) | ⟨hs, hk⟩
  · simp [takeCloseNotice, hc, hs]
  all_goals simp [takeCloseNotice, hc, hs, hk]

theorem takeCloseNotice_passes {s : State} (hs : s.drive.state = .sagWait ∨ (s.drive.state = .stopping ∧
    (s.drive.continuation = some .goal ∨ s.drive.continuation = some .yield ∨ s.drive.continuation = some .halt))) :
    takeCloseNotice s = s := by
  rcases hs with hs | ⟨hs, hk | hk | hk⟩
  · simp [takeCloseNotice, hs]
  all_goals simp [takeCloseNotice, hs, hk]

/-! ### The closing goal of a CLOSE press -/

/-- The goal in hand after a CLOSE press: that of a leading DEMAND, or the one there was (R85, R88). -/
def closingGoal (s : State) : Option Goal :=
  if (asked .seat s).levels.demand = .acting then some ⟨.demand, .seat⟩ else s.drive.goal

/-- The node with the closing goal in hand, before the drive takes it. -/
def closing (s : State) : State :=
  if (asked .seat s).levels.demand = .acting then handedOver .seat s else asked .seat s

theorem formGoal_asked_seat {s : State} (h : DemandLeads s) : formGoal (asked .seat s) = some ⟨.demand, .seat⟩ := by
  rw [formGoal_asked h, ite_self]

theorem closing_leads {s : State} (h : DemandLeads s) :
    closing s = handedOver .seat s ∧ closingGoal s = some ⟨.demand, .seat⟩ :=
  ⟨if_pos (asked_demand_leads h _), if_pos (asked_demand_leads h _)⟩

theorem closing_follows {s : State} (h : ¬DemandLeads s) : closing s = asked .seat s ∧ closingGoal s = s.drive.goal := by
  have armed : (asked .seat s).levels.demand ≠ .acting := by
    rw [asked_demand_follows h]
    exact nofun
  exact ⟨if_neg armed, if_neg armed⟩

theorem closing_eq (s : State) : closing s = { s with
    levels := (closing s).levels, drive := { s.drive with goal := closingGoal s } } := by
  by_cases h : DemandLeads s
  · obtain ⟨hy, hg⟩ := closing_leads h
    rw [hy, hg, ← formGoal_asked_seat h]
    exact handedOver_eq _ _
  · obtain ⟨hy, hg⟩ := closing_follows h
    rw [hy, hg]
    exact asked_eq _ _

theorem closing_drive (s : State) : (closing s).drive = { s.drive with goal := closingGoal s } :=
  congrArg State.drive (closing_eq s)

theorem closing_supply (s : State) : (closing s).supply = s.supply := by rw [closing_eq]

theorem closing_handed (s : State) : (closing s).levels.handed =
    if (asked .seat s).levels.demand = .acting then closingGoal s else s.levels.handed := by
  by_cases h : DemandLeads s
  · obtain ⟨hy, hg⟩ := closing_leads h
    rw [hy, hg, if_pos (asked_demand_leads h _), handedOver_handed, formGoal_asked_seat h]
  · obtain ⟨hy, hg⟩ := closing_follows h
    rw [hy, hg, asked_demand_follows h, if_neg nofun]
    rfl

theorem closing_holdRef {s : State} (hi : s.drive.state ≠ .idle) :
    (closing s).levels.holdRef = s.levels.holdRef := by
  by_cases h : DemandLeads s
  · rw [(closing_leads h).1, handedOver_holdRef h hi]
  · rw [(closing_follows h).1]
    rfl

section
variable {s : State} (hl : LevelsLawful s) (hc : s.drive.controlledStop = false)
include hl hc

theorem demandHanded_waits (hs : s.drive.state = .blocked ∨ s.drive.state = .retryWait) :
    demandHanded .seat s = if closingGoal s = s.drive.goal then closing s else forgiveAndGo (closing s) := by
  by_cases h : DemandLeads s
  · have recorded : (recordHanding (asked .seat s)).drive = s.drive := by rw [recordHanding_asked]; rfl
    obtain ⟨hy, hg⟩ := closing_leads h
    rw [demandHanded_leads h, hy, hg, ← withDriveGoal_recorded, formGoal_asked_seat h]
    unfold handGoal
    rw [formGoal_asked_seat h, takeGoal_waits (by rw [recorded]; exact hc) (by rw [recorded]; exact hs), recorded]
  · obtain ⟨hy, hg⟩ := closing_follows h
    rw [demandHanded_follows hl h, hy, hg, if_pos rfl]

theorem demandHanded_holds (hs : HoldsChange s.drive) : demandHanded .seat s = (closing s).setDrive { s.drive with
    goal := closingGoal s, heldChange := s.drive.heldChange || decide (closingGoal s ≠ s.drive.goal) } := by
  by_cases h : DemandLeads s
  · have recorded : (recordHanding (asked .seat s)).drive = s.drive := by rw [recordHanding_asked]; rfl
    obtain ⟨hy, hg⟩ := closing_leads h
    rw [demandHanded_leads h, hy, hg, ← withDriveGoal_recorded]
    unfold handGoal
    rw [formGoal_asked_seat h, takeGoal_holds (by rw [recorded]; exact hc) (by rw [recorded]; exact hs), recorded]
    rfl
  · obtain ⟨hy, hg⟩ := closing_follows h
    rw [demandHanded_follows hl h, hy, hg]
    simp only [ne_eq, not_true_eq_false, decide_false, Bool.or_false]
    rfl

theorem demandHanded_keeps (hs : KeepsGoal s.drive) : demandHanded .seat s = closing s := by
  by_cases h : DemandLeads s
  · have recorded : (recordHanding (asked .seat s)).drive = s.drive := by rw [recordHanding_asked]; rfl
    rw [demandHanded_leads h, (closing_leads h).1, ← withDriveGoal_recorded]
    unfold handGoal
    rw [formGoal_asked_seat h, takeGoal_keeps (by rw [recorded]; exact hc) (by rw [recorded]; exact hs)]
  · rw [demandHanded_follows hl h, (closing_follows h).1]

end

/-! ### The close notice after the closing goal -/

/-- A CLOSE press in a drive that does not move asks for closed-seated, then hands the close notice (R89). -/
theorem pressNoted_closes {s : State} (h : s.drive.state.movingForPress = false) :
    pressNoted true s = takeCloseNotice (restartExpiry (demandHanded .seat s)) := by
  have target : pressTarget true s = .seat := by simp [pressTarget, h]
  unfold pressNoted
  rw [target, takeDemand_eq]
  rfl

theorem restartExpiry_closing_drive (s : State) :
    (restartExpiry (closing s)).drive = { s.drive with goal := closingGoal s } :=
  (restartExpiry_drive _).trans (closing_drive s)

section
variable {s : State} (hl : LevelsLawful s) (hc : s.drive.controlledStop = false)
include hl hc

/-- BLOCKED is left with the retry count forgiven, by the change of goal or by the notice (R132). -/
theorem pressNoted_blocked (hs : s.drive.state = .blocked) :
    pressNoted true s = forgiveAndGo (restartExpiry (closing s)) ∨
    pressNoted true s = restartExpiry (forgiveAndGo (closing s)) := by
  rw [pressNoted_closes (by rw [hs]; rfl), demandHanded_waits hl hc (.inl hs)]
  split
  · refine .inl (takeCloseNotice_blocked ?_ ?_) <;> rw [restartExpiry_closing_drive]
    · exact hc
    · exact hs
  · refine .inr (takeCloseNotice_none ?_)
    rw [restartExpiry_drive]
    exact (forgiveAndGo_state _).1.imp_right .inl

/-- RETRY_WAIT is left with the retry count kept, and forgiven where the goal changed (R131). -/
theorem pressNoted_retryWait (hs : s.drive.state = .retryWait) :
    (closingGoal s = s.drive.goal ∧ pressNoted true s = waitOrIdle (restartExpiry (closing s))) ∨
    (closingGoal s ≠ s.drive.goal ∧ pressNoted true s = restartExpiry (forgiveAndGo (closing s))) := by
  rw [pressNoted_closes (by rw [hs]; rfl), demandHanded_waits hl hc (.inr hs)]
  split
  · next hg =>
    refine .inl ⟨hg, takeCloseNotice_retryWait ?_ ?_⟩ <;> rw [restartExpiry_closing_drive]
    · exact hc
    · exact hs
  · next hg =>
    refine .inr ⟨hg, takeCloseNotice_none ?_⟩
    rw [restartExpiry_drive]
    exact (forgiveAndGo_state _).1.imp_right .inl

/-- A drive that carries out an obstruction holds the notice, and a change of goal beside it (R127, R135). -/
theorem pressNoted_holds (hs : HoldsChange s.drive) : (pressNoted true s).drive = { s.drive with
    goal := closingGoal s, heldClose := true
    heldChange := s.drive.heldChange || decide (closingGoal s ≠ s.drive.goal) } := by
  have still : s.drive.state.movingForPress = false := by rcases hs with h | ⟨h, -⟩ <;> rw [h] <;> rfl
  rw [pressNoted_closes still, demandHanded_holds hl hc hs, takeCloseNotice_held (by exact hc) (.inl (by exact hs))]
  rfl

/-- A braking for SAG holds the notice with the goal in hand (R127). -/
theorem pressNoted_sag (hs : s.drive.state = .stopping) (hk : s.drive.continuation = some .sag) :
    (pressNoted true s).drive = { s.drive with goal := closingGoal s, heldClose := true } := by
  have keeps : KeepsGoal s.drive := .inr ⟨hs, by simp [hk], by simp [hk]⟩
  rw [pressNoted_closes (by rw [hs]; rfl), demandHanded_keeps hl hc keeps, takeCloseNotice_held,
    State.setDrive_drive, restartExpiry_closing_drive]
  · rw [restartExpiry_closing_drive]
    exact hc
  · rw [restartExpiry_closing_drive]
    exact .inr ⟨hs, hk⟩

/-- A braking of another continuation and SAG_WAIT take the goal alone (R127, R137). -/
theorem pressNoted_keeps (hs : s.drive.state = .sagWait ∨ (s.drive.state = .stopping ∧
    (s.drive.continuation = some .goal ∨ s.drive.continuation = some .yield ∨ s.drive.continuation = some .halt))) :
    (pressNoted true s).drive = { s.drive with goal := closingGoal s } := by
  have still : s.drive.state.movingForPress = false := by rcases hs with h | ⟨h, -⟩ <;> rw [h] <;> rfl
  have keeps : KeepsGoal s.drive := by
    rcases hs with h | ⟨h, k | k | k⟩
    · exact .inl h
    all_goals exact .inr ⟨h, by simp [k], by simp [k]⟩
  rw [pressNoted_closes still, demandHanded_keeps hl hc keeps, takeCloseNotice_passes, restartExpiry_closing_drive]
  rw [restartExpiry_closing_drive]
  exact hs

/-! ### The waits -/

omit hc in
theorem pressNoted_demand (closes : Bool) : (pressNoted closes s).levels.demand = (asked .seat s).levels.demand := by
  obtain ⟨-, -, -, -, leads, follows, -⟩ := pressNoted_levels hl closes
  by_cases h : DemandLeads s
  · rw [leads h, asked_demand_leads h]
  · rw [follows h, asked_demand_follows h]

omit hl hc in
/-- The state before a wait's end, as CloseTaken writes it, is the node with the closing goal in hand. -/
theorem withGoal_closing (hi : s.drive.state ≠ .idle) {n : State} (hn : n.levels = { (closing s).levels with
      handed := n.levels.handed, holdRef := n.levels.holdRef, expiryDl := n.levels.expiryDl }) :
    withGoal (closingGoal s)
      (if (asked .seat s).levels.demand = .acting then closingGoal s else s.levels.handed) s n =
    { closing s with levels := { (closing s).levels with expiryDl := n.levels.expiryDl } } :=
  Machine.withGoal_eq (closing_eq s) (closing_handed s) (closing_holdRef hi) hn

omit hl hc in
/-- What began anew before or after the drive moved leaves the levels of the closing goal otherwise. -/
theorem closing_levels {n : State} (h : Moves (restartExpiry (closing s)) n ∨
    ∃ u, Moves (closing s) u ∧ n = restartExpiry u) : n.levels = { (closing s).levels with
      handed := n.levels.handed, holdRef := n.levels.holdRef, expiryDl := n.levels.expiryDl } := by
  rcases h with h | ⟨u, h, rfl⟩
  · have k : (restartExpiry (closing s)).levels = { (closing s).levels with
        expiryDl := (restartExpiry (closing s)).levels.expiryDl } := rfl
    have e := h.expiryDl
    have levels := h.levels_eq
    generalize n.levels = v at levels e ⊢
    rw [levels, k]
  · have k : (restartExpiry u).levels = { u.levels with expiryDl := (restartExpiry u).levels.expiryDl } := rfl
    generalize (restartExpiry u).levels = v at k ⊢
    rw [k, h.levels_eq]

/-- A drive that is not admitted goes on from BLOCKED with the retry count 0 (R132). -/
theorem pressNoted_blocked_went (hs : s.drive.state = .blocked) (ha : s.supply.admission ≠ .admitted) :
    WentOn 0 (withGoal (closingGoal s)
      (if (asked .seat s).levels.demand = .acting then closingGoal s else s.levels.handed) s (pressNoted true s))
      (pressNoted true s) := by
  have hi : s.drive.state ≠ .idle := by simp [hs]
  have adm : (closing s).supply.admission ≠ .admitted := by rw [closing_supply]; exact ha
  rcases pressNoted_blocked hl hc hs with hn | hn
  · rw [withGoal_closing hi (closing_levels (.inl (hn ▸ forgiveAndGo_moves _))), wentOn_expiry, hn]
    exact (wentOn_restartExpiry _ _ _).1 (forgiveAndGo_went (s := restartExpiry (closing s)) adm)
  · rw [withGoal_closing hi (closing_levels (.inr ⟨_, forgiveAndGo_moves _, hn⟩)), wentOn_expiry, hn]
    exact (forgiveAndGo_went adm).ends (restartExpiry_ends _)

/-- A drive that is not admitted goes on from RETRY_WAIT with the retry count kept, or 0 where the goal changed
(R131). -/
theorem pressNoted_retryWait_went (hs : s.drive.state = .retryWait) (ha : s.supply.admission ≠ .admitted) :
    WentOn (if decide (closingGoal s ≠ s.drive.goal) then 0 else s.drive.retry) (withGoal (closingGoal s)
      (if (asked .seat s).levels.demand = .acting then closingGoal s else s.levels.handed) s (pressNoted true s))
      (pressNoted true s) := by
  have hi : s.drive.state ≠ .idle := by simp [hs]
  have adm : (closing s).supply.admission ≠ .admitted := by rw [closing_supply]; exact ha
  rcases pressNoted_retryWait hl hc hs with ⟨hg, hn⟩ | ⟨hg, hn⟩
  · have went := waitOrIdle_went (s := restartExpiry (closing s)) adm
    rw [restartExpiry_closing_drive] at went
    rw [withGoal_closing hi (closing_levels (.inl (hn ▸ waitOrIdle_moves _))), wentOn_expiry, hn,
      if_neg (by simp [hg])]
    exact (wentOn_restartExpiry _ _ _).1 went
  · rw [withGoal_closing hi (closing_levels (.inr ⟨_, forgiveAndGo_moves _, hn⟩)), wentOn_expiry, hn,
      if_pos (by simp [hg])]
    exact (forgiveAndGo_went adm).ends (restartExpiry_ends _)

/-- What a CLOSE press does in a drive that waits or carries out an obstruction (R89). -/
theorem pressNoted_closeTaken : CloseTaken s (pressNoted true s) := by
  unfold CloseTaken
  rw [pressNoted_demand hl]
  refine ⟨fun ha => ⟨fun hs => pressNoted_blocked_went hl hc hs ha, fun hs => pressNoted_retryWait_went hl hc hs ha⟩,
    fun hs => ?_, fun hs => ⟨fun hk => ?_, fun hk => ?_, fun hk => ?_⟩, fun hs => ?_⟩
  · dsimp only
    rw [pressNoted_holds hl hc (.inl hs), Bool.or_true]
    rfl
  · dsimp only
    rw [pressNoted_holds hl hc (.inr ⟨hs, hk⟩), Bool.or_true]
    rfl
  · dsimp only
    rw [pressNoted_sag hl hc hs hk, Bool.or_true, Bool.or_false]
    rfl
  · dsimp only
    rw [pressNoted_keeps hl hc (.inr ⟨hs, hk⟩), Bool.or_false, Bool.or_false]
    rfl
  · dsimp only
    rw [pressNoted_keeps hl hc (.inl hs), Bool.or_false, Bool.or_false]
    rfl

/-- BLOCKED is left with the retry count 0 in every state of admission (R132). -/
theorem pressNoted_blocked_left (hs : s.drive.state = .blocked) :
    ((pressNoted true s).drive.state = .idle ∨ (pressNoted true s).drive.state = .waitSlot) ∧
    (pressNoted true s).drive.retry = 0 := by
  rcases pressNoted_blocked hl hc hs with hn | hn <;> rw [hn]
  · exact forgiveAndGo_state _
  · rw [restartExpiry_drive]
    exact forgiveAndGo_state _

end

end Sys2Proof.Machine
end

section
/-! A sample of the buttons as a whole (R18, R89). -/

namespace Sys2Proof.Machine

/-! ### The sample that completes a press -/

/-- A press is latched at the fifth sample down, with the other button up (R18). -/
theorem press_latches {down other : Button} (hs : down.settled = some false) (hr : down.run = 4)
    (ho : other.settled = some false) (latch : Bool) :
    (latch || (pressed down (sampleButton true down) && (sampleButton false other).settled != some true)) = true := by
  have settles := ((sampleButton_spec true down).2.2 (by simp [hs]) (by omega)).1
  have stays := ((sampleButton_spec false other).1 ho).1
  simp [(pressed_iff _ _).2 ⟨hs, settles⟩, stays]

/-- A button that stays up latches nothing. -/
theorem up_latches_nothing {up : Button} (hs : up.settled = some false) (hl : up.latch = false) (b : Bool) :
    (up.latch || (pressed up (sampleButton false up) && b)) = false := by
  have stays := ((sampleButton_spec false up).1 hs).1
  have no : pressed up (sampleButton false up) = false := by simp [pressed, stays]
  rw [hl, no]
  rfl

/-- The sample that completes a press hands it to the Level Controller (R18, R89). -/
theorem takeButtonSample_presses {closes : Bool} {s : State} (ho : s.sensor.openButton.latch = false)
    (hc : s.sensor.closeButton.latch = false) (so : s.sensor.openButton.settled = some false)
    (sc : s.sensor.closeButton.settled = some false)
    (hr : (if closes then s.sensor.closeButton.run else s.sensor.openButton.run) = 4) :
    ∃ f, takeButtonSample (!closes) closes s =
      takePress closes ((s.setPins { s.pins with openDown := !closes, closeDown := closes }).setSensor f) := by
  cases closes with
  | true =>
    have up : (withButtons false true s).sensor.openButton.latch = false := up_latches_nothing so ho _
    have down : (withButtons false true s).sensor.closeButton.latch = true := press_latches sc hr so _
    rw [takeButtonSample_eq, Bool.not_true, takeOpenLatch_clear up, takeCloseLatch_set down]
    exact ⟨_, rfl⟩
  | false =>
    have up : (withButtons true false s).sensor.closeButton.latch = false := up_latches_nothing sc hc _
    have down : (withButtons true false s).sensor.openButton.latch = true := press_latches so hr sc _
    rw [takeButtonSample_eq, Bool.not_false, takeOpenLatch_set down, takeCloseLatch_clear]
    · exact ⟨_, rfl⟩
    · rw [takePress_sensor]
      exact up

/-! ### The command -/

/-- What a press does at the end of its command (R84 to R94), but for the Sensor Front. -/
theorem press_taken {closes : Bool} {s v t : State} (hl : LevelsLawful v) (hs : v.safe = false)
    (ht : t = commit s (takePress closes v)) :
    t.levels.demandTarget = some
      (if v.levels.demand = .acting ∧ v.drive.state.movingForPress = true then demandAt (position v) v
        else if closes then .seat else demandAt v.cfg.maxOpen v) ∧
    t.levels.demand ≠ .quiet ∧ t.levels.storm = v.levels.storm ∧ t.levels.rain = v.levels.rain ∧
    t.levels.expiryDl = (if v.cfg.demandExpiry = 0 then none else some (after v.nt (1000 * v.cfg.demandExpiry))) ∧
    (DemandLeads v → t.levels.demand = .acting) ∧
    (t.levels.demand = .armed → v.listen = false → t.drive.refuseUntil = some (after v.nt 200)) ∧
    (t.levels.demand = .acting → t.drive.refuseUntil = v.drive.refuseUntil) ∧
    EndsAs (pressNoted closes v) t := by
  obtain ⟨target, storm, rain, expiry, leads, follows, refuse⟩ := pressNoted_levels hl closes
  have ends : EndsAs (pressNoted closes v) t := ht ▸ (takePress_ends hs closes).trans (commit_ends s _)
  have levels : t.levels = (pressNoted closes v).levels := by
    rw [ht, commit_levels, takePress_unsafe hs]
    split <;> rfl
  have sounds : t.drive.refuseUntil = (takePress closes v).drive.refuseUntil := by rw [ht, commit_drive]
  rw [levels]
  refine ⟨target, ?_, storm, rain, expiry, leads, fun ha hli => ?_, fun ha => ?_, ends⟩
  · by_cases h : DemandLeads v
    · rw [leads h]
      exact nofun
    · rw [follows h]
      exact nofun
  · have noted : (pressNoted closes v).nt = v.nt :=
      (pressNoted_moves closes v).nt.trans (demandHanded_turns (pressTarget closes v) v).nt
    rw [sounds, takePress_refused hs ha hli, ← noted]
    rfl
  · rw [sounds, takePress_acting hs ha, refuse]

/-- Settles O29: the Sensor Front after the sample, then a press taken by the Level Controller and the drive. -/
theorem buttonsSettleAndPressesDemand : Obligations.ButtonsSettleAndPressesDemand := by
  refine ⟨fun openDown closeDown s hr hd => ⟨_, exec_buttonSample hr.1 hd, ?_⟩,
    fun closes s hr hl hs hd lo lc so sc hrun => ⟨_, exec_buttonSample hr.1 hd, ?_⟩⟩
  · obtain ⟨o1, o2, o3⟩ := sampleButton_spec openDown s.sensor.openButton
    obtain ⟨c1, c2, c3⟩ := sampleButton_spec closeDown s.sensor.closeButton
    rw [commit_sensor, takeButtonSample_sensor]
    refine ⟨o1, o2, o3, c1, c2, c3, rfl, rfl, fun lo lc h1 h2 => ?_, fun h => ?_⟩
    · rw [takeButtonSample_quiet lo lc h1 h2, commit_withButtons hr]
      exact ⟨rfl, rfl, rfl⟩
    · rw [takeButtonSample_safe h, commit_levels, commit_supply, commit_drive_safe (by exact h)]
      exact ⟨rfl, rfl, rfl⟩
  · obtain ⟨f, hf⟩ := takeButtonSample_presses lo lc so sc hrun
    have front := (commit_sensor s _).trans (takeButtonSample_sensor (!closes) closes s)
    generalize ht : commit s (takeButtonSample (!closes) closes s) = t at front ⊢
    rw [hf] at ht
    generalize hv : (s.setPins { s.pins with openDown := !closes, closeDown := closes }).setSensor f = v at ht
    have lawful : LevelsLawful v := hv ▸ hl
    obtain ⟨target, raised, storm, rain, expiry, leads, refused, acts, ends⟩ :=
      press_taken lawful (by rw [← hv]; exact hs) ht.symm
    subst hv
    refine ⟨target, raised, storm, rain, expiry, fun h1 h2 h3 => leads ⟨h3, h1, h2⟩, refused, acts,
      fun hact hsus hcs h0 hx hg => ⟨fun hm => ?_, fun hm => ?_⟩, fun hclose hcs => ?_, by rw [front]⟩
    · obtain ⟨r, u, hdrive⟩ := ends.drive
      rw [hdrive, ends.supply]
      exact pressNoted_stops lawful hact hsus hcs hg h0 hx hm closes
    · obtain ⟨e, hlev⟩ := ends.levels
      have rests := (pressNoted_rests lawful hact hsus hcs hg h0 hx hm closes).ends ends
      unfold withGoal
      rw [hlev]
      exact rests
    · subst hclose
      obtain ⟨r, u, hdrive⟩ := ends.drive
      refine ⟨(pressNoted_closeTaken lawful hcs).ends ends, fun hb => ?_⟩
      rw [hdrive]
      exact pressNoted_blocked_left lawful hcs hb

end Sys2Proof.Machine
end

section
/-! The commands due at an NT, each with its test (R3, R52, R152 and the deadlines of every block). -/

namespace Sys2Proof.Machine

/-! ### What the clock issues -/

theorem mem_issue {c d : Instr} {test : Bool} : c ∈ issue test d ↔ test = true ∧ c = d := by
  unfold issue
  split <;> simp_all

theorem mem_dueWrite {c : Instr} {s : State} : c ∈ dueWrite s ↔
    ∃ w, s.store.writing = some w ∧ passed s.nt w.deadline = true ∧ c = .writeComplete w.value (checkBits w.value) := by
  unfold dueWrite
  cases h : s.store.writing with
  | none => simp
  | some w => simp [mem_issue, writeDue, h, encodeField]

theorem mem_dueCommands {c : Instr} {s : State} : c ∈ dueCommands s ↔
    (belowHallFloor s.pins.supply s = true ∧ c = .supplyBelowHallFloor s.pins.supply) ∨
    (overCurrentDue s = true ∧ c = .overCurrent) ∨ (sagDue s = true ∧ c = .sag) ∨
    (oneChannel s.pos.hall s.pins.hall = true ∧ c = .hallStep s.pins.hall) ∨
    (bothChannels s.pos.hall s.pins.hall = true ∧ c = .hallSkip s.pins.hall) ∨
    (gridDue s = true ∧ c = .gridSample s.pins.grid) ∨
    (buttonsDue s = true ∧ c = .buttonSample s.pins.openDown s.pins.closeDown) ∨
    (keyDue s = true ∧ c = .keySample s.pins.keyOn) ∨ (velocityEnds s = true ∧ c = .velocityWindowEnd) ∨
    (windowEnds s = true ∧ c = .windowEnd s.pins.vane) ∨ (scanDue s = true ∧ c = .peerScan) ∨
    (listenEnds s = true ∧ c = .listenEnd) ∨ (demandExpires s = true ∧ c = .demandExpiry) ∨
    (isolationDue s = true ∧ c = .isolationDeadline) ∨ (periodicDue s = true ∧ c = .periodicObserveDeadline) ∨
    (holdoffPassed s = true ∧ c = .immediateHoldoffExpiry) ∨
    (runningRefreshDue s = true ∧ c = .runningRefreshDeadline) ∨
    (∃ source ∈ agedSources s, .intentEntryAged source = c) ∨ (settleDue s = true ∧ c = .settleDeadline) ∨
    (intentRefreshDue s = true ∧ c = .intentRefreshDeadline) ∨ (warningDue s = true ∧ c = .warningDeadline) ∨
    (rampStepDue s = true ∧ c = .rampStep) ∨ (stopDue s = true ∧ c = .stopDeadline) ∨
    (seatTimeoutDue s = true ∧ c = .seatTimeout) ∨ (safeSeatDue s = true ∧ c = .safeSeatDeadline) ∨
    (backoffDue s = true ∧ c = .backoffDeadline) ∨ (retryDue s = true ∧ c = .retryDeadline) ∨
    (sagHoldoffDue s = true ∧ c = .sagHoldoffDeadline) ∨ (refuseEnds s = true ∧ c = .refuseEnd) ∨
    (crossCheckDue s = true ∧ c = .crossCheckDeadline s.pins.stroke) ∨
    (∃ w, s.store.writing = some w ∧ passed s.nt w.deadline = true ∧ c = .writeComplete w.value (checkBits w.value)) ∨
    (windowDeadlineDue s = true ∧ c = .commissioningWindowDeadline) := by
  simp only [dueCommands, dueReadings, dueSamples, dueDeadlines, dueDrive, List.mem_append, mem_issue, List.mem_map,
    mem_dueWrite, or_assoc]

/-! ### What each test says -/

theorem belowHallFloor_iff (v : Nat) (s : State) : belowHallFloor v s = true ↔ v < 160 ∧ energised s = true := by
  simp [belowHallFloor]

theorem sagDue_iff (s : State) : sagDue s = true ↔ energised s = true ∧ s.safe = false ∧
    ∃ since, s.supply.sagTimer = some since ∧ 50 ≤ (s.nt - since).toNat := by
  unfold sagDue
  rw [Bool.and_eq_true, Bool.and_eq_true, Bool.not_eq_true', and_assoc]
  cases h : s.supply.sagTimer with
  | none => simp
  | some t =>
    simp only [decide_eq_true_eq, Option.some.injEq, exists_eq_left']
    rfl

theorem overCurrentDue_iff (s : State) : overCurrentDue s = true ↔ energised s = true ∧
    ∃ since, s.drive.ocTimer = some since ∧ 100 ≤ (s.nt - since).toNat := by
  unfold overCurrentDue
  rw [Bool.and_eq_true]
  cases h : s.drive.ocTimer with
  | none => simp
  | some t =>
    simp only [decide_eq_true_eq, Option.some.injEq, exists_eq_left']
    rfl

theorem oneChannel_iff (held pair : HallPair) :
    oneChannel held pair = true ↔ pair = hallNext held ∨ held = hallNext pair := by
  unfold oneChannel
  rw [Bool.or_eq_true, beq_iff_eq, beq_iff_eq]

theorem bothChannels_iff (held pair : HallPair) : bothChannels held pair = true ↔ pair = ~~~held := by
  unfold bothChannels
  rw [beq_iff_eq]

theorem multipleOf_iff (nt : Time) (period : Nat) : multipleOf nt period = true ↔ nt.toNat % period = 0 :=
  decide_eq_true_iff

theorem gridDue_iff (s : State) : gridDue s = true ↔
    s.cfg.wetFitted = true ∧ s.nt.toNat % 250 = 0 ∧ s.sensor.gridAt ≠ some s.nt := by
  unfold gridDue
  rw [Bool.and_eq_true, Bool.and_eq_true, multipleOf_iff, bne_iff_ne, and_assoc]

theorem buttonsDue_iff (s : State) : buttonsDue s = true ↔
    s.nt.toNat % 10 = 0 ∧ s.sensor.buttonsAt ≠ some s.nt := by
  unfold buttonsDue
  rw [Bool.and_eq_true, multipleOf_iff, bne_iff_ne]

theorem keyDue_iff (s : State) : keyDue s = true ↔ s.nt.toNat % 10 = 0 ∧ s.sensor.keyAt ≠ some s.nt := by
  unfold keyDue
  rw [Bool.and_eq_true, multipleOf_iff, bne_iff_ne]

theorem velocityEnds_iff (s : State) : velocityEnds s = true ↔
    s.nt.toNat % 100 = 0 ∧ s.nt.toNat / 100 ≠ s.pos.windowBegin.toNat / 100 := by
  unfold velocityEnds
  rw [Bool.and_eq_true, multipleOf_iff, bne_iff_ne]

theorem windowEnds_iff (s : State) : windowEnds s = true ↔
    s.nt.toNat % 1000 = 0 ∧ s.nt.toNat / 1000 ≠ s.sensor.windowBegin.toNat / 1000 := by
  unfold windowEnds
  rw [Bool.and_eq_true, multipleOf_iff, bne_iff_ne]

theorem isolationDue_iff (s : State) : isolationDue s = true ↔
    s.line.isolated = false ∧ passed s.nt s.line.isolationDl = true := by
  unfold isolationDue
  rw [Bool.and_eq_true, Bool.not_eq_true']

theorem periodicDue_iff (s : State) : periodicDue s = true ↔
    s.safe = false ∧ passed s.nt s.weather.periodicDl = true := by
  unfold periodicDue
  rw [Bool.and_eq_true, Bool.not_eq_true']

theorem entryAged_iff (s : State) (e : Entry) : entryAged s e = true ↔
    e.own = false ∧ passed s.nt (after e.heardAt 5001) = true := by
  unfold entryAged
  rw [Bool.and_eq_true, Bool.not_eq_true']

theorem mem_agedSources {source : BitVec 6} {s : State} : source ∈ agedSources s ↔
    ∃ e ∈ s.supply.entries, e.own = false ∧ passed s.nt (after e.heardAt 5001) = true ∧
      source = BitVec.ofNat 6 e.source := by
  unfold agedSources
  simp only [List.mem_map, List.mem_filter, entryAged_iff, and_assoc, eq_comm (a := source)]

/-- A test of a condition and a deadline. -/
theorem decide_and_due {p : Prop} [Decidable p] {b : Bool} : (decide p && b) = true ↔ p ∧ b = true := by
  rw [Bool.and_eq_true, decide_eq_true_eq]

theorem safeSeatDue_iff (s : State) : safeSeatDue s = true ↔
    s.drive.state = .seating ∧ s.drive.safePhase = .seating ∧ due s.nt s.drive.safeSeatDl = true := by
  unfold safeSeatDue
  rw [Bool.and_eq_true, decide_and_due, decide_eq_true_eq, and_assoc]

theorem crossCheckDue_iff (s : State) : crossCheckDue s = true ↔
    s.cfg.strokeFitted = true ∧ s.drive.state = .idle ∧ due s.nt s.pos.crossCheckDl = true := by
  unfold crossCheckDue
  rw [Bool.and_eq_true, Bool.and_eq_true, decide_eq_true_eq, and_assoc]

end Sys2Proof.Machine
end

section
/-! The clock within a millisecond: the events of the line, and the reading of the supply at its end. -/

namespace Sys2Proof.Machine

/-! ### The branches of the clock -/

theorem step_clock {s : State} (h : s.pending = []) : step s = .next (tick s) := by
  unfold step
  rw [h]

theorem tick_dark {s : State} (h : s.power = false) : tick s = darkMillisecond s := by
  simp [tick, h]

theorem tick_issues {s : State} (h : s.power = true) (hs : s.served = false) :
    tick s = (s.setServed true).setPending (dueCommands s) := by
  simp [tick, h, hs]

theorem tick_restarts {s : State} (h : s.power = true) (hs : s.served = true) (hr : restartReady s = true) :
    tick s = s.setPending [.restartStart] := by
  simp [tick, h, hs, hr]

theorem tick_transmits {s : State} (h : s.power = true) (hs : s.served = true) (hr : restartReady s = false)
    (hm : mayTransmit s = true) : tick s = s.setPending [.transmissionStart] := by
  simp [tick, h, hs, hr, hm]

theorem tick_runs {s : State} (h : s.power = true) (hs : s.served = true) (hr : restartReady s = false)
    (hm : mayTransmit s = false) : tick s = runLine s := by
  simp [tick, h, hs, hr, hm]

theorem runLine_happens {s : State} {u : Nat} {e : LineEvent} (h : nextEvent s = some (u, e))
    (hu : u < s.lineFeed.left) : runLine s = happen e (passTime u s) := by
  simp [runLine, h, hu]

theorem runLine_ends {s : State} (h : ∀ u e, nextEvent s = some (u, e) → s.lineFeed.left ≤ u) :
    runLine s = millisecond s := by
  unfold runLine
  cases hn : nextEvent s with
  | none => rfl
  | some p => exact if_neg (Nat.not_lt.2 (h p.1 p.2 hn))

/-! ### A stop and a sample -/

/-- Which command takes a telegram does not look at the line's counters. -/
theorem arrivalCommand_passTime (u : Nat) (s : State) : arrivalCommand (passTime u s) = arrivalCommand s := rfl

theorem lineDominant_iff (s : State) : lineDominant s = true ↔ 0 < s.line.driven ∨ 0 < s.lineFeed.held := by
  simp [lineDominant]

/-- Where the line is sampled (R21, R22), the level decides the reading. -/
theorem takeSample_reads {s : State} {read : Bool} (h : read = true ↔ ¬(0 < s.line.driven ∨ 0 < s.lineFeed.held)) :
    takeSample s = { s with
      line := s.line.sample read, pending := (outcomeCommand (s.setLine (s.line.sample read))).toList } := by
  have level : (!lineDominant s) = read := by
    rw [Bool.eq_iff_iff, Bool.not_eq_true', ← Bool.not_eq_true, lineDominant_iff, h]
  rw [takeSample_eq, level]

theorem outcomeCommand_none {s : State} (h : s.line.inFlight = none) : outcomeCommand s = none := by
  simp [outcomeCommand, h]

theorem outcomeCommand_some {s : State} {f : InFlight} (h : s.line.inFlight = some f) :
    (readBack f.frame.bits f.read = .ongoing → outcomeCommand s = none) ∧
    (readBack f.frame.bits f.read = .lost → outcomeCommand s = some (.transmissionLost f.read)) ∧
    (readBack f.frame.bits f.read = .clash → outcomeCommand s = some (.identityClash f.read)) ∧
    (readBack f.frame.bits f.read = .completed → outcomeCommand s = some (.transmissionComplete f.read)) := by
  refine ⟨fun k => ?_, fun k => ?_, fun k => ?_, fun k => ?_⟩ <;> simp [outcomeCommand, h, k]

/-! ### A begin of pulses -/

/-- The pulse of the other stations that begins now, if any. -/
def LineFeed.came (f : LineFeed) : List Pulse := (f.pulses.takeWhile (fun p => p.wait == 0)).take 1

/-- What the other stations do once the pulse of now has begun. -/
def LineFeed.begun (f : LineFeed) : LineFeed :=
  ⟨f.left, f.came.foldl (fun h p => max h p.width) f.held, f.pulses.drop f.came.length⟩

theorem LineFeed.came_none {f : LineFeed} (h : ∀ p ∈ f.pulses.head?, p.wait ≠ 0) : f.came = [] := by
  unfold LineFeed.came
  cases hp : f.pulses with
  | nil => rfl
  | cons p ps => simp [h p (by simp [hp])]

theorem LineFeed.came_some {f : LineFeed} {p : Pulse} {ps : List Pulse} (hp : f.pulses = p :: ps) (h : p.wait = 0) :
    f.came = [p] := by
  simp [LineFeed.came, hp, h]

/-- The pulse that begins now, said twice: as the clock takes it, and as the feed shows it. -/
theorem pulseNow_came (s : State) :
    (s.lineFeed.came = [] ∧ pulseNow s = none ∧ s.lineFeed.begun = s.lineFeed) ∨
    ∃ p ps, s.lineFeed.pulses = p :: ps ∧ s.lineFeed.came = [p] ∧ pulseNow s = some p.width ∧
      s.lineFeed.begun = ⟨s.lineFeed.left, max s.lineFeed.held p.width, ps⟩ := by
  cases hp : s.lineFeed.pulses with
  | nil =>
    have none' : s.lineFeed.came = [] := LineFeed.came_none (by simp [hp])
    exact .inl ⟨none', by simp [pulseNow, hp], by simp [LineFeed.begun, none']⟩
  | cons p ps =>
    by_cases h : p.wait = 0
    · have one := LineFeed.came_some hp h
      exact .inr ⟨p, ps, rfl, one, by simp [pulseNow, hp, h], by simp [LineFeed.begun, one, hp]⟩
    · have none' : s.lineFeed.came = [] := LineFeed.came_none (by simp [hp, h])
      exact .inl ⟨none', by simp [pulseNow, hp, h], by simp [LineFeed.begun, none']⟩

/-- The line falls where an own bit is due, or a pulse of some width begins on a recessive line (R21, R22). -/
def Falls (s : State) : Prop :=
  (s.line.nextBit.isSome = true ∧ 80 ≤ s.line.assembly.quiet) ∨
  ((∃ p ∈ s.lineFeed.came, 0 < p.width) ∧ ¬(0 < s.line.driven ∨ 0 < s.lineFeed.held))

theorem ownBitIn_now (s : State) :
    (ownBitIn s == some 0) = true ↔ s.line.nextBit.isSome = true ∧ 80 ≤ s.line.assembly.quiet := by
  unfold ownBitIn
  cases s.line.nextBit with
  | none => simp
  | some b => simp [Nat.sub_eq_zero_iff_le]

theorem pulseNow_width (s : State) :
    0 < (pulseNow s).getD 0 ↔ ∃ p ∈ s.lineFeed.came, 0 < p.width := by
  rcases pulseNow_came s with ⟨hc, hp, -⟩ | ⟨p, ps, -, hc, hp, -⟩ <;> simp [hc, hp]

theorem falls_iff (s : State) :
    (ownBitIn s == some 0 || (decide (0 < (pulseNow s).getD 0) && !lineDominant s)) = true ↔ Falls s := by
  rw [Bool.or_eq_true, Bool.and_eq_true, decide_eq_true_eq, Bool.not_eq_true', ← Bool.not_eq_true, lineDominant_iff,
    ownBitIn_now, pulseNow_width]
  rfl

/-- A begin of pulses: the feed goes on, and the line falls or not (R21, R22). -/
theorem beginPulses_spec (s : State) :
    (¬Falls s → beginPulses s = s.setLineFeed s.lineFeed.begun) ∧
    (Falls s → beginPulses s = (s.setLineFeed s.lineFeed.begun).setLine s.line.fall) := by
  have feed : (match pulseNow s with
      | none => s
      | some width => s.setLineFeed ⟨s.lineFeed.left, max s.lineFeed.held width, s.lineFeed.pulses.tail⟩) =
      s.setLineFeed s.lineFeed.begun := by
    rcases pulseNow_came s with ⟨-, hp, hb⟩ | ⟨p, ps, hps, -, hp, hb⟩
    · rw [hp, hb]
      rfl
    · rw [hp, hb, hps]
      rfl
  refine ⟨fun h => ?_, fun h => ?_⟩
  · exact (if_neg (mt (falls_iff s).1 h)).trans feed
  · exact (if_pos ((falls_iff s).2 h)).trans (congrArg (fun t : State => t.setLine s.line.fall) feed)

/-! ### The end of the millisecond -/

/-- The node at the next NT, before the supply is read. -/
def risen (s : State) : State := { s with
  nt := s.nt + 1, served := false, pins := s.pinFeed.headD s.pins, pinFeed := s.pinFeed.tail
  lineFeed := ⟨1000, s.lineFeed.held - s.lineFeed.left, sooner s.lineFeed.left s.lineFeed.pulses⟩
  line := s.line.pass s.lineFeed.left }

theorem millisecond_eq (s : State) : millisecond s = readSupply (risen s) := by
  unfold millisecond
  rw [passTime_eq]
  exact congrArg readSupply rfl

/-- The reading of the supply runs or clears the sag timer (R113), outside the safe profile (R116). -/
def readSag (s : State) : State :=
  if s.safe then s
  else if s.pins.supply < s.cfg.sagThreshold then
    s.setSupply { s.supply with sagTimer := some (s.supply.sagTimer.getD s.nt) }
  else s.setSupply { s.supply with sagTimer := none }

/-- The reading of the current runs or clears the over-current timer, once the checks have begun (R128). -/
def readCurrent (s : State) : State :=
  if !due s.nt s.drive.checkStart then s
  else if currentLimit s < s.pins.current then
    s.setDrive { s.drive with ocTimer := some (s.drive.ocTimer.getD s.nt) }
  else s.setDrive { s.drive with ocTimer := none }

theorem readSupply_energised {s : State} (h : energised s = true) : readSupply s = readCurrent (readSag s) :=
  if_neg (by simp [h])

theorem readSupply_idle {s : State} (h : energised s = false) : readSupply s = s := if_pos (by simp [h])

theorem readSag_eq (s : State) :
    readSag s = s.setSupply { s.supply with sagTimer := (readSag s).supply.sagTimer } := by
  unfold readSag
  split
  · rfl
  · split <;> rfl

theorem readCurrent_eq (s : State) :
    readCurrent s = s.setDrive { s.drive with ocTimer := (readCurrent s).drive.ocTimer } := by
  unfold readCurrent
  split
  · rfl
  · split <;> rfl

/-- The reading of the supply moves its two timers and nothing else (R113, R128). -/
theorem readSupply_eq (s : State) : readSupply s = { s with
    supply := { s.supply with sagTimer := (readSupply s).supply.sagTimer }
    drive := { s.drive with ocTimer := (readSupply s).drive.ocTimer } } := by
  cases h : energised s with
  | false => rw [readSupply_idle h]
  | true =>
    rw [readSupply_energised h, readCurrent_eq, readSag_eq]
    rfl

/-- The sag timer of an energised bridge runs while the supply reads below the threshold (R113). -/
theorem readSupply_sag {s : State} (h : energised s = true) (hs : s.safe = false) :
    (readSupply s).supply.sagTimer =
      if s.pins.supply < s.cfg.sagThreshold then some (s.supply.sagTimer.getD s.nt) else none := by
  rw [readSupply_energised h, readCurrent_eq, State.setDrive_supply]
  unfold readSag
  rw [if_neg (by simp [hs])]
  split <;> rfl

theorem readCurrent_ocTimer (s : State) : (readCurrent s).drive.ocTimer =
    if due s.nt s.drive.checkStart = true then
      if currentLimit s < s.pins.current then some (s.drive.ocTimer.getD s.nt) else none
    else s.drive.ocTimer := by
  unfold readCurrent
  by_cases hd : due s.nt s.drive.checkStart = true
  · rw [if_neg (by simp [hd]), if_pos hd]
    by_cases hc : currentLimit s < s.pins.current
    · rw [if_pos hc, if_pos hc, State.setDrive_drive]
    · rw [if_neg hc, if_neg hc, State.setDrive_drive]
  · rw [if_pos (by simpa using hd), if_neg hd]

theorem currentLimit_setSupply (s : State) (v : Supply) : currentLimit (s.setSupply v) = currentLimit s := rfl

/-- The over-current timer of an energised bridge runs, once the checks have begun, while the current reads above the
limit (R128). -/
theorem readSupply_current {s : State} (h : energised s = true) : (readSupply s).drive.ocTimer =
    if due s.nt s.drive.checkStart = true then
      if currentLimit s < s.pins.current then some (s.drive.ocTimer.getD s.nt) else none
    else s.drive.ocTimer := by
  rw [readSupply_energised h, readCurrent_ocTimer, readSag_eq, currentLimit_setSupply, State.setSupply_nt,
    State.setSupply_drive, State.setSupply_pins]

theorem energised_risen {s : State} (h : s.power = true) : energised (risen s) = s.drive.state.energised := by
  show (s.power && s.drive.state.energised) = _
  rw [h, Bool.true_and]

end Sys2Proof.Machine
end

section
/-! The clock on an empty queue, as a whole. -/

namespace Sys2Proof.Machine

/-- The commands that a sample's outcome issues, from what it reads back (R28, R29, R34). -/
theorem outcomeCommand_sample (l : Line) (read : Bool) (s : State) :
    (l.inFlight = none → (outcomeCommand (s.setLine (l.sample read))).toList = []) ∧
    ∀ f, l.inFlight = some f →
      (readBack f.frame.bits (f.read ++ [read]) = .ongoing →
        (outcomeCommand (s.setLine (l.sample read))).toList = []) ∧
      (readBack f.frame.bits (f.read ++ [read]) = .lost →
        (outcomeCommand (s.setLine (l.sample read))).toList = [.transmissionLost (f.read ++ [read])]) ∧
      (readBack f.frame.bits (f.read ++ [read]) = .clash →
        (outcomeCommand (s.setLine (l.sample read))).toList = [.identityClash (f.read ++ [read])]) ∧
      (readBack f.frame.bits (f.read ++ [read]) = .completed →
        (outcomeCommand (s.setLine (l.sample read))).toList = [.transmissionComplete (f.read ++ [read])]) := by
  have sampled : (s.setLine (l.sample read)).line.inFlight = l.inFlight.map fun f => { f with read := f.read ++ [read] } :=
    rfl
  refine ⟨fun h => ?_, fun f h => ?_⟩
  · rw [outcomeCommand_none (by rw [sampled, h]; rfl)]
    rfl
  · obtain ⟨h1, h2, h3, h4⟩ := outcomeCommand_some (s := s.setLine (l.sample read))
      (f := { f with read := f.read ++ [read] }) (by rw [sampled, h]; rfl)
    exact ⟨fun k => by rw [h1 k]; rfl, fun k => by rw [h2 k]; rfl, fun k => by rw [h3 k]; rfl,
      fun k => by rw [h4 k]; rfl⟩

/-- A step of the clock at a line event. -/
theorem step_happens {s : State} (h : s.pending = []) (hp : s.power = true) (hs : s.served = true)
    (hr : restartReady s = false) (hm : mayTransmit s = false) {u : Nat} {e : LineEvent}
    (he : nextEvent s = some (u, e)) (hu : u < s.lineFeed.left) : step s = .next (happen e (passTime u s)) := by
  rw [step_clock h, tick_runs hp hs hr hm, runLine_happens he hu]

/-- A step of the clock to the end of the millisecond. -/
theorem step_rises {s : State} (h : s.pending = []) (hp : s.power = true) (hs : s.served = true)
    (hr : restartReady s = false) (hm : mayTransmit s = false)
    (he : ∀ u e, nextEvent s = some (u, e) → s.lineFeed.left ≤ u) : step s = .next (readSupply (risen s)) := by
  rw [step_clock h, tick_runs hp hs hr hm, runLine_ends he, millisecond_eq]

theorem readSupply_pins (s : State) : (readSupply s).pins = s.pins := by rw [readSupply_eq]

/-- The supply read at the end of a millisecond: the sag timer and the over-current timer of an energised bridge
(R113, R128). -/
theorem readSupply_risen {s : State} (hp : s.power = true) :
    let t := readSupply (risen s)
    (s.drive.state.energised = false →
      t.supply.sagTimer = s.supply.sagTimer ∧ t.drive.ocTimer = s.drive.ocTimer) ∧
    (s.drive.state.energised = true → s.safe = false → t.pins.supply < s.cfg.sagThreshold →
      t.supply.sagTimer = some (s.supply.sagTimer.getD (s.nt + 1))) ∧
    (s.drive.state.energised = true → s.safe = false → s.cfg.sagThreshold ≤ t.pins.supply →
      t.supply.sagTimer = none) ∧
    (s.drive.state.energised = true → due (s.nt + 1) s.drive.checkStart = false →
      t.drive.ocTimer = s.drive.ocTimer) ∧
    (s.drive.state.energised = true → due (s.nt + 1) s.drive.checkStart = true →
      currentLimit s < t.pins.current → t.drive.ocTimer = some (s.drive.ocTimer.getD (s.nt + 1))) ∧
    (s.drive.state.energised = true → due (s.nt + 1) s.drive.checkStart = true →
      t.pins.current ≤ currentLimit s → t.drive.ocTimer = none) := by
  have on := energised_risen hp
  dsimp only
  rw [readSupply_pins]
  refine ⟨fun hd => ?_, fun hd hs hv => ?_, fun hd hs hv => ?_, fun hd hc => ?_, fun hd hc hi => ?_, fun hd hc hi => ?_⟩
  · rw [readSupply_idle (on.trans hd)]
    exact ⟨rfl, rfl⟩
  · rw [readSupply_sag (on.trans hd) hs]
    exact if_pos hv
  · rw [readSupply_sag (on.trans hd) hs]
    exact if_neg (Nat.not_lt.2 hv)
  · rw [readSupply_current (on.trans hd)]
    exact if_neg (by rw [Bool.not_eq_true]; exact hc)
  · rw [readSupply_current (on.trans hd)]
    exact (if_pos hc).trans (if_pos hi)
  · rw [readSupply_current (on.trans hd)]
    exact (if_pos hc).trans (if_neg (Nat.not_lt.2 hi))

/-- Settles O2: the branches of the clock, the tests of the commands due, and the reading of the supply. -/
theorem clockIssuesThenAdvances : Obligations.ClockIssuesThenAdvances := by
  refine ⟨fun s h => ⟨fun hp => ?_, fun hp hs => ?_, fun hp hs hr => ?_, fun hp hs hr hm => ?_,
    fun hp hs hr hm => ⟨fun u e he hu => ⟨fun k => ?_, fun k read hread => ?_, fun k => ⟨fun hf => ?_, fun hf => ?_⟩⟩,
      fun he => ⟨_, step_rises h hp hs hr hm he, ?_⟩⟩⟩, fun s c => ?_,
    fun s h hp hs hr hm he => ⟨_, step_rises h hp hs hr hm he, ?_⟩⟩
  · rw [step_clock h, tick_dark hp]
    rfl
  · rw [step_clock h, tick_issues hp hs]
    rfl
  · rw [step_clock h, tick_restarts hp hs hr]
    rfl
  · rw [step_clock h, tick_transmits hp hs hr hm]
    rfl
  · subst k
    rw [step_happens h hp hs hr hm he hu, happen, endAssembly_eq, arrivalCommand_passTime]
    rfl
  · subst k
    rw [step_happens h hp hs hr hm he hu, happen, takeSample_reads hread]
    obtain ⟨absent, flies⟩ := outcomeCommand_sample (passTime u s).line read (passTime u s)
    cases hf : s.line.inFlight with
    | none =>
      rw [absent hf]
      rfl
    | some f =>
      obtain ⟨h1, h2, h3, h4⟩ := flies f hf
      dsimp only
      cases hb : readBack f.frame.bits (f.read ++ [read]) with
      | ongoing => rw [h1 hb]; rfl
      | lost => rw [h2 hb]; rfl
      | clash => rw [h3 hb]; rfl
      | completed => rw [h4 hb]; rfl
  · subst k
    rw [step_happens h hp hs hr hm he hu, happen, (beginPulses_spec (passTime u s)).1 hf]
    rfl
  · subst k
    rw [step_happens h hp hs hr hm he hu, happen, (beginPulses_spec (passTime u s)).2 hf]
    rfl
  · exact readSupply_eq (risen s)
  · rw [mem_dueCommands]
    cases c
    all_goals simp only [reduceCtorEq, and_false, false_or, or_false, exists_false, and_true, exists_eq_right,
      Instr.supplyBelowHallFloor.injEq, Instr.hallStep.injEq, Instr.hallSkip.injEq, Instr.gridSample.injEq,
      Instr.buttonSample.injEq, Instr.keySample.injEq, Instr.windowEnd.injEq, Instr.intentEntryAged.injEq,
      Instr.crossCheckDeadline.injEq, Instr.writeComplete.injEq]
    case sag => exact sagDue_iff s
    case overCurrent => exact overCurrentDue_iff s
    case supplyBelowHallFloor v =>
      rw [and_comm]
      exact and_congr_right fun hv => by rw [← hv, belowHallFloor_iff]
    case hallStep pair =>
      rw [and_comm]
      exact and_congr_right fun hv => by rw [← hv, oneChannel_iff]
    case hallSkip pair =>
      rw [and_comm]
      exact and_congr_right fun hv => by rw [← hv, bothChannels_iff]
    case gridSample v => rw [gridDue_iff, and_comm]
    case buttonSample o c => rw [buttonsDue_iff, and_comm, and_assoc]
    case keySample on => rw [keyDue_iff, and_comm]
    case windowEnd vane => rw [windowEnds_iff, and_comm]
    case crossCheckDeadline stroke => rw [crossCheckDue_iff, and_comm]
    case velocityWindowEnd => exact velocityEnds_iff s
    case peerScan => exact decide_eq_true_iff
    case listenEnd => exact Bool.and_eq_true_iff
    case isolationDeadline => exact isolationDue_iff s
    case periodicObserveDeadline => exact periodicDue_iff s
    case runningRefreshDeadline => exact Bool.and_eq_true_iff
    case commissioningWindowDeadline => exact Bool.and_eq_true_iff
    case intentEntryAged source => exact mem_agedSources
    case safeSeatDeadline => exact safeSeatDue_iff s
    case settleDeadline | intentRefreshDeadline | warningDeadline | rampStep | stopDeadline | seatTimeout |
        backoffDeadline | retryDeadline | sagHoldoffDeadline => exact decide_and_due
    all_goals exact Iff.rfl
  · exact readSupply_risen hp

end Sys2Proof.Machine
end

section
/-! What the effect of a command leaves as it was, and the laws of the tables that it keeps (R30, R31, R43, R100). -/

namespace Sys2Proof.Machine

/-- Node, configuration and profile as they were, and the laws of the transmit queue, the Peer Table and the Intent List
kept. -/
structure TablesKept (s t : State) : Prop where
  safe : t.safe = s.safe
  cfg : t.cfg = s.cfg
  queue : QueueLawful s → QueueLawful t
  peers : PeersLawful s → PeersLawful t
  entries : EntriesLawful s → EntriesLawful t

/-- What the effect of any command of a node with logic supply leaves as it was besides. -/
structure Runs (s t : State) : Prop extends TablesKept s t where
  power : t.power = s.power
  nt : t.nt = s.nt
  pinFeed : t.pinFeed = s.pinFeed
  lineFeed : t.lineFeed = s.lineFeed
  pending : t.pending = s.pending

theorem TablesKept.refl (s : State) : TablesKept s s := ⟨rfl, rfl, id, id, id⟩

theorem TablesKept.trans {s t u : State} (h : TablesKept s t) (k : TablesKept t u) : TablesKept s u :=
  ⟨k.safe.trans h.safe, k.cfg.trans h.cfg, k.queue ∘ h.queue, k.peers ∘ h.peers, k.entries ∘ h.entries⟩

theorem Runs.refl (s : State) : Runs s s := ⟨TablesKept.refl s, rfl, rfl, rfl, rfl, rfl⟩

theorem Runs.trans {s t u : State} (h : Runs s t) (k : Runs t u) : Runs s u :=
  ⟨h.toTablesKept.trans k.toTablesKept, k.power.trans h.power, k.nt.trans h.nt, k.pinFeed.trans h.pinFeed,
    k.lineFeed.trans h.lineFeed, k.pending.trans h.pending⟩

/-- A table that stays is lawful where profile and configuration stay. -/
theorem peersLawful_congr {s t : State} (hs : t.safe = s.safe) (hc : t.cfg = s.cfg) (hp : t.peers = s.peers)
    (h : PeersLawful s) : PeersLawful t := by
  have record : ∀ r, recordLawful s r → recordLawful t r := fun r hr => by
    simpa only [recordLawful, lineId, keepOf, hs, hc] using hr
  obtain ⟨short, sorted, lawful⟩ := h
  rw [PeersLawful, hp]
  exact ⟨short, sorted, fun r hr => record r (lawful r hr)⟩

theorem Turns.runs {s t : State} (h : Turns s t) : Runs s t :=
  { safe := h.safe, cfg := h.cfg, queue := h.queue, peers := peersLawful_congr h.safe h.cfg h.peers
    entries := h.entries, power := h.power, nt := h.nt, pinFeed := h.pinFeed, lineFeed := h.lineFeed
    pending := h.pending }

theorem Moves.runs {s t : State} (h : Moves s t) : Runs s t := h.toTurns.runs

/-! ### Updates of one block -/

theorem Runs.setListen (s : State) (v : Bool) : Runs s (s.setListen v) := { Runs.refl s with }
theorem Runs.setStored (s : State) (v : List StoredField) : Runs s (s.setStored v) := { Runs.refl s with }
theorem Runs.setStore (s : State) (v : Commissioning) : Runs s (s.setStore v) := { Runs.refl s with }
theorem Runs.setRetained (s : State) (v : Retained) : Runs s (s.setRetained v) := { Runs.refl s with }
theorem Runs.setSensor (s : State) (v : Sensor) : Runs s (s.setSensor v) := { Runs.refl s with }
theorem Runs.setWeather (s : State) (v : Weather) : Runs s (s.setWeather v) := { Runs.refl s with }
theorem Runs.setLevels (s : State) (v : Levels) : Runs s (s.setLevels v) := { Runs.refl s with }
theorem Runs.setDrive (s : State) (v : Drive) : Runs s (s.setDrive v) := { Runs.refl s with }
theorem Runs.setPos (s : State) (v : Tracker) : Runs s (s.setPos v) := { Runs.refl s with }
theorem Runs.setPins (s : State) (v : Pins) : Runs s (s.setPins v) := { Runs.refl s with }
theorem Runs.setOccasion (s : State) (v : Bool) : Runs s (s.setOccasion v) := { Runs.refl s with }

theorem Runs.setLine (s : State) (l : Line) (h : QueueLawful s → QueueLawful (s.setLine l)) :
    Runs s (s.setLine l) := { Runs.refl s with queue := h }

theorem Runs.setPeers (s : State) (l : List PeerRecord) (h : PeersLawful s → PeersLawful (s.setPeers l)) :
    Runs s (s.setPeers l) := { Runs.refl s with peers := h }

/-- Supply changes outside the law of R100. -/
theorem Runs.setSupplyRest (s : State) (v : Supply) (he : v.entries = s.supply.entries) (ho : v.own = s.supply.own)
    (ha : v.admission = s.supply.admission) (hr : v.running = s.supply.running) : Runs s (s.setSupply v) :=
  (Moves.setSupplyRest s v he ho ha hr).runs

/-- A passage of the drive, whatever it takes. -/
theorem moveDrive_runs (d : Drive) (s : State) : Runs s (moveDrive d s) := by
  unfold moveDrive
  dsimp only
  have h : Runs s (if d.state = .idle then s.setDrive d
      else (s.setDrive d).setPos { (s.setDrive d).pos with crossCheckDl := none }) := by
    split
    · exact Runs.setDrive s d
    · exact (Runs.setDrive s d).trans (Runs.setPos _ _)
  split
  · exact h
  · exact h.trans (Runs.setSupplyRest _ _ rfl rfl rfl rfl)

/-- The end of a command. -/
theorem commit_runs (s t : State) : Runs t (commit s t) := by
  unfold commit
  dsimp only
  refine Runs.trans ?_ (Runs.setRetained _ _)
  refine Runs.trans ?_ (Runs.setOccasion _ _)
  split
  · exact (placeState_moves t).runs
  · exact Runs.refl t

end Sys2Proof.Machine
end

section
/-! The line's own operations keep the law of the transmit queue (R30, R31): none adds a telegram. -/

namespace Sys2Proof.Machine

/-- A line whose queue holds no kind that was not queued before keeps the law of the queue. -/
theorem Runs.setLine_fewer (s : State) (l : Line)
    (hq : (l.queue.map Queued.kind).Sublist (s.line.queue.map Queued.kind))
    (hl : l.listenOnly = s.line.listenOnly ∨ l.queue = []) : Runs s (s.setLine l) := by
  refine Runs.setLine s l fun h => ?_
  rw [queueLawful_iff] at *
  refine ⟨kindsLawful_sublist hq h.1, fun ho => ?_⟩
  rcases hl with hl | hl
  · have hq' := hq
    rw [h.2 (hl ▸ ho)] at hq'
    exact List.map_eq_nil_iff.1 (List.sublist_nil.1 hq')
  · exact hl

/-- A line with the same queue. -/
theorem Runs.setLine_same (s : State) (l : Line) (hq : l.queue = s.line.queue)
    (hl : l.listenOnly = s.line.listenOnly) : Runs s (s.setLine l) :=
  Runs.setLine_fewer s l (hq ▸ List.Sublist.refl _) (.inl hl)

theorem hearOther_runs (s : State) : Runs s (hearOther s) := Runs.setLine_same _ _ rfl rfl

theorem startTransmission_runs (s : State) : Runs s (startTransmission s) := by
  unfold startTransmission
  split
  · exact Runs.refl s
  · split
    · exact Runs.setLine_same _ _ rfl rfl
    · exact Runs.refl s

theorem keptQueue_kinds (f : InFlight) (q : List Queued) : (keptQueue f q).map Queued.kind = q.map Queued.kind := by
  rw [keptQueue, List.map_map]
  exact List.map_congr_left fun e _ => by dsimp only [Function.comp]; split <;> rfl

theorem sentQueue_kinds (f : InFlight) (q : List Queued) :
    ((sentQueue f q).map Queued.kind).Sublist (q.map Queued.kind) := by
  rw [sentQueue, keptQueue_kinds]
  exact List.filter_sublist.map _

theorem Line.released_kinds (l : Line) (f : InFlight) :
    (l.released f).queue.map Queued.kind = l.queue.map Queued.kind := keptQueue_kinds f l.queue

/-- A clash leaves the queue, or empties it in a node that becomes listen-only (R30). -/
theorem Line.clash_queue (l : Line) (nt : Time) :
    ((l.clash nt).queue = l.queue ∧ (l.clash nt).listenOnly = l.listenOnly) ∨ (l.clash nt).queue = [] := by
  unfold Line.clash
  dsimp only
  split
  · exact .inr rfl
  · exact .inl ⟨rfl, rfl⟩

theorem endTransmission_runs (outcome : ReadBack) (read : List Bool) (s : State) :
    Runs s (endTransmission outcome read s) := by
  unfold endTransmission
  split
  · exact Runs.refl s
  · rename_i f _
    split
    · exact Runs.refl s
    · cases outcome with
      | ongoing => exact Runs.refl s
      | lost => exact Runs.setLine_fewer _ _ (by rw [Line.released_kinds]) (.inl rfl)
      | clash =>
        rcases Line.clash_queue (s.line.released f) s.nt with ⟨hq, hl⟩ | hq
        · exact Runs.setLine_fewer _ _ (by rw [hq, Line.released_kinds]) (.inl hl)
        · exact Runs.setLine_fewer _ _ (by simp [hq]) (.inr hq)
      | completed => exact Runs.setLine_fewer _ _ (sentQueue_kinds f _) (.inl rfl)

theorem closeWindow_runs (s : State) : Runs s (closeWindow s) := by
  unfold closeWindow
  dsimp only
  split
  · exact (Runs.setStore _ _).trans (Runs.setLine_fewer _ _ (List.filter_sublist.map _) (.inl rfl))
  · exact Runs.setStore _ _

theorem endWindow_runs (s : State) : Runs s (endWindow s) := by
  unfold endWindow
  split
  · exact Runs.refl s
  · split
    · exact Runs.setStore _ _
    · exact closeWindow_runs s

/-! ### Arrivals and replies -/

/-- An arrival from another source: what the command makes of it runs on a node that has heard it. -/
theorem arrival_runs {mine : Frame → Bool} {take : Frame → State → State}
    (h : ∀ f t, f.source.toNat ≠ lineId t → Runs t (take f t)) (bits : List Bool) (s : State) :
    Runs s (arrival mine bits take s) := by
  unfold arrival
  split
  · exact Runs.refl s
  · split
    · rename_i hf
      rw [Bool.and_eq_true, bne_iff_ne] at hf
      exact (hearOther_runs s).trans (h _ _ hf.2)
    · exact Runs.refl s

theorem requestArrival_runs {take : Frame → State → State} (h : ∀ f t, Runs t (take f t)) (action : Nat)
    (bits : List Bool) (s : State) : Runs s (requestArrival action bits take s) :=
  arrival_runs (fun f t _ => by
    split
    · exact h f t
    · exact Runs.refl t) bits s

theorem configureArrival_runs {take : Frame → State → State} (h : ∀ f t, Runs t (take f t)) (operation : Nat)
    (bits : List Bool) (s : State) : Runs s (configureArrival operation bits take s) :=
  arrival_runs (fun f t _ => by
    split
    · exact h f t
    · exact Runs.refl t) bits s

theorem reply_runs (index value : Nat) (status : Status) (s : State) : Runs s (reply index value status s) :=
  (place_moves _ _ _ s).runs

theorem takeConfigure_runs {closed perform : Nat → State → State} (hc : ∀ i t, Runs t (closed i t))
    (hp : ∀ i t, Runs t (perform i t)) (index : Nat) (s : State) : Runs s (takeConfigure closed perform index s) := by
  have hr : Runs s (renewWindow s) := Runs.setStore _ _
  unfold takeConfigure
  split
  · exact hc _ _
  · split
    · exact hr.trans (reply_runs _ _ _ _)
    · exact hr.trans (hp _ _)

theorem openWindow_runs (index : Nat) (s : State) : Runs s (openWindow index s) := by
  unfold openWindow
  split
  · exact (Runs.setStore _ _).trans (reply_runs _ _ _ _)
  · exact reply_runs _ _ _ _

theorem beginWrite_runs (value index : Nat) (s : State) : Runs s (beginWrite value index s) := by
  unfold beginWrite
  split
  · exact reply_runs _ _ _ _
  · split
    · exact Runs.setStore _ _
    · exact reply_runs _ _ _ _

theorem readField_runs (index : Nat) (s : State) : Runs s (readField index s) := by
  unfold readField
  split <;> exact reply_runs _ _ _ _

theorem completeWrite_runs (read : StoredField) (s : State) : Runs s (completeWrite read s) := by
  unfold completeWrite
  split
  · exact Runs.refl s
  · dsimp only
    split
    · exact (((Runs.setStored _ _).trans (Runs.setStore _ _)).trans (reply_runs _ _ _ _)).trans (closeWindow_runs _)
    · exact ((Runs.setStored _ _).trans (Runs.setStore _ _)).trans (reply_runs _ _ _ _)

end Sys2Proof.Machine
end

section
/-! The Peer Table (R43 to R49, R52, R53): what each of its operations does to the law of R43. -/

namespace Sys2Proof.Machine

/-- The order of the Peer Table (R43). -/
def PeersSorted (l : List PeerRecord) : Prop := l.Pairwise fun a b => a.source < b.source

theorem findPeer_none {src : Nat} {l : List PeerRecord} (h : findPeer src l = none) : ∀ r ∈ l, r.source ≠ src := by
  simpa [findPeer] using h

theorem mem_insertPeer {x r : PeerRecord} {l : List PeerRecord} : r ∈ insertPeer x l ↔ r = x ∨ r ∈ l := by
  induction l with
  | nil => simp [insertPeer]
  | cons y ys ih =>
    simp only [insertPeer]
    split
    · simp
    · simp [ih]; tauto

theorem length_insertPeer (x : PeerRecord) (l : List PeerRecord) : (insertPeer x l).length = l.length + 1 := by
  induction l with
  | nil => rfl
  | cons y ys ih => simp only [insertPeer]; split <;> simp [ih]

theorem PeersSorted.insert {x : PeerRecord} {l : List PeerRecord} (h : PeersSorted l)
    (hx : ∀ r ∈ l, r.source ≠ x.source) : PeersSorted (insertPeer x l) := by
  unfold PeersSorted at *
  induction l with
  | nil => simp [insertPeer]
  | cons y ys ih =>
    obtain ⟨hy, hys⟩ := List.pairwise_cons.1 h
    have hxy : y.source ≠ x.source := hx y List.mem_cons_self
    simp only [insertPeer]
    split
    · rename_i hlt
      refine List.pairwise_cons.2 ⟨fun r hr => ?_, h⟩
      rcases List.mem_cons.1 hr with rfl | hr
      · exact hlt
      · exact hlt.trans (hy r hr)
    · rename_i hlt
      refine List.pairwise_cons.2 ⟨fun r hr => ?_, ih hys fun r hr => hx r (List.mem_cons_of_mem _ hr)⟩
      rcases mem_insertPeer.1 hr with rfl | hr
      · omega
      · exact hy r hr

/-- Records changed in place keep the order when the change keeps the source. -/
theorem PeersSorted.map {g : PeerRecord → PeerRecord} (hg : ∀ r, (g r).source = r.source) {l : List PeerRecord}
    (h : PeersSorted l) : PeersSorted (l.map g) :=
  List.pairwise_map.2 (h.imp fun {a b} hab => by simpa only [hg] using hab)

/-- The record with the oldest heard-at is one of the table (R48). -/
theorem oldestOrdinary_mem {nt : Time} {l : List PeerRecord} {r : PeerRecord} (h : oldestOrdinary nt l = some r) :
    r ∈ l := by
  have among : ∀ (l : List PeerRecord) (acc : Option PeerRecord), l.foldl (olderOrdinary nt) acc = some r →
      acc = some r ∨ r ∈ l := by
    intro l
    induction l with
    | nil => exact fun acc h => .inl h
    | cons y ys ih =>
      intro acc h
      rcases ih _ h with h | h
      · have older : olderOrdinary nt acc y = acc ∨ olderOrdinary nt acc y = some y := by
          unfold olderOrdinary
          repeat' split
          all_goals simp
        rcases older with ho | ho
        · exact .inl (ho.symm.trans h)
        · exact .inr (List.mem_cons.2 (.inl (Option.some.inj (ho.symm.trans h)).symm))
      · exact .inr (List.mem_cons_of_mem _ h)
  simpa using among l none h

/-- The table with a lawful newcomer of a source without a record (R47, R48). -/
theorem placePeer_lawful {s : State} (h : PeersLawful s) {x : PeerRecord} (hx : recordLawful s x)
    (hn : ∀ r ∈ s.peers, r.source ≠ x.source) (nt : Time) :
    PeersLawful (s.setPeers (placePeer nt x s.peers).1) := by
  obtain ⟨short, sorted, lawful⟩ := h
  have joined : ∀ l : List PeerRecord, l.Sublist s.peers → l.length < 24 →
      PeersLawful (s.setPeers (insertPeer x l)) := fun l hl hlen =>
    ⟨by rw [State.setPeers_peers, length_insertPeer]; omega,
      PeersSorted.insert (List.Pairwise.sublist hl sorted) fun r hr => hn r (hl.subset hr), fun r hr => by
        rcases mem_insertPeer.1 hr with rfl | hr
        · exact hx
        · exact lawful r (hl.subset hr)⟩
  unfold placePeer
  split
  · exact joined _ (List.Sublist.refl _) ‹_›
  · split
    · split
      · exact ⟨short, sorted, lawful⟩
      · rename_i old hold
        refine joined _ List.filter_sublist (lt_of_lt_of_le ?_ short)
        exact List.length_filter_lt_length_iff_exists.2 ⟨old, oldestOrdinary_mem hold, by simp⟩
    · exact ⟨short, sorted, lawful⟩

/-- Records changed in place stay lawful when the change of each is. -/
theorem mapPeers_lawful {s : State} (h : PeersLawful s) {g : PeerRecord → PeerRecord}
    (hs : ∀ r, (g r).source = r.source) (hg : ∀ r, recordLawful s r → recordLawful s (g r)) :
    PeersLawful (s.setPeers (s.peers.map g)) := by
  obtain ⟨short, sorted, lawful⟩ := h
  refine ⟨by simpa using short, PeersSorted.map hs sorted, fun r hr => ?_⟩
  obtain ⟨old, hold, rfl⟩ := List.mem_map.1 hr
  exact hg old (lawful old hold)

theorem hearPeer_runs (src : Nat) (s : State) : Runs s (hearPeer src s) :=
  Runs.setPeers _ _ fun h => mapPeers_lawful h (fun r => by split <;> rfl) fun r hr => by split <;> exact hr

/-- The parts of a record brought up to date (R45, R46). -/
theorem notePeer_runs (src : Nat) (hs : src ≤ 63) (obs : Option Observation) (st : Option PeerState)
    (hp : obs.isSome = true ∨ st.isSome = true) (s : State) (hl : src ≠ lineId s) :
    Runs s (notePeer src obs st s) := by
  unfold notePeer
  split
  · exact Runs.refl s
  · rename_i hr
    obtain ⟨h0, h63⟩ : src ≠ 0 ∧ src ≠ 63 := by simpa [recordable] using hr
    have part : ∀ (o : Option Observation) (p : Option PeerState),
        (obs.or o).isSome = true ∨ (st.or p).isSome = true := by
      intro o p
      rcases hp with hp | hp <;> simp [hp]
    split
    · refine Runs.setPeers _ _ fun h => mapPeers_lawful h (fun r => by split <;> rfl) fun r hr => ?_
      split
      · obtain ⟨k0, k62, kl, -, -⟩ := hr
        exact ⟨k0, k62, kl, part r.obs r.st, rfl⟩
      · exact hr
    · rename_i hn
      dsimp only
      have joined : Runs s (s.setPeers (placePeer s.nt ⟨src, keepOf s obs st, s.nt, obs, st⟩ s.peers).1) :=
        Runs.setPeers _ _ fun h => placePeer_lawful h ⟨h0, by dsimp only; omega, hl, hp, rfl⟩ (findPeer_none hn) s.nt
      split
      · exact joined
      · exact joined.trans (takeNotice_moves _ _).runs

/-- Ageing keeps the keep class: neither the wind part nor the group of a record ages (R44, R52). -/
theorem scanned_lawful {s : State} {r : PeerRecord} (nt : Time) (h : recordLawful s r) :
    recordLawful s (scanned nt r) := by
  obtain ⟨k0, k62, kl, kp, kk⟩ := h
  have stale : ∀ o, (staleObs nt o).windCapable = o.windCapable := fun o => by unfold staleObs; split <;> rfl
  have clear : ∀ p, (clearMark nt p).group = p.group := fun p => by unfold clearMark; split <;> rfl
  refine ⟨k0, k62, kl, by simpa [scanned] using kp, kk.trans ?_⟩
  unfold keepOf scanned
  cases r.obs <;> cases r.st <;> simp [stale, clear]

theorem takeScan_runs (s : State) : Runs s (takeScan s) := by
  have table : Runs s (s.setPeers (scanTable s.nt s.peers)) := Runs.setPeers _ _ fun h => by
    obtain ⟨short, sorted, lawful⟩ := h
    have sub : (s.peers.filter fun r => !tooOld s.nt r).Sublist s.peers := List.filter_sublist
    refine mapPeers_lawful (s := s.setPeers (s.peers.filter fun r => !tooOld s.nt r))
      ⟨sub.length_le.trans short, List.Pairwise.sublist sub sorted, fun r hr => lawful r (sub.subset hr)⟩
      (fun _ => rfl) fun r hr => scanned_lawful s.nt hr
  have notices : ∀ (l : List Notice) (t : State), Runs t (l.foldl takeNotice t) := by
    intro l
    induction l with
    | nil => exact fun t => Runs.refl t
    | cons n ns ih => exact fun t => (takeNotice_moves t n).runs.trans (ih _)
  exact table.trans (notices _ _)

end Sys2Proof.Machine
end

section
/-! Chapters 1 and 4 to 8: the effects of their commands keep the tables. -/

namespace Sys2Proof.Machine

/-! ### Supply sharing -/

theorem orderYield_runs (s : State) (h : s.supply.admission = .admitted) : Runs s (orderYield s) := by
  have hr : Runs s (releaseSupply s) := (releaseSupply_moves s (.inl h)).runs
  have stop : Runs s (enterStopping .yield (releaseSupply s)) := hr.trans (enterStopping_moves _ _).runs
  have drive : ∀ d, Runs s ((releaseSupply s).setDrive d) := fun d => hr.trans (Runs.setDrive _ d)
  unfold orderYield
  dsimp only
  split
  · exact hr
  · split
    case h_7 =>
      split
      case h_4 => exact hr
      all_goals exact drive _
    case h_6 => exact drive _
    case h_8 => exact hr
    all_goals exact stop

theorem listAfterIntent_runs (src : Nat) (p : List Byte) (s : State) (hs : src ≠ lineId s) :
    Runs s (s.setSupply { s.supply with entries := listAfterIntent src p s }) := by
  unfold listAfterIntent
  split
  · exact Runs.refl s
  · split
    · refine (Moves.setSupply _ _ fun h => ?_).runs
      rw [entriesLawful_iff] at *
      obtain ⟨list, listed, rest⟩ := h
      exact ⟨list.storeEntry hs rfl,
        (exists_congr fun e => and_congr_left fun he => storeEntry_own rfl he).trans listed, rest⟩
    · exact (setEntries_withoutSource_moves src s).runs

theorem takeIntent_runs (src : Nat) (p : List Byte) (s : State) (hs : src ≠ lineId s) :
    Runs s (takeIntent src p s) := by
  have list := listAfterIntent_runs src p s hs
  unfold takeIntent
  dsimp only
  split
  case h_1 h => exact list.trans (evaluate_moves _ (.inr h)).runs
  case h_2 h =>
    split
    · exact list.trans (orderYield_runs _ h)
    · exact list
  all_goals exact list

theorem dropAndEvaluate_runs (src : Nat) (s : State) : Runs s (dropAndEvaluate src s) :=
  ((setEntries_withoutSource_moves src s).trans (occasionToEvaluate_moves _)).runs

/-- The own entry heard now stands where it stood (R105): rank, source and ownership stay. -/
theorem renewOwn_runs (nt : Time) (dl : Option Time) (s : State) :
    Runs s (s.setSupply { s.supply with entries := renewOwn nt s.supply.entries, refreshDl := dl }) := by
  refine (Moves.setSupply _ _ fun h => ?_).runs
  have same : ∀ e : Entry, ∃ at', (if e.own then { e with heardAt := nt } else e) = { e with heardAt := at' } :=
    fun e => by split <;> exact ⟨_, rfl⟩
  have owns : ∀ e : Entry, (if e.own then { e with heardAt := nt } else e).own = e.own := fun e => by split <;> rfl
  rw [entriesLawful_iff] at *
  obtain ⟨⟨short, sorted, own⟩, listed, rest⟩ := h
  refine ⟨⟨by simpa [renewOwn] using short, ?_, fun e he => ?_⟩, ?_, rest⟩
  · refine List.pairwise_map.2 (sorted.imp fun {a b} hab => ?_)
    obtain ⟨x, hx⟩ := same a
    obtain ⟨y, hy⟩ := same b
    rw [hx, hy]
    exact hab
  · obtain ⟨o, ho, rfl⟩ := List.mem_map.1 he
    obtain ⟨x, hx⟩ := same o
    rw [hx]
    exact own o ho
  · refine Iff.trans ?_ listed
    constructor
    · rintro ⟨e, he, hown⟩
      obtain ⟨o, ho, rfl⟩ := List.mem_map.1 he
      exact ⟨o, ho, (owns o).symm.trans hown⟩
    · rintro ⟨e, he, hown⟩
      exact ⟨_, List.mem_map_of_mem he, (owns e).trans hown⟩

theorem refreshIntent_runs (s : State) : Runs s (refreshIntent s) := by
  unfold refreshIntent
  dsimp only
  split
  · exact renewOwn_runs _ _ s
  · exact (placeIntent_moves _ _ s).runs.trans (renewOwn_runs _ _ _)

theorem takeSag_runs (s : State) : Runs s (takeSag s) := by
  have counted := Runs.setSupplyRest s
    { s.supply with sagCount := min 6 (s.supply.sagCount + 1), sagTimer := none } rfl rfl rfl rfl
  unfold takeSag
  exact (counted.trans (Runs.setDrive _ _)).trans (enterStopping_moves .sag _).runs

/-! ### Levels and weather -/

theorem appointFrom_runs (before : Option Level) (s : State) : Runs s (appointFrom before s) :=
  (appointFrom_spec before s).1.runs

theorem clearDemand_runs (s : State) : Runs s (clearDemand s) := (Runs.setLevels _ _).trans (appointFrom_runs _ _)

theorem takeDemand_runs (t : Target) (s : State) : Runs s (takeDemand t s) :=
  ((Runs.setLevels _ _).trans (demandHanded_turns t s).runs).trans (Runs.setLevels _ _)

theorem takePress_runs (closes : Bool) (s : State) : Runs s (takePress closes s) := by
  cases hs : s.safe with
  | true => rw [takePress_safe hs]; exact Runs.refl s
  | false =>
    have noted : Runs s (pressNoted closes s) :=
      (takeDemand_runs _ s).trans (pressNoted_moves closes s).runs
    rw [takePress_unsafe hs]
    split
    · exact noted.trans (Runs.setDrive _ _)
    · exact noted

theorem placeImmediate_runs (cls : Class) (s : State) : Runs s (placeImmediate cls s) :=
  (place_moves _ _ _ s).runs.trans (Runs.setWeather _ _)

theorem triggerObserve_runs (cls : Class) (s : State) : Runs s (triggerObserve cls s) := by
  unfold triggerObserve
  split
  · exact Runs.refl s
  · split
    · exact placeImmediate_runs _ _
    · split
      · exact placeImmediate_runs _ _
      · exact Runs.setWeather _ _

theorem takeResult_runs (a b c d : Bool) (s : State) : Runs s (takeResult a b c d s) :=
  (takeResult_turns a b c d s).runs

theorem gustTrigger_runs (s : State) : Runs s (gustTrigger s) := by
  unfold gustTrigger
  dsimp only
  split
  · exact (triggerObserve_runs _ s).trans (Runs.setWeather _ _)
  · exact Runs.setWeather _ _

theorem assessmentTick_runs (s : State) : Runs s (assessmentTick s) :=
  ((Runs.setWeather s _).trans (takeResult_runs _ _ _ _ _)).trans (gustTrigger_runs _)

/-- The effect of the periodic deadline (R36). -/
theorem periodicObserve_runs (s : State) (w : Weather) (urgent first : Bool) :
    Runs s ((if first then noteOccasion (if urgent then s else placeObserve .routine s)
      else if urgent then s else placeObserve .routine s).setWeather w) := by
  have placed : Runs s (if urgent then s else placeObserve .routine s) := by
    split
    · exact Runs.refl s
    · exact (place_moves _ _ _ s).runs
  split
  · exact (placed.trans (Runs.setOccasion _ _)).trans (Runs.setWeather _ _)
  · exact placed.trans (Runs.setWeather _ _)

/-! ### Sensing -/

theorem takeEdge_runs (s : State) : Runs s (takeEdge s) := by
  unfold takeEdge
  split
  · exact Runs.refl s
  · dsimp only
    split
    · exact (Runs.setSensor _ _).trans (Runs.setWeather _ _)
    · exact Runs.setSensor _ _

theorem takeWindowEnd_runs (vane : BitVec 4) (s : State) : Runs s (takeWindowEnd vane s) := by
  have read := (Runs.setPins s { s.pins with vane := vane }).trans (Runs.setSensor _ (windowFront vane s))
  cases hs : s.safe with
  | true => rw [takeWindowEnd_safe vane hs]; exact read
  | false =>
    rw [takeWindowEnd_assesses vane hs]
    exact (read.trans (Runs.setWeather _ _)).trans (assessmentTick_runs _)

theorem takeGridSample_runs (v : BitVec 12) (s : State) : Runs s (takeGridSample v s) := by
  unfold takeGridSample
  dsimp only
  split
  · exact (Runs.setPins _ _).trans (Runs.setSensor _ _)
  · exact ((Runs.setPins _ _).trans (Runs.setSensor _ _)).trans (triggerObserve_runs _ _)

theorem takeOpenLatch_runs (s : State) : Runs s (takeOpenLatch s) := by
  unfold takeOpenLatch
  split
  · exact (Runs.setSensor _ _).trans (takePress_runs _ _)
  · exact Runs.refl s

theorem takeCloseLatch_runs (s : State) : Runs s (takeCloseLatch s) := by
  unfold takeCloseLatch
  split
  · exact (Runs.setSensor _ _).trans (takePress_runs _ _)
  · exact Runs.refl s

theorem takeButtonSample_runs (o c : Bool) (s : State) : Runs s (takeButtonSample o c s) :=
  (((Runs.setPins s _).trans (Runs.setSensor _ _)).trans (takeOpenLatch_runs _)).trans (takeCloseLatch_runs _)

theorem takeKeyOn_runs (s : State) : Runs s (takeKeyOn s) := by
  have held := (Runs.setLevels s { s.levels with serviceHold := true }).trans (appointFrom_runs (acting s) _)
  unfold takeKeyOn
  dsimp only
  split
  · exact held.trans (interruptSafeSeat_moves _).runs
  · exact held

theorem beginSafeSeat_runs (s : State) : Runs s (beginSafeSeat s) := by
  unfold beginSafeSeat
  split
  · exact moveDrive_runs _ _
  · exact Runs.refl s

theorem takeKeyOff_runs (s : State) : Runs s (takeKeyOff s) :=
  (((Runs.setLevels s _).trans (appointFrom_runs _ _)).trans (endWindow_runs _)).trans (beginSafeSeat_runs _)

theorem takeKeySample_runs (on : Bool) (s : State) : Runs s (takeKeySample on s) := by
  unfold takeKeySample
  dsimp only
  split
  · exact ((Runs.setPins _ _).trans (Runs.setSensor _ _)).trans (takeKeyOn_runs _)
  · split
    · exact ((Runs.setPins _ _).trans (Runs.setSensor _ _)).trans (takeKeyOff_runs _)
    · exact (Runs.setPins _ _).trans (Runs.setSensor _ _)

/-! ### Drive and position -/

theorem referenceAtSeat_runs (s : State) : Runs s (referenceAtSeat s) := by
  unfold referenceAtSeat
  dsimp only
  split
  · exact (Runs.setPos _ _).trans (Runs.setPos _ _)
  · exact Runs.setPos _ _

theorem endSuspect_runs (s : State) : Runs s (endSuspect s) := by
  unfold endSuspect
  split
  · exact Runs.refl s
  · exact (Runs.setLevels _ _).trans (handGoal_moves _).runs
  · exact (handGoal_moves _).runs

theorem recogniseSeat_runs (s : State) : Runs s (recogniseSeat s) := by
  have noted : ∀ (p : Prop) [Decidable p] (t : State), Runs t (if p then noteOccasion t else t) := fun p _ t => by
    split
    · exact Runs.setOccasion _ _
    · exact Runs.refl t
  have stopped : ∀ (t : State) (d : Drive), Runs t (enterStopping .goal (moveEnded (t.setDrive d))) := fun t d =>
    ((Runs.setDrive t d).trans (moveEnded_moves _).runs).trans (enterStopping_moves _ _).runs
  have handed : ∀ (t : State) (a b : Bool), Runs t (if a then endSuspect t else if b then handGoal t else t) :=
    fun t a b => by
      split
      · exact endSuspect_runs t
      · split
        · exact (handGoal_moves t).runs
        · exact Runs.refl t
  unfold recogniseSeat
  exact (((referenceAtSeat_runs s).trans (noted _ _)).trans (stopped _ _)).trans (handed _ _ _)

theorem detection_runs (s : State) : Runs s (detection s) := by
  have moving : Runs s (detection.movingDetection s) := by
    unfold detection.movingDetection
    split
    · exact recogniseSeat_runs s
    · exact (recogniseObstruction_moves s).runs
  unfold detection
  split
  case h_1 => exact recogniseSeat_runs s
  case h_2 => exact (enterStopping_moves _ s).runs
  case h_6 => exact Runs.refl s
  all_goals exact moving

theorem takeStep_runs (pair : HallPair) (s : State) : Runs s (takeStep pair s) := by
  unfold takeStep
  dsimp only
  have read := (Runs.setPins s { s.pins with hall := pair }).trans (Runs.setPos _ { s.pos with hall := pair })
  split
  · exact read.trans (addReason_moves _ _).runs
  · split
    · exact ((read.trans (Runs.setPos _ _)).trans (countChanged_moves _ _).runs).trans (addReason_moves _ _).runs
    · exact (read.trans (Runs.setPos _ _)).trans (countChanged_moves _ _).runs

theorem takeSkip_runs (pair : HallPair) (s : State) : Runs s (takeSkip pair s) :=
  ((Runs.setPins _ _).trans (Runs.setPos _ _)).trans (addReason_moves _ _).runs

theorem takeVelocity_runs (s : State) : Runs s (takeVelocity s) := by
  unfold takeVelocity
  dsimp only
  split
  · exact ((Runs.setPos _ _).trans (Runs.setDrive _ _)).trans (detection_runs _)
  · exact (Runs.setPos _ _).trans (Runs.setDrive _ _)

theorem takeRampStep_runs (s : State) : Runs s (takeRampStep s) :=
  (Runs.setDrive _ _).trans (rampToTravel_moves _).runs

theorem afterBraking_runs {go : State → State} (h : ∀ t, Runs t (go t)) (s : State) : Runs s (afterBraking go s) := by
  unfold afterBraking
  split
  · exact (enterIdle_moves s).runs
  · split
    · exact h s
    · exact (enterIdle_moves s).runs

theorem verdict_runs (s : State) : Runs s (verdict s) := by
  unfold verdict
  split
  · exact (enterIdle_moves s).runs
  · split
    · exact (enterBlocked_moves s).runs
    · split
      · exact (waitOrIdle_moves s).runs
      · exact (enterRetryWait_moves s).runs

theorem afterSag_runs (s : State) : Runs s (afterSag s) := by
  unfold afterSag
  split
  · exact (enterIdle_moves s).runs
  · split
    · exact (enterBlocked_moves s).runs
    · exact (enterSagWait_moves s).runs

theorem endBraking_runs (s : State) : Runs s (endBraking s) := by
  unfold endBraking
  split
  case h_1 => exact afterBraking_runs (fun t => (enterRamp_moves t).runs) s
  case h_2 =>
    split
    · exact (enterIdle_moves s).runs
    · exact (enterBackoff_moves s).runs
  case h_3 => exact verdict_runs s
  case h_4 => exact afterSag_runs s
  case h_5 => exact afterBraking_runs (fun t => (enterWaitSlot_moves t).runs) s
  all_goals exact (enterIdle_moves s).runs

theorem controlledStop_runs (s : State) : Runs s (controlledStop s) := by
  have stop : ∀ d c, Runs s (enterStopping c (s.setDrive d)) := fun d c =>
    (Runs.setDrive s d).trans (enterStopping_moves _ _).runs
  have rest : ∀ d, Runs s (enterIdle (s.setDrive d)) := fun d => (Runs.setDrive s d).trans (enterIdle_moves _).runs
  unfold controlledStop
  dsimp only
  split
  all_goals first
    | exact stop _ _
    | exact rest _
    | exact Runs.setDrive s _

theorem takeRestart_runs (s : State) : Runs s (takeRestart s) := by
  unfold takeRestart
  split
  · exact Runs.refl s
  · exact controlledStop_runs s

end Sys2Proof.Machine
end

section
/-! How a command can end, said once; and from it: no command stops the node, the tables stay lawful, a change of a
reported field is queued. -/

namespace Sys2Proof.Machine

/-- How a command ends: it is no event; its effect runs and the command ends; or it is one of the few that go round the
end of a command: a start, a loss of the logic supply, the fall of the backup rail, a move of the Hall pins without
supply. -/
inductive Ends (c : Instr) (s : State) : State → Prop where
  | none : Ends c s s
  | carried {u : State} (power : s.power = true) (runs : Runs s u) : Ends c s (commit s u)
  | started {kind : StartKind} {u : State} (start : c = .powerUp ∨ c = .restartStart)
      (pending : u.pending = s.pending) (pinFeed : u.pinFeed = s.pinFeed) (lineFeed : u.lineFeed = s.lineFeed) :
      Ends c s (startSequence kind u)
  | lost (torn : Bool) : Ends c s (losePower torn s)
  | latched : Ends c s (s.setRetained { s.retained with lossLatch := true })
  | coasted (pair : HallPair) : Ends c s (coast pair s)

theorem Ends.live {c : Instr} {f : State → State} (h : ∀ s, Runs s (f s)) (s : State) : Ends c s (live f s) := by
  unfold Machine.live
  split
  · exact .carried ‹_› (h s)
  · exact .none

theorem Ends.liveWhen {c : Instr} {test : State → Bool} {f : State → State} {s : State}
    (h : test s = true → Runs s (f s)) : Ends c s (liveWhen test f s) := by
  unfold Machine.liveWhen
  split
  · rename_i hp
    rw [Bool.and_eq_true] at hp
    exact .carried hp.1 (h hp.2)
  · exact .none

/-- What a loss of the logic supply leaves of the stored fields and the record: the rest is as it was. -/
theorem cutWrite_eq (s : State) : cutWrite s = { s with stored := (cutWrite s).stored, freeIx := (cutWrite s).freeIx } := by
  unfold cutWrite
  split
  · rfl
  · split <;> rfl

/-- A loss of the logic supply releases the line and cuts what is in progress; every block keeps its other fields. -/
theorem losePower_eq (torn : Bool) (s : State) : losePower torn s = { s with
    power := false
    stored := (losePower torn s).stored
    store := { s.store with writing := none }
    retained := (losePower torn s).retained
    line := { s.line with inFlight := none, driven := 0 }
    freeIx := (losePower torn s).freeIx } := by
  unfold losePower
  dsimp only
  rw [cutWrite_eq]
  split <;> rfl

/-- Arrivals whose effect depends on the source. -/
theorem Ends.arrival {c : Instr} {mine : Frame → Bool} {take : Frame → State → State} (bits : List Bool)
    (h : ∀ f t, f.source.toNat ≠ lineId t → Runs t (take f t)) (s : State) :
    Ends c s (Machine.live (Machine.arrival mine bits take) s) := .live (arrival_runs h bits) s

theorem stateArrival_runs (f : Frame) (t : State) (h : f.source.toNat ≠ lineId t) :
    Runs t (if (peerStateOf f.payload t.nt).running then
      dropAndEvaluate f.source.toNat (notePeer f.source.toNat none (some (peerStateOf f.payload t.nt)) t)
      else occasionToEvaluate (notePeer f.source.toNat none (some (peerStateOf f.payload t.nt)) t)) := by
  have noted := notePeer_runs f.source.toNat (by omega) none (some (peerStateOf f.payload t.nt)) (.inr rfl) t h
  split
  · exact noted.trans (dropAndEvaluate_runs _ _)
  · exact noted.trans (occasionToEvaluate_moves _).runs

/-- Every command ends, and in one of these ways. -/
theorem exec_ends (c : Instr) (s : State) : ∃ t, exec c s = .next t ∧ Ends c s t := by
  cases c with
  | powerUp =>
    refine ⟨_, rfl, ?_⟩
    unfold takePowerUp
    dsimp only
    split
    · exact .started (.inl rfl) (by rw [losePower_eq]) (by rw [losePower_eq]) (by rw [losePower_eq])
    · exact .started (.inl rfl) rfl rfl rfl
  | logicSupplyLoss torn =>
    refine ⟨_, rfl, ?_⟩
    split
    · exact .lost torn
    · exact .none
  | backupRailLoss => exact ⟨_, rfl, .latched⟩
  | restartStart =>
    refine ⟨_, rfl, ?_⟩
    split
    · exact .started (.inr rfl) (by rw [cutWrite_eq]) (by rw [cutWrite_eq]) (by rw [cutWrite_eq])
    · exact .none
  | hallStep pair =>
    refine ⟨_, rfl, ?_⟩
    split
    · exact .liveWhen fun _ => takeStep_runs pair s
    · exact .coasted pair
  | hallSkip pair =>
    refine ⟨_, rfl, ?_⟩
    split
    · exact .liveWhen fun _ => takeSkip_runs pair s
    · exact .coasted pair
  | listenEnd =>
    exact ⟨_, rfl, .liveWhen fun _ =>
      ((Runs.setListen s false).trans (appointFrom_runs _ _)).trans (beginSafeSeat_runs _)⟩
  | safeSeatDeadline =>
    exact ⟨_, rfl, .liveWhen fun _ =>
      ((Runs.setDrive s _).trans (enterStopping_moves _ _).runs).trans (addReason_moves _ _).runs⟩
  | anemometerEdge => exact ⟨_, rfl, .live takeEdge_runs s⟩
  | windowEnd vane => exact ⟨_, rfl, .liveWhen fun _ => takeWindowEnd_runs vane s⟩
  | startWindowEnd => exact ⟨_, rfl, .liveWhen fun _ => Runs.setWeather s _⟩
  | stormExpiry => exact ⟨_, rfl, .liveWhen fun _ => (Runs.setWeather s _).trans (takeResult_runs _ _ _ _ _)⟩
  | rainExpiry => exact ⟨_, rfl, .liveWhen fun _ => (Runs.setWeather s _).trans (takeResult_runs _ _ _ _ _)⟩
  | gridSample v => exact ⟨_, rfl, .liveWhen fun _ => takeGridSample_runs v s⟩
  | buttonSample o c => exact ⟨_, rfl, .liveWhen fun _ => takeButtonSample_runs o c s⟩
  | keySample on => exact ⟨_, rfl, .liveWhen fun _ => takeKeySample_runs on s⟩
  | demandExpiry => exact ⟨_, rfl, .liveWhen fun _ => clearDemand_runs s⟩
  | transmissionStart => exact ⟨_, rfl, .live startTransmission_runs s⟩
  | transmissionLost read => exact ⟨_, rfl, .live (endTransmission_runs _ read) s⟩
  | identityClash read => exact ⟨_, rfl, .live (endTransmission_runs _ read) s⟩
  | transmissionComplete read => exact ⟨_, rfl, .live (endTransmission_runs _ read) s⟩
  | observeArrival bits =>
    exact ⟨_, rfl, .arrival bits (fun f t h => notePeer_runs _ (by omega) _ _ (.inl rfl) t h) s⟩
  | stateArrival bits => exact ⟨_, rfl, .arrival bits stateArrival_runs s⟩
  | intentArrival bits =>
    exact ⟨_, rfl, .arrival bits (fun f t h => (hearPeer_runs _ t).trans (takeIntent_runs _ _ _ h)) s⟩
  | withdrawArrival bits =>
    exact ⟨_, rfl, .arrival bits (fun f t _ => (hearPeer_runs _ t).trans (dropAndEvaluate_runs _ _)) s⟩
  | requestOpenTo bits => exact ⟨_, rfl, .live (requestArrival_runs (fun f t => takeDemand_runs _ t) 0 bits) s⟩
  | requestClose bits =>
    exact ⟨_, rfl, .live (requestArrival_runs
      (fun f t => (takeDemand_runs .seat t).trans (takeCloseNotice_moves _).runs) 1 bits) s⟩
  | requestStop bits => exact ⟨_, rfl, .live (requestArrival_runs (fun f t => clearDemand_runs t) 2 bits) s⟩
  | requestRelease bits => exact ⟨_, rfl, .live (requestArrival_runs (fun f t => clearDemand_runs t) 3 bits) s⟩
  | requestRestart bits =>
    refine ⟨_, rfl, .arrival bits (fun f t _ => ?_) s⟩
    split
    · exact takeRestart_runs t
    · exact Runs.refl t
  | configureOpen bits =>
    exact ⟨_, rfl, .live (configureArrival_runs (fun f t =>
      takeConfigure_runs openWindow_runs (fun _ _ => reply_runs _ _ _ _) _ t) 0 bits) s⟩
  | configureWrite bits =>
    exact ⟨_, rfl, .live (configureArrival_runs (fun f t =>
      takeConfigure_runs (fun _ _ => reply_runs _ _ _ _) (beginWrite_runs _) _ t) 1 bits) s⟩
  | configureRead bits =>
    exact ⟨_, rfl, .live (configureArrival_runs (fun f t =>
      takeConfigure_runs (fun _ _ => reply_runs _ _ _ _) readField_runs _ t) 2 bits) s⟩
  | recordArrival bits => exact ⟨_, rfl, .arrival bits (fun f t _ => Runs.refl t) s⟩
  | writeComplete v ch => exact ⟨_, rfl, .liveWhen fun _ => completeWrite_runs _ s⟩
  | commissioningWindowDeadline => exact ⟨_, rfl, .liveWhen fun _ => endWindow_runs s⟩
  | isolationDeadline => exact ⟨_, rfl, .liveWhen fun _ => Runs.setLine_same s _ rfl rfl⟩
  | periodicObserveDeadline => exact ⟨_, rfl, .liveWhen fun _ => periodicObserve_runs s _ _ _⟩
  | immediateHoldoffExpiry =>
    refine ⟨_, rfl, .liveWhen fun _ => ?_⟩
    split
    · exact Runs.setWeather s _
    · split
      · exact Runs.setWeather s _
      · exact placeImmediate_runs _ s
  | runningRefreshDeadline => exact ⟨_, rfl, .liveWhen fun _ => (noteOccasion_moves s).runs⟩
  | peerScan => exact ⟨_, rfl, .liveWhen fun _ => takeScan_runs s⟩
  | settleDeadline =>
    refine ⟨_, rfl, .liveWhen fun h => ?_⟩
    have settling : s.supply.admission = .settling := (decide_and_due.1 h).1
    exact (Runs.setSupplyRest s { s.supply with settleDl := none } rfl rfl rfl rfl).trans
      (evaluate_moves (s.setSupply { s.supply with settleDl := none }) (.inl settling)).runs
  | intentRefreshDeadline => exact ⟨_, rfl, .liveWhen fun _ => refreshIntent_runs s⟩
  | intentEntryAged src => exact ⟨_, rfl, .liveWhen fun _ => dropAndEvaluate_runs _ s⟩
  | sag => exact ⟨_, rfl, .liveWhen fun _ => takeSag_runs s⟩
  | supplyBelowHallFloor v =>
    exact ⟨_, rfl, .liveWhen fun _ =>
      ((Runs.setPins s _).trans (readSupply_moves _).runs).trans (addReason_moves _ _).runs⟩
  | overCurrent => exact ⟨_, rfl, .liveWhen fun _ => detection_runs s⟩
  | velocityWindowEnd => exact ⟨_, rfl, .liveWhen fun _ => takeVelocity_runs s⟩
  | warningDeadline =>
    refine ⟨_, rfl, .liveWhen fun _ => ?_⟩
    split
    · exact moveDrive_runs _ s
    · exact (enterRamp_moves s).runs
  | rampStep => exact ⟨_, rfl, .liveWhen fun _ => takeRampStep_runs s⟩
  | stopDeadline => exact ⟨_, rfl, .liveWhen fun _ => (endBraking_runs s).trans (beginSafeSeat_runs _)⟩
  | seatTimeout =>
    exact ⟨_, rfl, .liveWhen fun _ => (((Runs.setDrive s _).trans (addReason_moves _ _).runs).trans
      (moveEnded_moves _).runs).trans (enterStopping_moves _ _).runs⟩
  | backoffDeadline => exact ⟨_, rfl, .liveWhen fun _ => (enterStopping_moves _ s).runs⟩
  | retryDeadline => exact ⟨_, rfl, .liveWhen fun _ => (waitOrIdle_moves s).runs⟩
  | sagHoldoffDeadline => exact ⟨_, rfl, .liveWhen fun _ => (waitOrIdle_moves s).runs⟩
  | refuseEnd => exact ⟨_, rfl, .liveWhen fun _ => Runs.setDrive s _⟩
  | crossCheckDeadline v =>
    exact ⟨_, rfl, .liveWhen fun _ => ((Runs.setPins s _).trans (Runs.setPos _ _)).trans (compareAtRest_moves _).runs⟩
  | arrivalNotHandedOn bits =>
    exact ⟨_, rfl, .live (fun t => arrival_runs (fun f t _ => Runs.refl t) bits t) s⟩

/-! ### No command stops the node (O3) -/

/-- The waiting commands and the feeds stay, but for the new millisecond of a start. -/
theorem Ends.feeds {c : Instr} {s t : State} (h : Ends c s t) :
    t.pending = s.pending ∧ t.pinFeed = s.pinFeed ∧ t.lineFeed.held = s.lineFeed.held ∧
    t.lineFeed.pulses = s.lineFeed.pulses ∧ (c ≠ .powerUp → c ≠ .restartStart → t.lineFeed = s.lineFeed) := by
  have same : ∀ u : State, u.pending = s.pending → u.pinFeed = s.pinFeed → u.lineFeed = s.lineFeed →
      u.pending = s.pending ∧ u.pinFeed = s.pinFeed ∧ u.lineFeed.held = s.lineFeed.held ∧
      u.lineFeed.pulses = s.lineFeed.pulses ∧ (c ≠ .powerUp → c ≠ .restartStart → u.lineFeed = s.lineFeed) :=
    fun u hp hf hl => ⟨hp, hf, by rw [hl], by rw [hl], fun _ _ => hl⟩
  cases h with
  | none => exact same s rfl rfl rfl
  | carried _ h =>
    have r := h.trans (commit_runs s _)
    exact same _ r.pending r.pinFeed r.lineFeed
  | started hc hp hf hl =>
    have held := congrArg LineFeed.held hl
    have pulses := congrArg LineFeed.pulses hl
    exact ⟨hp, hf, held, pulses, fun h1 h2 => absurd hc (by simp [h1, h2])⟩
  | lost torn => exact same _ (by rw [losePower_eq]) (by rw [losePower_eq]) (by rw [losePower_eq])
  | latched => exact same _ rfl rfl rfl
  | coasted => exact same _ rfl rfl rfl

/-- Settles O3. -/
theorem everyCommandGoesOn : Obligations.EveryCommandGoesOn := by
  intro c s
  obtain ⟨t, ht, ends⟩ := exec_ends c s
  exact ⟨t, ht, ends.feeds⟩

/-! ### The tables stay lawful (O8) -/

theorem start_lawful (kind : StartKind) (s : State) : QueueLawful (startSequence kind s) ∧
    PeersLawful (startSequence kind s) ∧ EntriesLawful (startSequence kind s) := by
  refine ⟨?_, ⟨Nat.zero_le _, List.Pairwise.nil, fun r hr => nomatch hr⟩, ?_⟩ <;>
    simp [QueueLawful, EntriesLawful, startSequence, startLine, startSupply, Line.holds]

/-- A command keeps each table lawful. -/
theorem Ends.lawful {c : Instr} {s t : State} (h : Ends c s t) :
    (QueueLawful s → QueueLawful t) ∧ (PeersLawful s → PeersLawful t) ∧ (EntriesLawful s → EntriesLawful t) := by
  cases h with
  | none => exact ⟨id, id, id⟩
  | carried _ h =>
    have r := h.trans (commit_runs s _)
    exact ⟨r.queue, r.peers, r.entries⟩
  | started =>
    obtain ⟨hq, hp, he⟩ := start_lawful _ _
    exact ⟨fun _ => hq, fun _ => hp, fun _ => he⟩
  | lost torn => rw [losePower_eq]; exact ⟨id, id, id⟩
  | latched => exact ⟨id, id, id⟩
  | coasted => exact ⟨id, id, id⟩

theorem TablesKept.setLine_queue (s : State) (l : Line) (hq : l.queue = s.line.queue)
    (hl : l.listenOnly = s.line.listenOnly) : TablesKept s (s.setLine l) :=
  (Runs.setLine_same s l hq hl).toTablesKept

theorem TablesKept.setLineFeed (s : State) (v : LineFeed) : TablesKept s (s.setLineFeed v) :=
  { TablesKept.refl s with }

theorem TablesKept.setPending (s : State) (v : List Instr) : TablesKept s (s.setPending v) :=
  { TablesKept.refl s with }

theorem passTime_tablesKept (u : Nat) (s : State) : TablesKept s (passTime u s) :=
  (TablesKept.setLine_queue s (s.line.pass u) rfl rfl).trans (TablesKept.setLineFeed _ _)

theorem happen_tablesKept (e : LineEvent) (s : State) : TablesKept s (happen e s) := by
  cases e with
  | stop =>
    exact (TablesKept.setLine_queue s { s.line with assembly := .rest s.line.assembly.quiet } rfl rfl).trans
      (TablesKept.setPending _ _)
  | sample => exact (TablesKept.setLine_queue s (s.line.sample _) rfl rfl).trans (TablesKept.setPending _ _)
  | begin =>
    obtain ⟨still, falls⟩ := beginPulses_spec s
    by_cases h : Falls s
    · show TablesKept s (beginPulses s)
      rw [falls h]
      exact (TablesKept.setLineFeed s _).trans (TablesKept.setLine_queue _ s.line.fall rfl rfl)
    · show TablesKept s (beginPulses s)
      rw [still h]
      exact TablesKept.setLineFeed s _

theorem millisecond_tablesKept (s : State) : TablesKept s (millisecond s) := by
  rw [millisecond_eq]
  have rises : TablesKept s (risen s) := { passTime_tablesKept s.lineFeed.left s with }
  exact rises.trans (readSupply_moves _).runs.toTablesKept

theorem tick_tablesKept (s : State) : TablesKept s (tick s) := by
  unfold tick
  split
  · exact { TablesKept.refl s with }
  · split
    · exact { TablesKept.refl s with }
    · split
      · exact TablesKept.setPending s _
      · split
        · exact TablesKept.setPending s _
        · unfold runLine
          split
          · exact millisecond_tablesKept s
          · split
            · exact (passTime_tablesKept _ s).trans (happen_tablesKept _ _)
            · exact millisecond_tablesKept s

/-- A step keeps each table lawful. -/
theorem step_lawful {s t : State} (h : step s = .next t) :
    (QueueLawful s → QueueLawful t) ∧ (PeersLawful s → PeersLawful t) ∧ (EntriesLawful s → EntriesLawful t) := by
  unfold step at h
  split at h
  · rename_i c rest _
    obtain ⟨u, hu, ends⟩ := exec_ends c (s.setPending rest)
    rw [hu] at h
    cases h
    exact ends.lawful
  · cases h
    have kept := tick_tablesKept s
    exact ⟨kept.queue, kept.peers, kept.entries⟩

/-- Settles O8. -/
theorem stepKeepsTheTablesLawful : Obligations.StepKeepsTheTablesLawful :=
  ⟨fun _ _ hs h => (step_lawful h).1 hs, fun _ _ hs h => (step_lawful h).2.1 hs,
    fun _ _ hs h => (step_lawful h).2.2 hs⟩

/-! ### A changed report is queued (O12) -/

/-- The end of a command leaves the reported fields as the command made them. -/
theorem commit_reportedFields (s t : State) : reportedFields (commit s t) = reportedFields t := by
  rw [commit_frame]; rfl

theorem refusesPlacement_commit (k : Kind) (s t : State) :
    refusesPlacement k (commit s t) = refusesPlacement k t := by
  rw [commit_frame]; rfl

/-- Where a STATE is not refused, the node is outside the safe profile (R35). -/
theorem safe_of_stateTaken {s : State} (h : refusesPlacement .state s = false) : s.safe = false := by
  cases hs : s.safe with
  | false => rfl
  | true => simp [refusesPlacement, hs] at h

/-- Settles O12: a command that changes a reported field goes through the end of every command, which places the STATE;
the others change none or leave the node in LISTEN, where placements are refused. -/
theorem changedReportIsQueued : Obligations.ChangedReportIsQueued := by
  intro c s t ht changed taken
  obtain ⟨u, hu, ends⟩ := exec_ends c s
  obtain rfl : u = t := Host.Outcome.next.inj (hu.symm.trans ht)
  cases ends with
  | none => exact absurd rfl changed
  | @carried v _ _ =>
    rw [commit_reportedFields] at changed
    rw [refusesPlacement_commit] at taken
    obtain ⟨-, -, -, -, placed⟩ := commit_reported s v (safe_of_stateTaken taken) (.inr changed.symm)
    simpa [taken] using placed
  | started => simp [refusesPlacement, startSequence] at taken
  | lost torn => exact absurd (by rw [losePower_eq]; rfl) changed
  | latched => exact absurd rfl changed
  | coasted => exact absurd rfl changed

end Sys2Proof.Machine
end

section
/-! Placements into the transmit queue (R31 to R33, R35): what of a kind is queued afterwards, and in which order. -/

namespace Sys2Proof.Machine

/-! ### The order of the queue (R31) -/

theorem precedes_iff (nt : Time) (a b : Queued) : a.precedes nt b = true ↔
    a.cls.code.toNat < b.cls.code.toNat ∨
      (a.cls.code.toNat = b.cls.code.toNat ∧ Machine.age nt b.age < Machine.age nt a.age) := by
  simp [Queued.precedes, BitVec.toNat_inj]

theorem precedes_trans {nt : Time} {a b c : Queued} (h : a.precedes nt b = true) (k : b.precedes nt c = true) :
    a.precedes nt c = true := by
  rw [precedes_iff] at *
  omega

theorem precedes_asymm {nt : Time} {a b : Queued} (h : a.precedes nt b = true) : b.precedes nt a = false := by
  rw [← Bool.not_eq_true]
  rw [precedes_iff] at *
  omega

/-- The order of R31: no telegram stands behind one that it precedes. -/
def InOrder (nt : Time) (q : List Queued) : Prop := q.Pairwise fun a b => b.precedes nt a = false

theorem insertQueued_inOrder {nt : Time} {x : Queued} {q : List Queued} (h : InOrder nt q) :
    InOrder nt (insertQueued nt x q) := by
  unfold InOrder at *
  induction q with
  | nil => simp [insertQueued]
  | cons y ys ih =>
    obtain ⟨hy, hys⟩ := List.pairwise_cons.1 h
    simp only [insertQueued]
    split
    · rename_i hxy
      refine List.pairwise_cons.2 ⟨fun z hz => ?_, h⟩
      rcases List.mem_cons.1 hz with rfl | hz
      · exact precedes_asymm hxy
      · rw [← Bool.not_eq_true]
        exact fun hzx => absurd (precedes_trans hzx hxy) (by simp [hy z hz])
    · rename_i hxy
      refine List.pairwise_cons.2 ⟨fun z hz => ?_, ih hys⟩
      rcases List.mem_cons.1 ((insertQueued_perm nt x ys).subset hz) with rfl | hz
      · exact Bool.not_eq_true _ ▸ hxy
      · exact hy z hz

theorem reorder_inOrder (nt : Time) (q : List Queued) : InOrder nt (reorder nt q) := by
  have gen : ∀ (q acc : List Queued), InOrder nt acc → InOrder nt (q.foldl (fun acc x => insertQueued nt x acc) acc) := by
    intro q
    induction q with
    | nil => exact fun acc h => h
    | cons x xs ih => exact fun acc h => ih _ (insertQueued_inOrder h)
  exact gen q [] List.Pairwise.nil

theorem put_inOrder (l : Line) (nt : Time) (k : Kind) (cls : Class) (p : List Byte) :
    InOrder nt (l.put nt k cls p).queue := by
  unfold Line.put
  split <;> exact reorder_inOrder _ _

/-! ### What a queue holds of a kind -/

/-- The queued telegrams of a kind. -/
def ofKindIn (k : Kind) (q : List Queued) : List Queued := q.filter fun e => e.kind == k

theorem holds_false_iff (l : Line) (k : Kind) : l.holds k = false ↔ ofKindIn k l.queue = [] := by
  simp [Line.holds, ofKindIn]

theorem holds_of_one {l : Line} {k : Kind} {e : Queued} (h : ofKindIn k l.queue = [e]) : l.holds k = true := by
  rw [← Bool.not_eq_false, holds_false_iff, h]
  simp

/-- A lawful queue holds none or one of a kind (R31). -/
theorem ofKindIn_cases {q : List Queued} (h : (q.map Queued.kind).Nodup) (k : Kind) :
    ofKindIn k q = [] ∨ ∃ e, ofKindIn k q = [e] := by
  have nodup : ((ofKindIn k q).map Queued.kind).Nodup := h.sublist (List.filter_sublist.map _)
  have kinds : ∀ e ∈ ofKindIn k q, e.kind = k := fun e he => by simpa using (List.mem_filter.1 he).2
  match hq : ofKindIn k q with
  | [] => exact .inl rfl
  | [e] => exact .inr ⟨e, rfl⟩
  | a :: b :: rest =>
    rw [hq] at nodup kinds
    simp [kinds a, kinds b] at nodup

/-- A telegram of a kind that is not queued joins (R32). -/
theorem put_joins {l : Line} {k : Kind} (h : ofKindIn k l.queue = []) (nt : Time) (cls : Class) (p : List Byte) :
    ofKindIn k (l.put nt k cls p).queue = [⟨k, cls, p, nt, false⟩] := by
  refine List.perm_singleton.1 ?_
  unfold Line.put
  rw [if_neg (by rw [(holds_false_iff l k).2 h]; decide)]
  refine ((reorder_perm nt _).filter _).trans ?_
  rw [List.filter_append]
  show (ofKindIn k l.queue ++ _).Perm _
  simp [h]

/-- A telegram of a kind that is queued replaces it in place (R32). -/
theorem put_replaces {l : Line} {k : Kind} {old : Queued} (h : ofKindIn k l.queue = [old]) (nt : Time) (cls : Class)
    (p : List Byte) : ofKindIn k (l.put nt k cls p).queue = [⟨k, cls, p, old.age, old.replaced || l.flying k⟩] := by
  have kept : ∀ q : List Queued, ofKindIn k (q.map fun e =>
        if e.kind = k then { e with cls := cls, payload := p, replaced := e.replaced || l.flying k } else e) =
      (ofKindIn k q).map fun e => ⟨k, cls, p, e.age, e.replaced || l.flying k⟩ := by
    intro q
    induction q with
    | nil => rfl
    | cons y ys ih =>
      unfold ofKindIn at *
      by_cases hy : y.kind = k
      · simp [hy, ih]
      · simp [hy, ih]
  refine List.perm_singleton.1 ?_
  unfold Line.put
  rw [if_pos (holds_of_one h)]
  refine ((reorder_perm nt _).filter _).trans ?_
  show (ofKindIn k _).Perm _
  rw [kept, h]
  exact List.Perm.refl _

/-- What the queue holds of the kind placed, in a queue with at most one of it. -/
theorem put_one {l : Line} (h : (l.queue.map Queued.kind).Nodup) (nt : Time) (k : Kind) (cls : Class) (p : List Byte) :
    ∃ e, ofKindIn k (l.put nt k cls p).queue = [e] ∧ e.cls = cls ∧ e.payload = p ∧
      (ofKindIn k l.queue = [] → e.age = nt ∧ e.replaced = false) ∧
      (∀ old, ofKindIn k l.queue = [old] → e.age = old.age) := by
  rcases ofKindIn_cases h k with hk | ⟨old, hk⟩
  · exact ⟨_, put_joins hk nt cls p, rfl, rfl, fun _ => ⟨rfl, rfl⟩, fun old ho => by simp [hk] at ho⟩
  · refine ⟨_, put_replaces hk nt cls p, rfl, rfl, fun ho => by simp [hk] at ho, fun o ho => ?_⟩
    rw [List.singleton_inj.1 (hk.symm.trans ho)]

theorem put_holds_self (l : Line) (nt : Time) (k : Kind) (cls : Class) (p : List Byte) :
    (l.put nt k cls p).holds k = true := by
  obtain ⟨e, he, hk, -⟩ := put_holds l nt k cls p
  exact List.any_eq_true.2 ⟨e, he, by simp [hk]⟩

/-- Of another kind a placement leaves what was queued. -/
theorem put_other (l : Line) (nt : Time) {k k' : Kind} (hk : k' ≠ k) (cls : Class) (p : List Byte) :
    (ofKindIn k' (l.put nt k cls p).queue).Perm (ofKindIn k' l.queue) := by
  have sub : ∀ q : List Queued, ofKindIn k' q = ofKindIn k' (q.filter fun e => e.kind != k) := fun q => by
    rw [ofKindIn, ofKindIn, List.filter_filter]
    refine List.filter_congr fun e _ => ?_
    by_cases he : e.kind = k' <;> simp [he, hk]
  rw [sub, sub l.queue]
  exact (put_others l nt k cls p).filter _

theorem put_holds_other (l : Line) (nt : Time) {k k' : Kind} (hk : k' ≠ k) (cls : Class) (p : List Byte) :
    (l.put nt k cls p).holds k' = l.holds k' := by
  have h : (l.put nt k cls p).holds k' = false ↔ l.holds k' = false := by
    have perm := put_other l nt hk cls p
    rw [holds_false_iff, holds_false_iff]
    exact ⟨fun he => List.perm_nil.1 (he ▸ perm.symm), fun he => List.perm_nil.1 (he ▸ perm)⟩
  cases hb : l.holds k' with
  | false => exact h.2 hb
  | true => exact Bool.not_eq_false _ ▸ fun hc => by simp [h.1 hc] at hb

/-! ### Refused, replaced or joined (O18) -/

theorem refusesPlacement_iff (k : Kind) (s : State) : refusesPlacement k s = true ↔
    s.listen = true ∨ s.line.listenOnly = true ∨ (s.safe = true ∧ ¬(k = .record ∧ s.store.isOpen = true)) := by
  simp [refusesPlacement, or_assoc, imp_iff_not_or]

/-- A placement that is not refused, of a kind with no partner to cancel. -/
theorem place_put {k : Kind} {s : State} (hr : refusesPlacement k s = false) (hi : k ≠ .intent) (hw : k ≠ .withdraw)
    (cls : Class) (p : List Byte) : place k cls p s = s.setLine (s.line.put s.nt k cls p) := by
  unfold place
  rw [hr]
  cases k <;> first | rfl | contradiction

/-- Settles O18. -/
theorem placementIsRefusedReplacesOrJoins : Obligations.PlacementIsRefusedReplacesOrJoins := by
  refine ⟨fun k cls p s => ⟨refusesPlacement_iff k s, fun h => place_refused h cls p⟩, fun k cls p s hr hi hw => ?_⟩
  refine ⟨(s.line.put s.nt k cls p).queue, ?_, put_others _ _ _ _ _, fun h => put_joins h _ _ _,
    fun old h => put_replaces h _ _ _, put_inOrder _ _ _ _ _⟩
  rw [place_put hr hi hw, put_queue]
  rfl

/-! ### WITHDRAW and INTENT (O21) -/

theorem drop_holds (l : Line) (k : Kind) : (l.drop k).holds k = false := by
  rw [holds_false_iff]
  simp [ofKindIn, Line.drop]

theorem drop_other (l : Line) {k k' : Kind} (hk : k' ≠ k) : ofKindIn k' (l.drop k).queue = ofKindIn k' l.queue := by
  simp only [ofKindIn, Line.drop, List.filter_filter]
  refine List.filter_congr fun e _ => ?_
  by_cases he : e.kind = k' <;> simp [he, hk]

theorem drop_holds_other (l : Line) {k k' : Kind} (hk : k' ≠ k) : (l.drop k).holds k' = l.holds k' := by
  have h : (l.drop k).holds k' = false ↔ l.holds k' = false := by
    rw [holds_false_iff, holds_false_iff, drop_other l hk]
  cases hb : l.holds k' with
  | false => exact h.2 hb
  | true => exact Bool.not_eq_false _ ▸ fun hc => by simp [h.1 hc] at hb

theorem drop_nodup {l : Line} (h : (l.queue.map Queued.kind).Nodup) (k : Kind) :
    ((l.drop k).queue.map Queued.kind).Nodup := h.sublist (List.filter_sublist.map _)

/-- The transmission of the telegram dropped runs on without its entry (R33). -/
theorem drop_inFlight {l : Line} {k : Kind} (h : l.flying k = true) :
    (l.drop k).inFlight = l.inFlight.map fun f => { f with entryGone := true } := by
  unfold Line.flying at h
  unfold Line.drop
  cases hf : l.inFlight with
  | none => rfl
  | some f =>
    rw [hf] at h
    have hk : f.kind = k := by simp_all
    simp [hk]

/-- The telegrams of the other kinds, which neither partner touches. -/
def others (q : List Queued) : List Queued := q.filter fun e => e.kind != .intent && e.kind != .withdraw

theorem others_put (l : Line) (nt : Time) {k : Kind} (hk : k = .intent ∨ k = .withdraw) (cls : Class) (p : List Byte) :
    (others (l.put nt k cls p).queue).Perm (others l.queue) := by
  have sub : ∀ q : List Queued, others q = others (q.filter fun e => e.kind != k) := fun q => by
    rw [others, others, List.filter_filter]
    refine List.filter_congr fun e _ => ?_
    rcases hk with rfl | rfl <;> cases e.kind <;> rfl
  rw [sub, sub l.queue]
  exact (put_others l nt k cls p).filter _

theorem others_drop (l : Line) {k : Kind} (hk : k = .intent ∨ k = .withdraw) :
    others (l.drop k).queue = others l.queue := by
  rw [others, others, Line.drop, List.filter_filter]
  refine List.filter_congr fun e _ => ?_
  rcases hk with rfl | rfl <;> cases e.kind <;> rfl

/-- A placement of any kind moves the queue and the transmission in progress alone. -/
theorem place_queue_inFlight (k : Kind) (cls : Class) (p : List Byte) (s : State) : place k cls p s =
    { s with line := { s.line with
      queue := (place k cls p s).line.queue, inFlight := (place k cls p s).line.inFlight } } := by
  obtain ⟨l, hl, kept, -, -⟩ := place_line k cls p s
  rw [hl]
  show s.setLine l = s.setLine _
  congr 1
  obtain ⟨h1, h2, h3, h4, h5, h6, h7, h8, h9⟩ := kept
  cases l
  simp_all

/-- A WITHDRAW takes the place of a queued INTENT, or joins by the intent-sent mark (R33). -/
theorem putWithdraw_cases (l : Line) (nt : Time) (cls : Class) (p : List Byte) :
    (l.holds .intent = true ∧ (l.flying .intent = true ∨ l.intentSent = true) ∧
      l.putWithdraw nt cls p = (l.drop .intent).put nt .withdraw cls p) ∨
    (l.holds .intent = true ∧ l.flying .intent = false ∧ l.intentSent = false ∧
      l.putWithdraw nt cls p = l.drop .intent) ∨
    (l.holds .intent = false ∧ l.intentSent = true ∧ l.putWithdraw nt cls p = l.put nt .withdraw cls p) ∨
    (l.holds .intent = false ∧ l.intentSent = false ∧ l.putWithdraw nt cls p = l) := by
  unfold Line.putWithdraw
  cases l.holds .intent <;> cases l.flying .intent <;> cases l.intentSent <;> simp

theorem withdrawPlaced {cls : Class} {p : List Byte} {s : State} (hr : refusesPlacement .withdraw s = false) :
    (place .withdraw cls p s).line = s.line.putWithdraw s.nt cls p := by
  simp [place, hr]

theorem intentPlaced {cls : Class} {p : List Byte} {s : State} (hr : refusesPlacement .intent s = false) :
    (place .intent cls p s).line = (s.line.drop .withdraw).put s.nt .intent cls p := by
  simp [place, hr]

/-- What stands of a WITHDRAW placed, in a lawful queue. -/
theorem putWithdraw_spec {l : Line} (hn : (l.queue.map Queued.kind).Nodup)
    (hx : l.holds .intent = true → l.holds .withdraw = false) (nt : Time) (cls : Class) (p : List Byte) :
    let m := l.putWithdraw nt cls p
    m.holds .intent = false ∧
    (m.holds .withdraw = true ↔ l.intentSent = true ∨ (l.holds .intent = true ∧ l.flying .intent = true) ∨
      l.holds .withdraw = true) ∧
    (l.intentSent = true ∨ (l.holds .intent = true ∧ l.flying .intent = true) →
      ∃ e, ofKindIn .withdraw m.queue = [e] ∧ e.cls = cls ∧ e.payload = p ∧
        (ofKindIn .withdraw l.queue = [] → e.age = nt ∧ e.replaced = false) ∧
        (∀ old, ofKindIn .withdraw l.queue = [old] → e.age = old.age)) ∧
    (l.holds .intent = true → l.flying .intent = true →
      m.inFlight = l.inFlight.map fun f => { f with entryGone := true }) ∧
    (others m.queue).Perm (others l.queue) := by
  have apart : Kind.intent ≠ .withdraw := by decide
  dsimp only
  rcases putWithdraw_cases l nt cls p with ⟨hi, hf, hm⟩ | ⟨hi, hf, hs, hm⟩ | ⟨hi, hs, hm⟩ | ⟨hi, hs, hm⟩ <;> rw [hm]
  · have placed := put_one (drop_nodup hn .intent) nt .withdraw cls p
    rw [drop_other l apart.symm] at placed
    refine ⟨by rw [put_holds_other _ _ apart, drop_holds], ?_, fun _ => placed, fun _ hf => ?_,
      (others_put _ _ (.inr rfl) _ _).trans (others_drop l (.inl rfl) ▸ List.Perm.refl _)⟩
    · simp only [put_holds_self, true_iff]
      tauto
    · rw [put_inFlight, drop_inFlight hf]
  · refine ⟨drop_holds _ _, ?_, fun h => ?_, fun _ h => ?_, others_drop l (.inl rfl) ▸ List.Perm.refl _⟩
    · rw [drop_holds_other l apart.symm]
      simp [hf, hs]
    · simp [hf, hs] at h
    · simp [hf] at h
  · refine ⟨by rw [put_holds_other _ _ apart, hi], by simp [put_holds_self, hs], fun _ => put_one hn _ _ _ _,
      fun h => ?_, others_put _ _ (.inr rfl) _ _⟩
    simp [hi] at h
  · refine ⟨hi, by simp [hi, hs], fun h => ?_, fun h => ?_, List.Perm.refl _⟩
    · simp [hi, hs] at h
    · simp [hi] at h

/-- Settles O21. -/
theorem withdrawAndIntentCancelEachOther : Obligations.WithdrawAndIntentCancelEachOther := by
  refine ⟨fun cls p s hr hq => ?_, fun cls p s hr hq => ?_⟩
  · obtain ⟨hn, hx, -⟩ := hq
    obtain ⟨h1, h2, h3, h4, h5⟩ := putWithdraw_spec hn hx s.nt cls p
    rw [← withdrawPlaced hr] at h1 h2 h3 h4 h5
    exact ⟨place_queue_inFlight _ _ _ _, h1, h2, h3, h4, h5⟩
  · obtain ⟨hn, hx, -⟩ := hq
    have apart : Kind.withdraw ≠ .intent := by decide
    have placed := put_one (drop_nodup hn .withdraw) s.nt .intent cls p
    rw [drop_other s.line apart.symm, ← intentPlaced hr] at placed
    refine ⟨place_queue_inFlight _ _ _ _, ?_, placed, fun hf => ?_, ?_⟩
    · rw [intentPlaced hr, put_holds_other _ _ apart, drop_holds]
    · rw [intentPlaced hr, put_inFlight, drop_inFlight hf]
    · rw [intentPlaced hr]
      exact (others_put _ _ (.inl rfl) _ _).trans (others_drop s.line (.inr rfl) ▸ List.Perm.refl _)

end Sys2Proof.Machine
end

section
/-! The read-back of a transmission (R21, R28, R29) and the commands that end one. -/

namespace Sys2Proof.Machine

/-! ### The read-back -/

theorem readBackFrom_same (i : Nat) (sent : List Bool) : readBackFrom i sent sent = .completed := by
  induction sent generalizing i with
  | nil => rfl
  | cons b bs ih => simp [readBackFrom, ih]

/-- With no difference so far and bits still to come the transmission goes on. -/
theorem readBackFrom_ongoing (i : Nat) {sent : List Bool} {n : Nat} (h : n < sent.length) :
    readBackFrom i sent (sent.take n) = .ongoing := by
  induction sent generalizing i n with
  | nil => simp at h
  | cons b bs ih =>
    cases n with
    | zero => rfl
    | succ n =>
      simp only [List.length_cons, Nat.add_lt_add_iff_right] at h
      simp [readBackFrom, ih (i + 1) h]

/-- The first difference decides. -/
theorem readBackFrom_differs (i : Nat) {sent : List Bool} {n : Nat} {b : Bool} (h : sent[n]? = some b) :
    readBackFrom i sent (sent.take n ++ [!b]) =
      if b then (if i + n ≤ 12 then .lost else .clash) else .lost := by
  induction sent generalizing i n with
  | nil => simp at h
  | cons c cs ih =>
    cases n with
    | zero =>
      obtain rfl : c = b := by simpa using h
      simp [readBackFrom]
    | succ n =>
      have h' : cs[n]? = some b := by simpa using h
      have hi : i + 1 + n = i + (n + 1) := by omega
      simp [readBackFrom, ih (i + 1) h', hi]

theorem readBack_same (sent : List Bool) : readBack sent sent = .completed := readBackFrom_same 0 sent

theorem readBack_ongoing {sent : List Bool} {n : Nat} (h : n < sent.length) :
    readBack sent (sent.take n) = .ongoing := readBackFrom_ongoing 0 h

/-- A 1 sent and dominant read in the arbitration field, or a dominant bit read recessive, is a loss (R28, R29). -/
theorem readBack_lost {sent : List Bool} {n : Nat} {b : Bool} (h : sent[n]? = some b) (hn : b = true → n ≤ 12) :
    readBack sent (sent.take n ++ [!b]) = .lost := by
  rw [readBack, readBackFrom_differs 0 h]
  cases b with
  | false => rfl
  | true => simp [hn rfl]

/-- A 1 sent and dominant read after the arbitration field is an identity clash (R29). -/
theorem readBack_clash {sent : List Bool} {n : Nat} (h : sent[n]? = some true) (hn : 12 < n) :
    readBack sent (sent.take n ++ [false]) = .clash := by
  have hd := readBackFrom_differs 0 h
  rw [Bool.not_true] at hd
  rw [readBack, hd]
  simp; omega

/-! ### The end of a transmission -/

/-- A command that touches the line alone ends in what it made. -/
theorem live_line {s : State} {f : State → State} {l : Line} (h : Ready s) (hf : f s = s.setLine l) :
    live f s = s.setLine l := live_quiet h hf rfl rfl rfl rfl

theorem endTransmission_lost {s : State} {f : InFlight} {read : List Bool} (hf : s.line.inFlight = some f)
    (h : readBack f.frame.bits read = .lost) :
    endTransmission .lost read s = s.setLine (s.line.released f) := by
  simp [endTransmission, hf, h]

theorem endTransmission_clash {s : State} {f : InFlight} {read : List Bool} (hf : s.line.inFlight = some f)
    (h : readBack f.frame.bits read = .clash) :
    endTransmission .clash read s = s.setLine ((s.line.released f).clash s.nt) := by
  simp [endTransmission, hf, h]

/-- The queue after a complete transmission, entry by entry (R34). -/
theorem sentQueue_eq (f : InFlight) (hf : f.entryGone = false) (q : List Queued) :
    sentQueue f q = q.filterMap fun e =>
      if e.kind = f.kind then (if e.replaced then some { e with replaced := false } else none) else some e := by
  unfold sentQueue keptQueue
  induction q with
  | nil => rfl
  | cons e es ih =>
    by_cases hk : e.kind = f.kind <;> cases hr : e.replaced <;> simp_all

theorem sentQueue_gone {f : InFlight} (hf : f.entryGone = true) (q : List Queued) : sentQueue f q = q := by
  simp [sentQueue, keptQueue, hf]

theorem endTransmission_completed {s : State} {f : InFlight} (hf : s.line.inFlight = some f) :
    endTransmission .completed f.frame.bits s = s.setLine { s.line with
      inFlight := none
      queue := if f.entryGone then s.line.queue else s.line.queue.filterMap fun e =>
        if e.kind = f.kind then (if e.replaced then some { e with replaced := false } else none) else some e
      intentSent := if f.kind = .intent then true else if f.kind = .withdraw then false else s.line.intentSent } := by
  have queue : sentQueue f s.line.queue = if f.entryGone then s.line.queue else s.line.queue.filterMap fun e =>
      if e.kind = f.kind then (if e.replaced then some { e with replaced := false } else none) else some e := by
    cases hg : f.entryGone with
    | true => rw [sentQueue_gone hg, if_pos rfl]
    | false => rw [sentQueue_eq f hg, if_neg (by decide)]
  rw [← queue]
  unfold endTransmission
  rw [hf]
  dsimp only
  rw [if_neg (by simp [readBack_same])]
  cases f.kind <;> rfl

/-! ### Identity clashes (O20) -/

/-- The stamps of R30 after one more clash. -/
def clashStamps (l : Line) (nt : Time) : List Time := (l.clashes.filter fun t => decide (age nt t ≤ 60000)) ++ [nt]

theorem clash_few {l : Line} {nt : Time} (h : (clashStamps l nt).length < 3) :
    l.clash nt = { l with clashes := clashStamps l nt } := if_neg (Nat.not_le.2 h)

theorem clash_third {l : Line} {nt : Time} (h : 3 ≤ (clashStamps l nt).length) :
    l.clash nt = { l with clashes := clashStamps l nt, listenOnly := true, queue := [] } := if_pos h

/-- Settles O20. -/
theorem identityClashIsRecorded : Obligations.IdentityClashIsRecorded := by
  intro s f n hr hf hb hn
  dsimp only
  have ends : exec (.identityClash (f.frame.bits.take n ++ [false])) s =
      .next (s.setLine ((s.line.released f).clash s.nt)) :=
    congrArg _ (live_line hr (endTransmission_clash hf (readBack_clash hb hn)))
  refine ⟨fun h => ?_, fun h => ?_⟩
  · rw [ends, clash_few (l := s.line.released f) h]
    rfl
  · rw [ends, clash_third (l := s.line.released f) h]
    rfl

end Sys2Proof.Machine
end

section
/-! Bits and numbers (Section 2.2): a field and its bits, most significant first. -/

namespace Sys2Proof.Machine

@[simp] theorem bitsOf_length {n : Nat} (v : BitVec n) : (bitsOf v).length = n := by simp [bitsOf]

@[simp] theorem natOfBits_nil : natOfBits [] = 0 := rfl

theorem natOfBits_concat (l : List Bool) (b : Bool) : natOfBits (l ++ [b]) = 2 * natOfBits l + b.toNat := by
  simp [natOfBits]

theorem natOfBits_append (l m : List Bool) : natOfBits (l ++ m) = natOfBits l * 2 ^ m.length + natOfBits m := by
  induction m using List.reverseRecOn with
  | nil => simp
  | append_singleton m b ih =>
    rw [← List.append_assoc, natOfBits_concat, natOfBits_concat, ih, List.length_append, List.length_singleton,
      pow_succ]
    ring

theorem natOfBits_cons (b : Bool) (l : List Bool) : natOfBits (b :: l) = b.toNat * 2 ^ l.length + natOfBits l := by
  have h := natOfBits_append [b] l
  have hb : natOfBits [b] = b.toNat := by simp [natOfBits]
  rwa [List.singleton_append, hb] at h

theorem natOfBits_lt (l : List Bool) : natOfBits l < 2 ^ l.length := by
  induction l with
  | nil => simp
  | cons b l ih =>
    rw [natOfBits_cons, List.length_cons, pow_succ]
    have hb : b.toNat ≤ 1 := Bool.toNat_le b
    have := Nat.mul_le_mul_right (2 ^ l.length) hb
    omega

/-- Bits of one length are told apart by their number. -/
theorem natOfBits_inj {l m : List Bool} (hl : l.length = m.length) (h : natOfBits l = natOfBits m) : l = m := by
  induction l generalizing m with
  | nil => exact (List.length_eq_zero_iff.1 hl.symm).symm
  | cons b l ih =>
    cases m with
    | nil => simp at hl
    | cons c m =>
      have hlen : l.length = m.length := by simpa using hl
      have h1 := natOfBits_lt l
      have h2 := natOfBits_lt m
      rw [natOfBits_cons, natOfBits_cons, hlen] at h
      rw [hlen] at h1
      have hbc : b = c := by
        cases b <;> cases c <;> simp_all
        all_goals omega
      subst hbc
      rw [ih hlen (by omega)]

/-- The first bits of a field are its number without the others. -/
theorem natOfBits_leading {n : Nat} (v : BitVec n) {k : Nat} (hk : k ≤ n) :
    natOfBits ((List.range k).map fun i => v.getMsbD i) = v.toNat / 2 ^ (n - k) := by
  induction k with
  | zero => simp [Nat.div_eq_of_lt v.isLt]
  | succ k ih =>
    have hbit : (v.getMsbD k).toNat = v.toNat / 2 ^ (n - (k + 1)) % 2 := by
      rw [BitVec.getMsbD, BitVec.getLsbD, Nat.testBit_eq_decide_div_mod_eq, Nat.sub_sub, Nat.add_comm 1 k]
      have := Nat.mod_two_eq_zero_or_one (v.toNat / 2 ^ (n - (k + 1)))
      rcases this with h | h <;> simp [h, show k < n from hk]
    have hsplit : v.toNat / 2 ^ (n - k) = v.toNat / 2 ^ (n - (k + 1)) / 2 := by
      rw [Nat.div_div_eq_div_mul, ← pow_succ]
      congr 2
      omega
    rw [List.range_succ, List.map_append, List.map_singleton, natOfBits_concat, ih (by omega), hbit, hsplit]
    omega

@[simp] theorem natOfBits_bitsOf {n : Nat} (v : BitVec n) : natOfBits (bitsOf v) = v.toNat := by
  rw [bitsOf, natOfBits_leading v (le_refl n)]
  simp

/-- A field read back from its bits spells them. -/
theorem bitsOf_natOfBits {n : Nat} {l : List Bool} (h : l.length = n) : bitsOf (BitVec.ofNat n (natOfBits l)) = l := by
  refine natOfBits_inj (by simp [h]) ?_
  rw [natOfBits_bitsOf, BitVec.toNat_ofNat, Nat.mod_eq_of_lt (h ▸ natOfBits_lt l)]

theorem ofNat_natOfBits_bitsOf {n : Nat} (v : BitVec n) : BitVec.ofNat n (natOfBits (bitsOf v)) = v := by simp

/-! ### Payload bytes -/

theorem flatMap_bitsOf_length (p : List Byte) : (p.flatMap bitsOf).length = 8 * p.length := by
  induction p with
  | nil => rfl
  | cons b bs ih => simp [ih]; omega

@[simp] theorem bytesOfBits_length (n : Nat) (l : List Bool) : (bytesOfBits n l).length = n := by
  induction n generalizing l with
  | zero => rfl
  | succ n ih => simp [bytesOfBits, ih]

theorem bytesOfBits_flatMap (p : List Byte) (l : List Bool) : bytesOfBits p.length (p.flatMap bitsOf ++ l) = p := by
  induction p with
  | nil => rfl
  | cons b bs ih =>
    simp only [List.length_cons, List.flatMap_cons, List.append_assoc, bytesOfBits]
    rw [List.take_left' (bitsOf_length b), List.drop_left' (bitsOf_length b), ih, ofNat_natOfBits_bitsOf]

theorem flatMap_bytesOfBits {n : Nat} {l : List Bool} (h : 8 * n ≤ l.length) :
    (bytesOfBits n l).flatMap bitsOf = l.take (8 * n) := by
  induction n generalizing l with
  | zero => simp [bytesOfBits]
  | succ n ih =>
    have hdrop : 8 * n ≤ (l.drop 8).length := by simp; omega
    simp only [bytesOfBits, List.flatMap_cons]
    rw [ih hdrop, bitsOf_natOfBits (by simp; omega), show 8 * (n + 1) = 8 + 8 * n by ring, List.take_add]

/-! ### The first difference of two numbers' bits -/

/-- Of two bit lists of one length the smaller number has the 0 at their first difference. -/
theorem first_difference {l m : List Bool} (hl : l.length = m.length) (h : natOfBits l < natOfBits m) :
    ∃ n, n < l.length ∧ l.take n = m.take n ∧ l[n]? = some false ∧ m[n]? = some true := by
  induction l generalizing m with
  | nil =>
    rw [List.length_eq_zero_iff.1 hl.symm] at h
    exact absurd h (lt_irrefl _)
  | cons b l ih =>
    cases m with
    | nil => simp at hl
    | cons c m =>
      have hlen : l.length = m.length := by simpa using hl
      have h1 := natOfBits_lt l
      have h2 := natOfBits_lt m
      rw [natOfBits_cons, natOfBits_cons, hlen] at h
      rw [hlen] at h1
      cases b with
      | false =>
        cases c with
        | true => exact ⟨0, by simp, rfl, rfl, rfl⟩
        | false =>
          obtain ⟨n, hn, ht, hl', hm⟩ := ih hlen (by simpa using h)
          exact ⟨n + 1, by simpa using hn, by simp [ht], by simpa using hl', by simpa using hm⟩
      | true =>
        cases c with
        | true =>
          obtain ⟨n, hn, ht, hl', hm⟩ := ih hlen (by simpa using h)
          exact ⟨n + 1, by simpa using hn, by simp [ht], by simpa using hl', by simpa using hm⟩
        | false => simp at h; omega

end Sys2Proof.Machine
end

section
/-! Frames and their bits (R22 to R25): sending and receiving agree, the arbitration field decides, one wrong bit is
found. -/

namespace Sys2Proof.Machine

/-- The twelve bits of the arbitration field. -/
def Frame.field (f : Frame) : List Bool := bitsOf f.cls ++ bitsOf f.kind ++ bitsOf f.source

/-- The bits after the arbitration field. -/
def Frame.body (f : Frame) : List Bool := bitsOf f.length ++ f.payload.flatMap bitsOf ++ bitsOf f.check

@[simp] theorem Frame.field_length (f : Frame) : f.field.length = 12 := by simp [Frame.field]

theorem Frame.bits_eq (f : Frame) : f.bits = false :: (f.field ++ f.body) := by
  simp [Frame.bits, Frame.covered, Frame.field, Frame.body]

theorem Frame.field_nat (f : Frame) : natOfBits f.field = f.arbitration := by
  simp only [Frame.field, natOfBits_append, natOfBits_bitsOf, bitsOf_length, Frame.arbitration]
  omega

theorem zipWith_and_self (l : List Bool) : List.zipWith (· && ·) l l = l := by
  induction l with
  | nil => rfl
  | cons b l ih => simp

/-- Settles O16: the first difference of the two arbitration fields is a 0 of the lower one, which the line carries. -/
theorem lowerArbitrationFieldWins : Obligations.LowerArbitrationFieldWins := by
  intro a b h
  rw [← Frame.field_nat, ← Frame.field_nat] at h
  obtain ⟨n, hn, htake, ha, hb⟩ := first_difference (by simp) h
  have hn' : n < 12 := by simpa using hn
  have at' : ∀ (f : Frame) (v : Bool), f.field[n]? = some v → f.bits[n + 1]? = some v := fun f v hv => by
    rw [Frame.bits_eq, List.getElem?_cons_succ, List.getElem?_append_left (by simpa using hn'), hv]
  have start : ∀ f : Frame, f.bits.take (n + 1) = false :: f.field.take n := fun f => by
    rw [Frame.bits_eq, List.take_succ_cons, List.take_append_of_le_length (by simp; omega)]
  have same : a.bits.take (n + 1) = b.bits.take (n + 1) := by rw [start, start, htake]
  have next : ∀ (f : Frame) (v : Bool), f.field[n]? = some v → f.bits.take (n + 1 + 1) = f.bits.take (n + 1) ++ [v] :=
    fun f v hv => by rw [List.take_add_one, at' f v hv]; rfl
  have read : List.zipWith (· && ·) (a.bits.take (n + 1 + 1)) (b.bits.take (n + 1 + 1)) =
      a.bits.take (n + 1) ++ [false] := by
    rw [next a _ ha, next b _ hb, ← same, List.zipWith_append rfl, zipWith_and_self]
    rfl
  have long : n + 1 + 1 < a.bits.length := by
    rw [Frame.bits_eq]
    simp [Frame.body]
    omega
  refine ⟨n + 1, by omega, by omega, same, by rw [at' a _ ha, at' b _ hb]; decide, ?_, ?_⟩
  · rw [read, ← next a _ ha]
    exact readBack_ongoing long
  · rw [read, same]
    exact readBack_lost (at' b _ hb) fun _ => by omega

/-! ### Assembling -/

/-- The length of a telegram says its payload. -/
def Frame.spelt (f : Frame) : Prop := f.length.toNat = f.payload.length

theorem Frame.bits_length (f : Frame) : f.bits.length = 24 + 8 * f.payload.length := by
  simp [Frame.bits_eq, Frame.body]
  omega

theorem drop_beyond {l a rest : List Bool} {m n : Nat} (h : l.drop m = a ++ rest) (ha : a.length = n) :
    l.drop (m + n) = rest := by rw [← List.drop_drop, h, List.drop_left' ha]

/-- A telegram whose length says its payload assembles from its bits (R23). -/
theorem assemble_bits {f : Frame} (h : f.spelt) : assemble f.bits = some f := by
  have shape : f.field ++ f.body = bitsOf f.cls ++ (bitsOf f.kind ++ (bitsOf f.source ++ (bitsOf f.length ++
      (f.payload.flatMap bitsOf ++ bitsOf f.check)))) := by simp [Frame.field, Frame.body]
  have d2 : (f.field ++ f.body).drop 2 = bitsOf f.kind ++ (bitsOf f.source ++ (bitsOf f.length ++
      (f.payload.flatMap bitsOf ++ bitsOf f.check))) := by rw [shape, List.drop_left' (by simp)]
  have d6 : (f.field ++ f.body).drop 6 = bitsOf f.source ++ (bitsOf f.length ++
      (f.payload.flatMap bitsOf ++ bitsOf f.check)) := drop_beyond d2 (bitsOf_length _)
  have d12 : (f.field ++ f.body).drop 12 = bitsOf f.length ++ (f.payload.flatMap bitsOf ++ bitsOf f.check) :=
    drop_beyond d6 (bitsOf_length _)
  have d15 : (f.field ++ f.body).drop 15 = f.payload.flatMap bitsOf ++ bitsOf f.check :=
    drop_beyond d12 (bitsOf_length _)
  have dcheck : (f.field ++ f.body).drop (15 + 8 * f.length.toNat) = bitsOf f.check :=
    drop_beyond d15 (by rw [flatMap_bitsOf_length, h])
  have hlen : natOfBits (((f.field ++ f.body).drop 12).take 3) = f.length.toNat := by
    rw [d12, List.take_left' (by simp), natOfBits_bitsOf]
  have total : (f.field ++ f.body).length = 15 + 8 * f.length.toNat + 8 := by
    have := f.bits_length
    rw [Frame.bits_eq, List.length_cons] at this
    rw [h]
    omega
  have t2 : (f.field ++ f.body).take 2 = bitsOf f.cls := by rw [shape, List.take_left' (bitsOf_length _)]
  rw [Frame.bits_eq]
  simp only [assemble]
  rw [hlen, if_pos total, t2, d2, d6, d15, dcheck, List.take_left' (bitsOf_length _),
    List.take_left' (bitsOf_length _), h, bytesOfBits_flatMap, ← h]
  simp

/-- A telegram spells the bits it was assembled from, and its length says its payload (R23). -/
theorem bits_of_assemble {bits : List Bool} {f : Frame} (h : assemble bits = some f) : f.bits = bits ∧ f.spelt := by
  unfold assemble at h
  split at h
  · rename_i rest
    dsimp only at h
    generalize hn : natOfBits ((rest.drop 12).take 3) = len at h
    split at h
    · rename_i hl
      obtain rfl := (Option.some.inj h).symm
      have h3 : len < 8 := by
        have := natOfBits_lt ((rest.drop 12).take 3)
        rw [hn, List.length_take, List.length_drop] at this
        exact this.trans_le (Nat.pow_le_pow_right (by omega) (by omega : _ ≤ 3))
      refine ⟨?_, ?_⟩
      · have lengthBits : bitsOf (BitVec.ofNat 3 len) = (rest.drop 12).take 3 := by
          rw [← hn, bitsOf_natOfBits (by simp; omega)]
        simp only [Frame.bits, Frame.covered]
        rw [bitsOf_natOfBits (by simp; omega), bitsOf_natOfBits (by simp; omega), bitsOf_natOfBits (by simp; omega),
          lengthBits, flatMap_bytesOfBits (by simp; omega), bitsOf_natOfBits (by simp; omega)]
        rw [show (false :: rest) = false :: (rest.take 2 ++ rest.drop 2) by simp]
        have cut : ∀ a b, (rest.drop a).take b ++ rest.drop (a + b) = rest.drop a := fun a b => by
          rw [← List.drop_drop, List.take_append_drop]
        simp only [List.append_assoc, List.cons_append]
        rw [cut, cut 12 3, cut 6 6, cut 2 4]
      · simp [Frame.spelt, Nat.mod_eq_of_lt h3]
    · cases h
  · cases h

theorem receive_iff (bits : List Bool) (f : Frame) :
    receive bits = some f ↔ assemble bits = some f ∧ f.passes = true := by
  unfold receive
  split
  · rename_i h
    simp [h]
  · rename_i g h
    by_cases hp : g.passes = true
    · simp only [hp, if_true, h, Option.some.injEq]
      exact ⟨fun e => ⟨e, e ▸ hp⟩, fun e => e.1⟩
    · simp only [hp, h, Option.some.injEq]
      exact ⟨fun e => by simp at e, fun e => absurd (e.1 ▸ e.2) hp⟩

theorem bits_of_receive {bits : List Bool} {f : Frame} (h : receive bits = some f) : f.bits = bits :=
  (bits_of_assemble ((receive_iff bits f).1 h).1).1

theorem Kind.ofCode_code (k : Kind) : Kind.ofCode k.code = some k := by cases k <;> rfl

theorem makeFrame_check (cls : Class) (k : Kind) (src : Nat) (p : List Byte) :
    (makeFrame cls k src p).check = crc (makeFrame cls k src p).covered := by
  unfold makeFrame
  dsimp only
  rfl

/-- A telegram made passes the tests of R24 and R25 when its payload is of its kind's length. -/
theorem makeFrame_passes {k : Kind} {p : List Byte} (h : p.length = k.payloadBytes) (cls : Class) (src : Nat) :
    (makeFrame cls k src p).passes = true := by
  have hcode : Kind.ofCode (makeFrame cls k src p).kind = some k := Kind.ofCode_code k
  unfold Frame.passes
  rw [hcode]
  have hcheck : (makeFrame cls k src p).check = crc (makeFrame cls k src p).covered := makeFrame_check cls k src p
  have hlen : (makeFrame cls k src p).length = BitVec.ofNat 3 k.payloadBytes := by rw [← h]; rfl
  simp only [hcheck, hlen, beq_self_eq_true, Bool.true_and]
  cases k <;> rfl

theorem makeFrame_spelt {k : Kind} {p : List Byte} (h : p.length = k.payloadBytes) (cls : Class) (src : Nat) :
    (makeFrame cls k src p).spelt := by
  show (BitVec.ofNat 3 p.length).toNat = p.length
  rw [h]
  cases k <;> rfl

/-- A telegram made is received as itself (R22 to R26). -/
theorem receive_makeFrame {k : Kind} {p : List Byte} (h : p.length = k.payloadBytes) (cls : Class) (src : Nat) :
    receive (makeFrame cls k src p).bits = some (makeFrame cls k src p) :=
  (receive_iff _ _).2 ⟨assemble_bits (makeFrame_spelt h cls src), makeFrame_passes h cls src⟩

/-! ### One wrong bit (O15) -/

/-- The lowest bit of the register of R24 after a covered bit tells whether the polynomial was taken. -/
theorem crcBit_lowest (reg : Byte) (b : Bool) : (crcBit reg b).getLsbD 0 = (reg.msb != b) := by
  unfold crcBit
  split
  · rename_i h
    rw [h, BitVec.getLsbD_xor]
    simp
  · rename_i h
    rw [(Bool.not_eq_true _).mp h]
    simp

theorem crcBit_flip (reg : Byte) (b : Bool) : crcBit reg (!b) ≠ crcBit reg b := by
  intro h
  have hlow := congrArg (BitVec.getLsbD · 0) h
  simp only [crcBit_lowest] at hlow
  cases reg.msb <;> cases b <;> simp at hlow

theorem shiftLeft_one_inj {x y : Byte} (hm : x.msb = y.msb) (h : x <<< 1 = y <<< 1) : x = y := by
  rw [BitVec.msb_eq_decide, BitVec.msb_eq_decide, decide_eq_decide] at hm
  have hn := congrArg BitVec.toNat h
  simp only [BitVec.toNat_shiftLeft, Nat.shiftLeft_eq] at hn
  refine BitVec.eq_of_toNat_eq ?_
  omega

theorem crcBit_inj {x y : Byte} {b : Bool} (h : crcBit x b = crcBit y b) : x = y := by
  have hlow := congrArg (BitVec.getLsbD · 0) h
  simp only [crcBit_lowest] at hlow
  have hm : x.msb = y.msb := by cases hx : x.msb <;> cases hy : y.msb <;> cases b <;> simp [hx, hy] at hlow ⊢
  unfold crcBit at h
  rw [hm] at h
  split at h
  · exact shiftLeft_one_inj hm ((BitVec.xor_left_inj _).1 h)
  · exact shiftLeft_one_inj hm h

/-- The register keeps a difference through further bits. -/
theorem foldl_crcBit_inj (l : List Bool) {x y : Byte} (h : l.foldl crcBit x = l.foldl crcBit y) : x = y := by
  induction l generalizing x y with
  | nil => exact h
  | cons b l ih => exact crcBit_inj (ih h)

theorem crc_flip (pre post : List Bool) (b : Bool) : crc (pre ++ (!b) :: post) ≠ crc (pre ++ b :: post) := by
  intro h
  simp only [crc, List.foldl_append, List.foldl_cons] at h
  exact crcBit_flip _ b (foldl_crcBit_inj post h)

theorem check_of_receive {bits : List Bool} {f : Frame} (h : receive bits = some f) :
    f.check = crc f.covered := by
  have hp := ((receive_iff bits f).1 h).2
  unfold Frame.passes at hp
  split at hp
  · cases hp
  · simp only [Bool.and_eq_true, beq_iff_eq] at hp
    exact hp.1.1

theorem bitsOf_inj {n : Nat} {v w : BitVec n} (h : bitsOf v = bitsOf w) : v = w := by
  rw [← ofNat_natOfBits_bitsOf v, h, ofNat_natOfBits_bitsOf]

/-- Settles O15: a bit inverted among the covered ones changes the register of R24 and not the check; one inverted in the
check changes the check and not the register; an inverted start pulse begins no telegram. -/
theorem oneWrongBitIsNeverReceived : Obligations.OneWrongBitIsNeverReceived := by
  intro pre post b f hf
  by_contra hne
  obtain ⟨g, hg⟩ := Option.ne_none_iff_exists'.1 hne
  have bf := bits_of_receive hf
  have bg := bits_of_receive hg
  have hlen : f.covered.length = g.covered.length := by
    have := congrArg List.length bf
    have := congrArg List.length bg
    simp only [Frame.bits, List.length_append, List.length_cons, bitsOf_length] at *
    omega
  cases pre with
  | nil =>
    simp only [Frame.bits, List.nil_append, List.cons_append, List.cons.injEq] at bf bg
    rw [← bf.1] at bg
    simp at bg
  | cons c pre =>
    simp only [Frame.bits, List.cons_append, List.cons.injEq] at bf bg
    rcases List.append_eq_append_iff.1 bf.2 with ⟨mid, hpre, hcheck⟩ | ⟨mid, hcov, hmid⟩
    · have hg' : g.covered ++ bitsOf g.check = f.covered ++ (mid ++ (!b) :: post) := by
        rw [bg.2, hpre, List.append_assoc]
      obtain ⟨hcov, hchk⟩ := List.append_inj hg' hlen.symm
      have same : f.check = g.check := by rw [check_of_receive hf, check_of_receive hg, hcov]
      rw [← same, hcheck] at hchk
      simp at hchk
    · cases mid with
      | nil =>
        simp only [List.append_nil, List.nil_append] at hcov hmid
        have hg' : g.covered ++ bitsOf g.check = f.covered ++ ((!b) :: post) := by rw [bg.2, hcov]
        obtain ⟨hcov', hchk⟩ := List.append_inj hg' hlen.symm
        have same : f.check = g.check := by rw [check_of_receive hf, check_of_receive hg, hcov']
        rw [← same, ← hmid] at hchk
        simp at hchk
      | cons d mid =>
        simp only [List.cons_append, List.cons.injEq] at hmid
        obtain ⟨rfl, hpost⟩ := hmid
        have hg' : g.covered ++ bitsOf g.check = (pre ++ (!b) :: mid) ++ bitsOf f.check := by
          rw [bg.2, hpost]; simp
        obtain ⟨hcov', hchk⟩ := List.append_inj hg' (by rw [← hlen, hcov]; simp)
        have same := bitsOf_inj hchk
        rw [check_of_receive hf, check_of_receive hg, hcov', hcov] at same
        exact crc_flip pre mid b same

end Sys2Proof.Machine
end

section
/-! The receive assembly hears a telegram (R22, R23), and the payloads byte by byte (Figures 2-6 to 2-9). -/

namespace Sys2Proof.Machine

/-! ### A telegram heard -/

/-- The edges of a telegram: the quiet before each, and its sample. -/
def edgesOf (gaps : List Nat) (bits : List Bool) : List LineEdge := List.zipWith (fun g b => LineEdge.mk g b) gaps bits

/-- Edges of a 1 before a start pulse begin nothing. -/
theorem hear_ones {before : List LineEdge} (h : ∀ e ∈ before, e.read = true) (q : Nat) :
    ∃ q', ∀ es, (Assembly.absent q).hear (before ++ es) = (Assembly.absent q').hear es := by
  induction before generalizing q with
  | nil => exact ⟨q, fun es => rfl⟩
  | cons e before ih =>
    obtain ⟨q', hq⟩ := ih (fun x hx => h x (List.mem_cons_of_mem _ hx)) 40
    exact ⟨q', fun es => by rw [List.cons_append, Assembly.hear_absent_one q (h e List.mem_cons_self), hq]⟩

section
variable {bits : List Bool} {gaps : List Nat} (hw : wholeBits bits = true) (h0 : bits[0]? = some false)
  (hl : gaps.length = bits.length) (hg : ∀ g ∈ gaps, g < 120)
include hw h0 hl hg

/-- Each beginning of a telegram is heard bit by bit. -/
theorem hear_beginning (q : Nat) {n : Nat} (hn : n < bits.length) :
    (Assembly.absent q).hear ((edgesOf gaps bits).take (n + 1)) = (.reading (bits.take (n + 1)) 40, []) := by
  have edge : ∀ i, ∀ (hi : i < bits.length), (edgesOf gaps bits)[i]? = some ⟨gaps[i]'(hl ▸ hi), bits[i]⟩ :=
    fun i hi => by rw [edgesOf, List.getElem?_zipWith, List.getElem?_eq_getElem (hl ▸ hi), List.getElem?_eq_getElem hi]
  induction n with
  | zero =>
    have hb : bits[0] = false := by simpa [List.getElem?_eq_getElem hn] using h0
    rw [List.take_add_one, List.take_add_one, edge 0 hn, List.getElem?_eq_getElem hn]
    simp only [List.take_zero, List.nil_append, Option.toList_some]
    rw [Assembly.hear_absent_zero q hb, Assembly.hear_nil, hb]
  | succ n ih =>
    have short : bits.take (n + 1) ≠ [] := by
      rw [ne_eq, List.take_eq_nil_iff, not_or]
      exact ⟨by omega, List.ne_nil_of_length_pos (by omega)⟩
    have inTime : 40 + gaps[n + 1]'(hl ▸ hn) < 160 := by
      have := hg _ (List.getElem_mem (hl ▸ hn))
      omega
    rw [List.take_add_one, edge (n + 1) hn, Assembly.hear_append, ih (by omega)]
    simp only [Option.toList_some]
    rw [Assembly.hear_reading_short short (wholeBits_take hw hn) (wholeEdges_take hw (by omega)) inTime]
    rw [Assembly.hear_nil, List.take_add_one (i := n + 1), List.getElem?_eq_getElem hn]
    rfl

/-- The whole telegram. -/
theorem hear_telegram (q : Nat) : (Assembly.absent q).hear (edgesOf gaps bits) = (.reading bits 40, []) := by
  have hpos : 0 < bits.length := by
    rw [List.length_pos_iff]
    rintro rfl
    simp at h0
  have heard := hear_beginning hw h0 hl hg q (n := bits.length - 1) (by omega)
  rwa [Nat.sub_add_cancel hpos, List.take_length, List.take_of_length_le (by simp [edgesOf, hl])] at heard

end

theorem lapse_whole_before {bits : List Bool} (h : wholeBits bits = true) {q : Nat} (hq : q < 200) :
    Assembly.lapse q (.reading bits 40) = (.reading bits (40 + q), none) := by
  simp [Assembly.lapse, Assembly.stopIn, h, Assembly.pass, Nat.not_le.2 hq]

theorem lapse_whole_after {bits : List Bool} (h : wholeBits bits = true) {q : Nat} (hq : 200 ≤ q) :
    Assembly.lapse q (.reading bits 40) = (.absent (min 320 (40 + q)), some bits) := by
  simp [Assembly.lapse, Assembly.stopIn, h, Assembly.rest, Assembly.quiet, Assembly.ended, hq]

theorem lapse_cut {bits : List Bool} (h : wholeBits bits = false) {q : Nat} (hq : 120 ≤ q) :
    Assembly.lapse q (.reading bits 40) = (.absent (min 320 (40 + q)), none) := by
  simp [Assembly.lapse, Assembly.stopIn, h, Assembly.rest, Assembly.quiet, Assembly.ended, hq]

/-- The edge that comes with the end of a telegram begins the next assembly. -/
theorem hear_after_end {bits : List Bool} (h : wholeBits bits = true) :
    (Assembly.reading bits 40).hear [⟨200, false⟩] = (.reading [false] 40, [bits]) := by
  simp [Assembly.hear, lapse_whole_after h (le_refl 200), Assembly.pass, Assembly.sample]

/-- A spoiled assembly stays so while the line is not quiet for 320 µs. -/
theorem hear_spoiled {after : List LineEdge} (h : ∀ x ∈ after, x.quiet < 280) :
    (Assembly.spoiled 40).hear after = (.spoiled 40, []) := by
  induction after with
  | nil => rfl
  | cons e after ih =>
    have hq : ¬280 ≤ e.quiet := Nat.not_le.2 (h e List.mem_cons_self)
    simp [Assembly.hear, Assembly.lapse, Assembly.stopIn, Assembly.pass, Assembly.sample, hq,
      ih fun x hx => h x (List.mem_cons_of_mem _ hx)]

/-- An edge before the end of a telegram spoils it. -/
theorem hear_early {bits : List Bool} (h : wholeBits bits = true) {e : LineEdge} {after : List LineEdge}
    (he : e.quiet < 200) (ha : ∀ x ∈ after, x.quiet < 280) :
    (Assembly.reading bits 40).hear (e :: after) = (.spoiled 40, []) := by
  simp [Assembly.hear, lapse_whole_before h he, Assembly.fall, wholeEdges_zero h, Assembly.pass, Assembly.sample,
    hear_spoiled ha]

/-! ### Payload bytes -/

theorem toNat_append_bits {m n : Nat} (x : BitVec m) (y : BitVec n) : (x ++ y).toNat = x.toNat * 2 ^ n + y.toNat := by
  rw [BitVec.toNat_append, ← Nat.shiftLeft_add_eq_or_of_lt y.isLt, Nat.shiftLeft_eq]

theorem toNat_bit (b : Bool) : (bit b).toNat = if b then 1 else 0 := by cases b <;> rfl

theorem ofNat_byte {n : Nat} {v : Byte} (h : v.toNat = n) : v = BitVec.ofNat 8 n := by rw [← h]; simp

/-- Two four-bit fields in a byte. -/
theorem nibbles {a b : Nat} (ha : a ≤ 15) (hb : b ≤ 15) :
    BitVec.ofNat 4 a ++ BitVec.ofNat 4 b = BitVec.ofNat 8 (16 * a + b) := by
  refine ofNat_byte ?_
  rw [toNat_append_bits, BitVec.toNat_ofNat, BitVec.toNat_ofNat]
  omega

theorem wordBytes_eq (n : Nat) : wordBytes n = [BitVec.ofNat 8 (n / 256), BitVec.ofNat 8 (n % 256)] := by
  have h : BitVec.ofNat 8 n = BitVec.ofNat 8 (n % 256) := BitVec.eq_of_toNat_eq (by simp)
  rw [wordBytes, h]

/-- The INTENT payload by bytes (Figure 2-6). -/
theorem intentPayload_bytes (level : Level) (dir : Dir) {weight group : Nat} (hw : weight ≤ 15) (hg : group ≤ 15) :
    intentPayload level dir weight group =
      [BitVec.ofNat 8 (64 * level.code.toNat + 32 * dir.code.toNat), BitVec.ofNat 8 (16 * weight + group)] := by
  rw [intentPayload, nibbles hw hg]
  congr 1
  cases level <;> cases dir <;> rfl

/-- The WITHDRAW payload by bytes (Figure 2-7). -/
theorem withdrawPayload_bytes {group : Nat} (hg : group ≤ 15) : withdrawPayload group = [BitVec.ofNat 8 group] := by
  have h := nibbles (Nat.zero_le 15) hg
  simpa [withdrawPayload] using h

/-- The STATE payload by bytes (Figure 2-8). -/
theorem statePayload_bytes {s : State} (hw : s.cfg.weight ≤ 15) (hg : s.cfg.group ≤ 15) (hr : s.drive.retry ≤ 15) :
    statePayload s =
      [BitVec.ofNat 8 (64 * (motion s).code.toNat + 16 * (actingCode (acting s)).toNat + (if suspect s then 8 else 0) +
          (if s.drive.state = .blocked then 4 else 0) + (if s.levels.serviceHold then 2 else 0) +
          (if s.supply.running then 1 else 0)),
        BitVec.ofNat 8 (16 * s.cfg.weight + s.cfg.group),
        BitVec.ofNat 8 (position s / 256), BitVec.ofNat 8 (position s % 256),
        BitVec.ofNat 8 ((if s.levels.storm = .armed then 128 else 0) + (if s.levels.rain = .armed then 64 else 0) +
          (if s.levels.demand = .armed then 32 else 0) + s.drive.retry)] := by
  have first : (motion s).code ++ actingCode (acting s) ++ bit (suspect s) ++ bit (s.drive.state == .blocked) ++
      bit s.levels.serviceHold ++ bit s.supply.running = BitVec.ofNat 8 (64 * (motion s).code.toNat +
        16 * (actingCode (acting s)).toNat + (if suspect s then 8 else 0) +
        (if s.drive.state = .blocked then 4 else 0) + (if s.levels.serviceHold then 2 else 0) +
        (if s.supply.running then 1 else 0)) := by
    refine ofNat_byte ?_
    simp only [toNat_append_bits, toNat_bit, beq_iff_eq]
    split_ifs <;> omega
  have last : bit (s.levels.storm == .armed) ++ bit (s.levels.rain == .armed) ++ bit (s.levels.demand == .armed) ++
      0#1 ++ BitVec.ofNat 4 s.drive.retry = BitVec.ofNat 8 ((if s.levels.storm = .armed then 128 else 0) +
        (if s.levels.rain = .armed then 64 else 0) + (if s.levels.demand = .armed then 32 else 0) +
        s.drive.retry) := by
    refine ofNat_byte ?_
    simp only [toNat_append_bits, toNat_bit, beq_iff_eq, BitVec.toNat_ofNat]
    split_ifs <;> omega
  unfold statePayload
  rw [first, last, nibbles hw hg, wordBytes_eq]
  rfl

/-- The OBSERVE payload by bytes (Figure 2-9). -/
theorem observePayload_bytes {s : State} (hf : s.cfg.facade ≤ 15) (hd : ∀ d ∈ s.sensor.direction, d ≤ 15) :
    observePayload s =
      [BitVec.ofNat 8 (64 * s.sensor.wet.code.toNat + (if s.cfg.skylight then 32 else 0) +
          (if s.cfg.windFitted then 16 else 0) + s.cfg.facade),
        BitVec.ofNat 8 (64 * s.weather.anem.code.toNat + (if s.cfg.wetFitted then 32 else 0) +
          (match s.sensor.direction with | none => 0 | some d => 16 + d)),
        BitVec.ofNat 8 (s.sensor.mean / 256), BitVec.ofNat 8 (s.sensor.mean % 256),
        BitVec.ofNat 8 (s.sensor.gust / 256), BitVec.ofNat 8 (s.sensor.gust % 256)] := by
  have first : s.sensor.wet.code ++ bit s.cfg.skylight ++ bit s.cfg.windFitted ++ BitVec.ofNat 4 s.cfg.facade =
      BitVec.ofNat 8 (64 * s.sensor.wet.code.toNat + (if s.cfg.skylight then 32 else 0) +
        (if s.cfg.windFitted then 16 else 0) + s.cfg.facade) := by
    refine ofNat_byte ?_
    simp only [toNat_append_bits, toNat_bit, BitVec.toNat_ofNat]
    split_ifs <;> omega
  have second : s.weather.anem.code ++ bit s.cfg.wetFitted ++ bit s.sensor.direction.isSome ++
      BitVec.ofNat 4 (s.sensor.direction.getD 0) = BitVec.ofNat 8 (64 * s.weather.anem.code.toNat +
        (if s.cfg.wetFitted then 32 else 0) + (match s.sensor.direction with | none => 0 | some d => 16 + d)) := by
    refine ofNat_byte ?_
    simp only [toNat_append_bits, toNat_bit, BitVec.toNat_ofNat]
    cases hdir : s.sensor.direction with
    | none =>
      simp only [Option.isSome_none, Option.getD_none, Bool.false_eq_true, if_false]
      split_ifs <;> omega
    | some d =>
      have := hd d hdir
      simp only [Option.isSome_some, Option.getD_some, if_true]
      split_ifs <;> omega
  unfold observePayload
  dsimp only
  rw [first, second, wordBytes_eq, wordBytes_eq]
  rfl

/-! ### Sending and receiving agree (O14) -/

/-- A telegram received begins with its start pulse. -/
theorem receive_start {bits : List Bool} {f : Frame} (h : receive bits = some f) : bits[0]? = some false := by
  rw [← bits_of_receive h, Frame.bits_eq]
  rfl

/-- The receive assembly takes a telegram from its edges (R22, R23). -/
theorem telegram_heard {bits : List Bool} {f : Frame} {before : List LineEdge} {gaps : List Nat}
    (hf : receive bits = some f) (hb : ∀ e ∈ before, e.read = true) (hl : gaps.length = bits.length)
    (hg : ∀ g ∈ gaps, g < 120) (after : List LineEdge) :
    (∀ q, (Assembly.absent q).hear (before ++ edgesOf gaps bits) = (.reading bits 40, [])) ∧
    (∀ q, q < 200 → Assembly.lapse q (.reading bits 40) = (.reading bits (40 + q), none)) ∧
    (∀ q, 200 ≤ q → Assembly.lapse q (.reading bits 40) = (.absent (min 320 (40 + q)), some bits)) ∧
    (∀ n q, 1 ≤ n → n < bits.length → 120 ≤ q →
      ((Assembly.absent 0).hear (before ++ (edgesOf gaps bits).take n)).1.lapse q =
        (.absent (min 320 (40 + q)), none)) ∧
    (Assembly.absent 0).hear (before ++ edgesOf gaps bits ++ [⟨200, false⟩]) = (.reading [false] 40, [bits]) ∧
    (∀ e, e.quiet < 200 → (∀ x ∈ after, x.quiet < 280) →
      (Assembly.absent 0).hear (before ++ edgesOf gaps bits ++ e :: after) = (.spoiled 40, []) ∧
      Assembly.lapse 280 (.spoiled 40) = (.absent 320, none)) := by
  have hw := wholeBits_of_receive hf
  have heard : ∀ q, (Assembly.absent q).hear (before ++ edgesOf gaps bits) = (.reading bits 40, []) := fun q => by
    obtain ⟨q', hq⟩ := hear_ones hb q
    rw [hq, hear_telegram hw (receive_start hf) hl hg]
  refine ⟨heard, fun q => lapse_whole_before hw, fun q => lapse_whole_after hw, fun n q h1 hn hq => ?_, ?_,
    fun e he ha => ⟨?_, rfl⟩⟩
  · obtain ⟨q', hq'⟩ := hear_ones hb 0
    obtain ⟨m, rfl⟩ : ∃ m, n = m + 1 := ⟨n - 1, by omega⟩
    rw [hq', hear_beginning hw (receive_start hf) hl hg q' (by omega)]
    exact lapse_cut (wholeBits_take hw hn) hq
  · rw [Assembly.hear_append, heard, hear_after_end hw]
    rfl
  · rw [Assembly.hear_append, heard, hear_early hw he ha]
    rfl

/-- Settles O14. -/
theorem sendingAndReceivingAgree : Obligations.SendingAndReceivingAgree := by
  refine ⟨fun cls k src p h => receive_makeFrame h cls src, fun bits f => bits_of_receive,
    fun bits f before after gaps hf hb hl hg => telegram_heard hf hb hl hg after,
    fun level dir weight group hw hg => ⟨?_, withdrawPayload_bytes hg⟩, fun s hw hg hr => ?_, fun s hf hd => ?_⟩
  · rw [intentPayload_bytes level dir hw hg]
    cases level <;> cases dir <;> rfl
  · have moves : (motion s).code.toNat = match s.drive.state with
        | .backoff => 2
        | .ramp | .travel | .approach | .seating => (match s.drive.dir with
          | some .closing => 1
          | some .opening => 2
          | none => 0)
        | _ => 0 := by
      unfold motion
      cases s.drive.state <;> try rfl
      all_goals
        rcases s.drive.dir with _ | d
        · rfl
        · cases d <;> rfl
    have level : (actingCode (acting s)).toNat = match acting s with
        | none => 0
        | some .storm => 1
        | some .rain => 2
        | some .demand => 3 := by
      rcases acting s with _ | l
      · rfl
      · cases l <;> rfl
    have bytes := statePayload_bytes hw hg hr
    rw [moves, level] at bytes
    exact bytes
  · have wet : s.sensor.wet.code.toNat = match s.sensor.wet with
        | .dry => 0
        | .damp => 1
        | .wet => 2
        | .fault => 3 := by cases s.sensor.wet <;> rfl
    have anem : s.weather.anem.code.toNat = match s.weather.anem with
        | .absent => 0
        | .ok => 1
        | .stuck => 2 := by cases s.weather.anem <;> rfl
    have bytes := observePayload_bytes hf hd
    rw [wet, anem] at bytes
    exact bytes

end Sys2Proof.Machine
end

section
/-! The clock and the line (R21, R22, R27): which event comes next, when a transmission begins, and how its bits go. -/

namespace Sys2Proof.Machine

/-! ### The next event -/

/-- An event of the line comes in so many µs. -/
def Awaits (s : State) (u : Nat) : LineEvent → Prop
  | .stop => stopIn s = some u
  | .sample => sampleIn s = some u
  | .begin => ownBitIn s = some u ∨ pulseIn s = some u

theorem earlier_none_iff {a b : Option (Nat × LineEvent)} : earlier a b = none ↔ a = none ∧ b = none := by
  cases a with
  | none => simp [earlier]
  | some a => cases b with
    | none => simp [earlier]
    | some b => simp only [earlier]; split <;> simp

/-- The earlier of two events, the first of two at one µs. -/
theorem earlier_some_iff {a b : Option (Nat × LineEvent)} {c : Nat × LineEvent} : earlier a b = some c ↔
    (a = some c ∧ ∀ x, b = some x → c.1 ≤ x.1) ∨ (b = some c ∧ ∀ x, a = some x → c.1 < x.1) := by
  cases a with
  | none => simp [earlier]
  | some a => cases b with
    | none => simp [earlier]
    | some b =>
      simp only [earlier]
      split
      · rename_i h
        simp only [Option.some.injEq]
        constructor
        · rintro rfl; exact .inr ⟨rfl, fun x hx => hx ▸ h⟩
        · rintro (⟨rfl, k⟩ | ⟨rfl, -⟩)
          · have := k b rfl; omega
          · rfl
      · rename_i h
        simp only [Option.some.injEq]
        constructor
        · rintro rfl; exact .inl ⟨rfl, fun x hx => hx ▸ Nat.not_lt.1 h⟩
        · rintro (⟨rfl, -⟩ | ⟨rfl, k⟩)
          · rfl
          · exact absurd (k a rfl) h

theorem nextEvent_none_iff (s : State) : nextEvent s = none ↔ ∀ u e, ¬Awaits s u e := by
  have none_iff : ∀ o : Option Nat, o = none ↔ ∀ u, o ≠ some u := fun o => by
    cases o <;> simp
  simp only [nextEvent, earlier_none_iff, Option.map_eq_none_iff, none_iff]
  constructor
  · rintro ⟨h1, h2, h3, h4⟩ u e
    cases e with
    | stop => exact h1 u
    | sample => exact h2 u
    | begin => exact not_or.2 ⟨h3 u, h4 u⟩
  · exact fun h => ⟨fun u => h u .stop, fun u => h u .sample, fun u hu => h u .begin (.inl hu),
      fun u hu => h u .begin (.inr hu)⟩

theorem earlier_reaches {a b : Option (Nat × LineEvent)} {x : Nat × LineEvent} (h : a = some x ∨ b = some x) :
    ∃ y, earlier a b = some y ∧ y.1 ≤ x.1 := by
  cases he : earlier a b with
  | none =>
    obtain ⟨rfl, rfl⟩ := earlier_none_iff.1 he
    simp at h
  | some y =>
    obtain ⟨-, first, second⟩ := earlier_spec he
    exact ⟨y, rfl, h.elim (first x) (second x)⟩

/-- No event is awaited sooner than the next. -/
theorem nextEvent_reaches {s : State} {v : Nat} {x : LineEvent} (h : Awaits s v x) :
    ∃ y, nextEvent s = some y ∧ y.1 ≤ v := by
  have further : ∀ {a b : Option (Nat × LineEvent)}, (∃ y, b = some y ∧ y.1 ≤ v) →
      ∃ y, earlier a b = some y ∧ y.1 ≤ v := by
    rintro a b ⟨y, hy, hv⟩
    obtain ⟨z, hz, hzy⟩ := earlier_reaches (a := a) (.inr hy)
    exact ⟨z, hz, hzy.trans hv⟩
  have named : ∀ {o : Option Nat} {e : LineEvent}, o = some v → o.map (·, e) = some (v, e) := by
    rintro o e rfl
    rfl
  cases x with
  | stop => exact earlier_reaches (.inl (named h))
  | sample => exact further (earlier_reaches (.inl (named h)))
  | begin => exact further (further (earlier_reaches (h.imp named named)))

/-- The next event is awaited, none is awaited sooner, and of two at one µs it is the first. -/
theorem nextEvent_some {s : State} {u : Nat} {e : LineEvent} (h : nextEvent s = some (u, e)) :
    Awaits s u e ∧ (∀ v x, Awaits s v x → u ≤ v) ∧ (e ≠ .stop → ¬Awaits s u .stop) ∧
    (e = .begin → ¬Awaits s u .sample) := by
  have least : ∀ v x, Awaits s v x → u ≤ v := fun v x hx => by
    obtain ⟨y, hy, hv⟩ := nextEvent_reaches hx
    cases h.symm.trans hy
    exact hv
  have event : ∀ {o : Option Nat} {x : LineEvent}, o.map (·, x) = some (u, e) → o = some u ∧ x = e := fun ho => by
    obtain ⟨w, hw, heq⟩ := Option.map_eq_some_iff.1 ho
    cases heq
    exact ⟨hw, rfl⟩
  unfold nextEvent at h
  rcases earlier_some_iff.1 h with ⟨stop, -⟩ | ⟨rest, stopLater⟩
  · obtain ⟨hu, rfl⟩ := event stop
    exact ⟨hu, least, fun hne => absurd rfl hne, nofun⟩
  have noStop : ¬Awaits s u .stop := fun hx =>
    lt_irrefl u (stopLater (u, .stop) (by rw [show stopIn s = some u from hx]; rfl))
  rcases earlier_some_iff.1 rest with ⟨sample, -⟩ | ⟨begins, sampleLater⟩
  · obtain ⟨hu, rfl⟩ := event sample
    exact ⟨hu, least, fun _ => noStop, nofun⟩
  have noSample : ¬Awaits s u .sample := fun hx =>
    lt_irrefl u (sampleLater (u, .sample) (by rw [show sampleIn s = some u from hx]; rfl))
  rcases earlier_some_iff.1 begins with ⟨own, -⟩ | ⟨pulse, -⟩
  · obtain ⟨hu, rfl⟩ := event own
    exact ⟨.inl hu, least, fun _ => noStop, fun _ => noSample⟩
  · obtain ⟨hu, rfl⟩ := event pulse
    exact ⟨.inr hu, least, fun _ => noStop, fun _ => noSample⟩

/-- An event that is awaited, none sooner, and the first of its µs is the next. -/
theorem nextEvent_eq {s : State} {u : Nat} {e : LineEvent} (h : Awaits s u e) (hmin : ∀ v x, Awaits s v x → u ≤ v)
    (hstop : e ≠ .stop → ¬Awaits s u .stop) (hsample : e = .begin → ¬Awaits s u .sample) :
    nextEvent s = some (u, e) := by
  cases hn : nextEvent s with
  | none => exact absurd h ((nextEvent_none_iff s).1 hn u e)
  | some c =>
    obtain ⟨v, x⟩ := c
    obtain ⟨hx, xmin, xstop, xsample⟩ := nextEvent_some hn
    obtain rfl : v = u := le_antisymm (xmin u e h) (hmin v x hx)
    have same : x = e := by
      cases e with
      | stop => cases x with
        | stop => rfl
        | sample | begin => exact absurd h (xstop (by simp))
      | sample => cases x with
        | sample => rfl
        | stop => exact absurd hx (hstop (by simp))
        | begin => exact absurd h (xsample rfl)
      | begin => cases x with
        | begin => rfl
        | stop => exact absurd hx (hstop (by simp))
        | sample => exact absurd hx (hsample rfl)
    rw [same]

theorem awaits_sample_iff (s : State) (u : Nat) :
    Awaits s u .sample ↔ ∃ old, s.line.samples.head? = some old ∧ u = 40 - old := by
  simp [Awaits, sampleIn, eq_comm]

theorem awaits_begin_iff (s : State) (u : Nat) : Awaits s u .begin ↔
    (s.line.nextBit.isSome = true ∧ u = 80 - s.line.assembly.quiet) ∨
      ∃ p, s.lineFeed.pulses.head? = some p ∧ u = p.wait := by
  refine or_congr ?_ ?_
  · unfold ownBitIn
    cases s.line.nextBit <;> simp [eq_comm]
  · simp [pulseIn, eq_comm]

/-! ### The idle line (R22, R27) -/

theorem lineIdle_iff (s : State) :
    lineIdle s = true ↔ s.line.assembly.quietLong = true ∧ s.line.driven = 0 ∧ s.lineFeed.held = 0 := by
  simp [lineIdle, lineDominant]

/-- After an edge and its sample, nothing older than that edge is left in the time since the last. -/
theorem Assembly.heard_edge (a : Assembly) : ∀ (edges : List LineEdge) (e : LineEdge),
    (a.hear (edges ++ [e])).1 = .absent 40 ∨ (∃ bits, (a.hear (edges ++ [e])).1 = .reading bits 40) ∨
      (a.hear (edges ++ [e])).1 = .spoiled 40 := by
  have fallen : ∀ b : Assembly, (∃ bits, b.fall 0 = .reading bits 0) ∨ b.fall 0 = .spoiled 0 := by
    intro b
    cases b with
    | absent q => exact .inl ⟨[], rfl⟩
    | reading bits q =>
      by_cases h : wholeEdges bits 0 = true
      · exact .inr (if_pos h)
      · exact .inl ⟨bits, if_neg h⟩
    | spoiled q => exact .inr rfl
  intro edges e
  have last : (a.hear (edges ++ [e])).1 = ((((a.hear edges).1.lapse e.quiet).1.fall 0).pass 40).sample e.read := by
    rw [Assembly.hear_append]
    rfl
  rw [last]
  rcases fallen ((a.hear edges).1.lapse e.quiet).1 with ⟨bits, hf⟩ | hf
  · by_cases h : (bits.isEmpty && e.read) = true
    · exact .inl (by rw [hf]; exact if_pos h)
    · exact .inr (.inl ⟨bits ++ [e.read], by rw [hf]; exact if_neg h⟩)
  · exact .inr (.inr (by rw [hf]; rfl))

/-- 320 µs after its last edge an assembly is quiet for long, and no sooner (R22). -/
theorem Assembly.quietLong_after_edge (a : Assembly) (edges : List LineEdge) (e : LineEdge) (q : Nat) :
    (((a.hear (edges ++ [e])).1.lapse q).1.quietLong = true ↔ 280 ≤ q) := by
  rcases Assembly.heard_edge a edges e with h | ⟨bits, h⟩ | h <;> rw [h]
  · rw [Assembly.lapse_absent, Assembly.quietLong_rest, decide_eq_true_eq]
    omega
  · have stop : ∃ u, u ≤ 200 ∧ (Assembly.reading bits 40).stopIn = some u := by
      simp only [Assembly.stopIn]
      split <;> exact ⟨_, by omega, rfl⟩
    obtain ⟨u, hu, hs⟩ := stop
    unfold Assembly.lapse
    rw [hs]
    dsimp only
    split
    · rw [Assembly.quietLong_rest, decide_eq_true_eq, Assembly.quiet]
      omega
    · simp only [Assembly.pass, Assembly.quietLong, Bool.false_eq_true, false_iff]
      omega
  · unfold Assembly.lapse Assembly.stopIn
    dsimp only
    split
    · rw [Assembly.quietLong_rest, decide_eq_true_eq, Assembly.quiet]
      omega
    · simp only [Assembly.pass, Assembly.quietLong, Bool.false_eq_true, false_iff]
      omega

theorem hasToSend_head {s : State} {e : Queued} {rest : List Queued} (hf : s.line.inFlight = none)
    (hq : s.line.queue = e :: rest) (hr : refusesPlacement e.kind s = false) : hasToSend s = true := by
  simp [hasToSend, hf, hq, hr]

theorem hasToSend_flying {s : State} (h : s.line.inFlight.isSome = true) : hasToSend s = false := by
  obtain ⟨f, hf⟩ := Option.isSome_iff_exists.1 h
  simp [hasToSend, hf]

/-- A node in transmission begins no other. -/
theorem mayTransmit_flying {s : State} (h : s.line.inFlight.isSome = true) : mayTransmit s = false := by
  rw [mayTransmit, hasToSend_flying h, Bool.and_false]

/-- What keeps a transmission from beginning (R27, R35). -/
theorem mayTransmit_not {s : State} (h : lineIdle s = false ∨ s.line.inFlight.isSome = true ∨
    s.line.queue = [] ∨ ∃ e ∈ s.line.queue.head?, refusesPlacement e.kind s = true) : mayTransmit s = false := by
  rcases h with h | h | h | ⟨e, he, hr⟩
  · simp [mayTransmit, h]
  · exact mayTransmit_flying h
  · cases hf : s.line.inFlight <;> simp [mayTransmit, hasToSend, h, hf]
  · cases hf : s.line.inFlight with
    | some f => exact mayTransmit_flying (by simp [hf])
    | none =>
      cases hq : s.line.queue with
      | nil => simp [hq] at he
      | cons x xs =>
        obtain rfl : x = e := by simpa [hq] using he
        simp [mayTransmit, hasToSend, hf, hq, hr]

theorem restartReady_not {s : State} (h : s.drive.controlledStop = false) : restartReady s = false := by
  simp [restartReady, h]

/-- A telegram that waits finds the line idle at the instant it becomes so, and nothing comes before (R22, R27). -/
theorem nextEvent_idle {s : State} {q : Nat} (hsend : hasToSend s = true) (ha : s.line.assembly = .absent q)
    (hs : s.line.samples = []) (hf : s.line.inFlight = none)
    (hp : ∀ p ∈ s.lineFeed.pulses.head?, max (320 - q) (max s.line.driven s.lineFeed.held) ≤ p.wait) :
    nextEvent s = some (max (320 - q) (max s.line.driven s.lineFeed.held), .stop) := by
  have stop : stopIn s = some (max (320 - q) (max s.line.driven s.lineFeed.held)) := by simp [stopIn, ha, hsend]
  refine nextEvent_eq stop (fun v x hx => ?_) (fun h => absurd rfl h) (fun h => nomatch h)
  cases x with
  | stop => exact (Option.some.inj (stop.symm.trans hx)).le
  | sample =>
    obtain ⟨old, ho, -⟩ := (awaits_sample_iff s v).1 hx
    simp [hs] at ho
  | begin =>
    rcases (awaits_begin_iff s v).1 hx with ⟨hb, -⟩ | ⟨p, hpp, rfl⟩
    · simp [Line.nextBit, hf] at hb
    · exact hp p hpp

/-- The line becomes idle: the counters stand at their ends, and nothing ends with them. -/
theorem becomes_idle {s : State} {q u : Nat} (hp : s.pending = []) (ha : s.line.assembly = .absent q)
    (hs : s.line.samples = []) (hq : 320 - q ≤ u) (hd : s.line.driven ≤ u) (hh : s.lineFeed.held ≤ u) :
    happen .stop (passTime u s) = { s with
      line := { s.line with assembly := .absent 320, driven := 0 }
      lineFeed := ⟨s.lineFeed.left - u, 0, sooner u s.lineFeed.pulses⟩ } := by
  have quiet : (Assembly.absent q).pass u = .absent 320 := by
    simp only [Assembly.pass, Assembly.rest, Assembly.absent.injEq]
    omega
  have line : (passTime u s).line = { s.line with assembly := .absent 320, driven := 0 } := by
    show s.line.pass u = _
    unfold Line.pass
    rw [ha, quiet, Nat.sub_eq_zero_of_le hd]
    congr 1
    rw [hs]
    rfl
  show endAssembly (passTime u s) = _
  rw [endAssembly_eq, line, passTime_eq, Nat.sub_eq_zero_of_le hh]
  congr 1
  exact hp.symm

/-- Settles O17. -/
theorem transmissionBeginsWithTheQueueHead : Obligations.TransmissionBeginsWithTheQueueHead := by
  refine ⟨Assembly.quietLong_after_edge, lineIdle_iff, fun s e rest hr hf hq hi hk => ?_, fun s hr h => ?_,
    fun s e rest hp hpend hserved hc hf hq hk => ⟨fun hi => ?_, fun q ha hs => ?_⟩, fun s => ?_⟩
  · have may : mayTransmit s = true := by rw [mayTransmit, hi, hasToSend_head hf hq hk]; rfl
    exact congrArg _ (live_line hr (startTransmission_eq hq may))
  · exact congrArg _ (live_quiet hr (startTransmission_not (mayTransmit_not h)) rfl rfl rfl rfl)
  · have may : mayTransmit s = true := by rw [mayTransmit, hi, hasToSend_head hf hq hk]; rfl
    rw [step_clock hpend, tick_transmits hp hserved (restartReady_not hc) may]
    rfl
  · intro u hu hleft hpulse
    have notIdle : lineIdle s = false := by
      rw [← Bool.not_eq_true, lineIdle_iff, ha]
      simp only [Assembly.quietLong, decide_eq_true_eq]
      omega
    rw [step_happens hpend hp hserved (restartReady_not hc) (mayTransmit_not (.inl notIdle))
      (nextEvent_idle (hasToSend_head hf hq hk) ha hs hf hpulse) hleft]
    exact congrArg _ (becomes_idle hpend ha hs (by omega) (by omega) (by omega))
  · intro dueIn
    have same : ∀ u e, dueIn u e ↔ Awaits s u e := by
      intro u e
      cases e with
      | stop => exact Iff.rfl
      | sample => exact (awaits_sample_iff s u).symm
      | begin => exact (awaits_begin_iff s u).symm
    simp only [same]
    exact ⟨nextEvent_none_iff s, fun u e => nextEvent_some⟩

/-! ### The bits of a transmission (R21, R22) -/

/-- The stop of an assembly that is not whole is 160 µs after its last edge (R23). -/
theorem stopIn_reading {s : State} {bits : List Bool} {q : Nat} (ha : s.line.assembly = .reading bits q)
    (hw : wholeBits bits = false) : stopIn s = some (160 - q) := by
  simp [stopIn, ha, Assembly.stopIn, hw]

theorem wholeBits_of_edges {bits : List Bool} (h : wholeEdges bits 0 = false) : wholeBits bits = false := by
  rw [← Bool.not_eq_true]
  exact fun hw => by simp [wholeEdges_zero hw] at h

section
variable {s : State} {f : InFlight} {bits : List Bool} {q : Nat} (hf : s.line.inFlight = some f)
  (ha : s.line.assembly = .reading bits q)
include hf ha

omit ha in
theorem nextBit_unsampled (hs : s.line.samples = []) : s.line.nextBit = f.frame.bits[f.read.length]? := by
  simp [Line.nextBit, hf, hs]

omit hf in
/-- What is awaited of a transmission between a sample and its next bit. -/
theorem awaits_unsampled (hs : s.line.samples = []) (hw : wholeBits bits = false) {v : Nat} {x : LineEvent}
    (hx : Awaits s v x) : (x = .stop ∧ v = 160 - q) ∨ (x = .begin ∧ (v = 80 - q ∨
      ∃ p ∈ s.lineFeed.pulses.head?, v = p.wait)) := by
  cases x with
  | stop => exact .inl ⟨rfl, (Option.some.inj ((stopIn_reading ha hw).symm.trans hx)).symm⟩
  | sample =>
    obtain ⟨old, ho, -⟩ := (awaits_sample_iff s v).1 hx
    simp [hs] at ho
  | begin =>
    rcases (awaits_begin_iff s v).1 hx with ⟨-, hv⟩ | ⟨p, hp, hv⟩
    · exact .inr ⟨rfl, .inl (by rw [hv, ha]; rfl)⟩
    · exact .inr ⟨rfl, .inr ⟨p, hp, hv⟩⟩

/-- The node's own next bit comes 80 µs after the last edge where no pulse comes before (R21). -/
theorem nextEvent_ownBit (hs : s.line.samples = []) (hw : wholeBits bits = false) (hq : q < 80)
    (hb : (f.frame.bits[f.read.length]?).isSome = true) (hp : ∀ p ∈ s.lineFeed.pulses.head?, 80 - q ≤ p.wait) :
    nextEvent s = some (80 - q, .begin) := by
  have own : Awaits s (80 - q) .begin :=
    (awaits_begin_iff s _).2 (.inl ⟨by rw [nextBit_unsampled hf hs]; exact hb, by rw [ha]; rfl⟩)
  refine nextEvent_eq own (fun v x hx => ?_) (fun _ hx => ?_) (fun _ hx => ?_)
  · rcases awaits_unsampled ha hs hw hx with ⟨-, hv⟩ | ⟨-, hv | ⟨p, hpp, hv⟩⟩
    · omega
    · omega
    · exact hv ▸ hp p hpp
  · rcases awaits_unsampled ha hs hw hx with ⟨-, hv⟩ | ⟨h, -⟩
    · omega
    · cases h
  · rcases awaits_unsampled ha hs hw hx with ⟨h, -⟩ | ⟨h, -⟩ <;> cases h

omit hf in
/-- A pulse of another station that comes before the node's own next bit. -/
theorem nextEvent_pulse (hs : s.line.samples = []) (hw : wholeBits bits = false) {p : Pulse} {ps : List Pulse}
    (hp : s.lineFeed.pulses = p :: ps) (hq : q + p.wait < 80) : nextEvent s = some (p.wait, .begin) := by
  have pulse : Awaits s p.wait .begin := (awaits_begin_iff s _).2 (.inr ⟨p, by simp [hp], rfl⟩)
  refine nextEvent_eq pulse (fun v x hx => ?_) (fun _ hx => ?_) (fun _ hx => ?_)
  · rcases awaits_unsampled ha hs hw hx with ⟨-, hv⟩ | ⟨-, hv | ⟨p', hpp, hv⟩⟩
    · omega
    · omega
    · obtain rfl : p = p' := by simpa [hp] using hpp
      exact hv.ge
  · rcases awaits_unsampled ha hs hw hx with ⟨-, hv⟩ | ⟨h, -⟩
    · omega
    · cases h
  · rcases awaits_unsampled ha hs hw hx with ⟨h, -⟩ | ⟨h, -⟩ <;> cases h

omit hf in
/-- The sample of the only edge not yet sampled, where no pulse comes before it (R22). -/
theorem nextEvent_sample (hs : s.line.samples = [q]) (hw : wholeBits bits = false) (hq : q ≤ 40)
    (hp : ∀ p ∈ s.lineFeed.pulses.head?, 40 - q ≤ p.wait) : nextEvent s = some (40 - q, .sample) := by
  have sample : Awaits s (40 - q) .sample := (awaits_sample_iff s _).2 ⟨q, by simp [hs], rfl⟩
  refine nextEvent_eq sample (fun v x hx => ?_) (fun _ hx => ?_) (fun h => nomatch h)
  · cases x with
    | stop =>
      have : 160 - q = v := Option.some.inj ((stopIn_reading ha hw).symm.trans hx)
      omega
    | sample =>
      obtain ⟨old, ho, rfl⟩ := (awaits_sample_iff s v).1 hx
      obtain rfl : q = old := by simpa [hs] using ho
      exact le_refl _
    | begin =>
      rcases (awaits_begin_iff s v).1 hx with ⟨-, hv⟩ | ⟨p, hpp, hv⟩
      · rw [ha] at hv
        simp only [Assembly.quiet] at hv
        omega
      · exact hv ▸ hp p hpp
  · have : 160 - q = 40 - q := Option.some.inj ((stopIn_reading ha hw).symm.trans hx)
    omega

/-- The line after a fall in a transmission: the next bit is begun and its edge is to be sampled. -/
theorem fall_transmits (hs : s.line.samples = []) (he : wholeEdges bits 0 = false) {sent : Bool}
    (hb : f.frame.bits[f.read.length]? = some sent) (u : Nat) : (s.line.pass u).fall =
      { s.line with assembly := .reading bits 0, samples := [0], driven := if sent then 27 else 54 } := by
  unfold Line.fall Line.pass Line.nextBit
  simp only [hs, ha, hf, List.map_nil, List.length_nil, Nat.add_zero, hb, List.nil_append, Assembly.pass,
    Assembly.fall, he]
  rfl

end

theorem nextBit_pass (l : Line) (u : Nat) : (l.pass u).nextBit = l.nextBit := by
  simp [Line.pass, Line.nextBit]

/-- A pulse begins: the feed goes on with what it then holds. -/
theorem begun_pulse {t : State} {p : Pulse} {ps : List Pulse} (hp : t.lineFeed.pulses = p :: ps) (h : p.wait = 0) :
    t.lineFeed.came = [p] ∧ t.lineFeed.begun = ⟨t.lineFeed.left, max t.lineFeed.held p.width, ps⟩ := by
  have came := LineFeed.came_some hp h
  exact ⟨came, by simp [LineFeed.begun, came, hp]⟩

section
variable {s : State} {f : InFlight} {bits : List Bool} {q : Nat} {sent : Bool} (hf : s.line.inFlight = some f)
  (ha : s.line.assembly = .reading bits q) (hs : s.line.samples = []) (he : wholeEdges bits 0 = false)
  (hb : f.frame.bits[f.read.length]? = some sent)
include hf ha hs he hb

/-- The node begins its own next bit (R21). -/
theorem begins_ownBit (hq : q < 80) (hp : ∀ p ∈ s.lineFeed.pulses.head?, 80 - q < p.wait) :
    happen .begin (passTime (80 - q) s) = { s with
      line := { s.line with assembly := .reading bits 0, samples := [0], driven := if sent then 27 else 54 }
      lineFeed := ⟨s.lineFeed.left - (80 - q), s.lineFeed.held - (80 - q),
        sooner (80 - q) s.lineFeed.pulses⟩ } := by
  have falls : Falls (passTime (80 - q) s) := by
    refine .inl ⟨?_, ?_⟩
    · show (s.line.pass (80 - q)).nextBit.isSome = true
      rw [nextBit_pass, nextBit_unsampled hf hs, hb]
      rfl
    · show 80 ≤ (s.line.assembly.pass (80 - q)).quiet
      rw [ha]
      simp only [Assembly.pass, Assembly.quiet]
      omega
  have noPulse : (passTime (80 - q) s).lineFeed.came = [] := LineFeed.came_none fun p hpp => by
    cases hps : s.lineFeed.pulses with
    | nil => simp [passTime_eq, hps] at hpp
    | cons x xs =>
      have hx := hp x (by simp [hps])
      obtain rfl : { x with wait := x.wait - (80 - q) } = p := by simpa [passTime_eq, hps, sooner] using hpp
      dsimp only
      omega
  show beginPulses (passTime (80 - q) s) = _
  rw [(beginPulses_spec _).2 falls]
  show (s.setLineFeed (LineFeed.begun _)).setLine (s.line.pass (80 - q)).fall = _
  rw [fall_transmits hf ha hs he hb, LineFeed.begun, noPulse]
  rfl

/-- Another station's pulse begins on a recessive line: the node's next bit begins with it (R21). -/
theorem begins_withPulse {p : Pulse} {ps : List Pulse} (hp : s.lineFeed.pulses = p :: ps) (hw : 0 < p.width)
    (hd : s.line.driven ≤ p.wait) (hh : s.lineFeed.held ≤ p.wait) :
    happen .begin (passTime p.wait s) = { s with
      line := { s.line with assembly := .reading bits 0, samples := [0], driven := if sent then 27 else 54 }
      lineFeed := ⟨s.lineFeed.left - p.wait, p.width, ps⟩ } := by
  obtain ⟨came, begun⟩ := begun_pulse (t := passTime p.wait s) (p := { p with wait := p.wait - p.wait }) (ps := ps)
    (by simp [passTime_eq, hp, sooner]) (Nat.sub_self _)
  have falls : Falls (passTime p.wait s) := .inr ⟨by rw [came]; exact ⟨_, List.mem_singleton.2 rfl, hw⟩, by
    show ¬(0 < s.line.driven - p.wait ∨ 0 < s.lineFeed.held - p.wait)
    omega⟩
  show beginPulses (passTime p.wait s) = _
  rw [(beginPulses_spec _).2 falls, begun]
  have held : max (s.lineFeed.held - p.wait) p.width = p.width := by omega
  show (s.setLineFeed ⟨s.lineFeed.left - p.wait, max (s.lineFeed.held - p.wait) p.width, ps⟩).setLine
    (s.line.pass p.wait).fall = _
  rw [fall_transmits hf ha hs he hb, held]
  rfl

omit hf he hb in
/-- Another station's pulse that begins while the line is dominant makes no edge (R21). -/
theorem begins_unseen {p : Pulse} {ps : List Pulse} (hp : s.lineFeed.pulses = p :: ps) (hq : q + p.wait < 80)
    (hd : p.wait < s.line.driven ∨ p.wait < s.lineFeed.held) :
    happen .begin (passTime p.wait s) = { s with
      line := { s.line with assembly := .reading bits (q + p.wait), driven := s.line.driven - p.wait }
      lineFeed := ⟨s.lineFeed.left - p.wait, max (s.lineFeed.held - p.wait) p.width, ps⟩ } := by
  obtain ⟨-, begun⟩ := begun_pulse (t := passTime p.wait s) (p := { p with wait := p.wait - p.wait }) (ps := ps)
    (by simp [passTime_eq, hp, sooner]) (Nat.sub_self _)
  have still : ¬Falls (passTime p.wait s) := by
    rintro (⟨-, h⟩ | ⟨-, h⟩)
    · have h' : 80 ≤ (s.line.assembly.pass p.wait).quiet := h
      rw [ha] at h'
      simp only [Assembly.pass, Assembly.quiet] at h'
      omega
    · have h' : ¬(0 < s.line.driven - p.wait ∨ 0 < s.lineFeed.held - p.wait) := h
      omega
  have line : s.line.pass p.wait =
      { s.line with assembly := .reading bits (q + p.wait), driven := s.line.driven - p.wait } := by
    rw [Line.pass, ha]
    congr 1
    rw [hs]
    rfl
  show beginPulses (passTime p.wait s) = _
  rw [(beginPulses_spec _).1 still, begun, passTime_eq, line]
  rfl

end

/-- The sample of a bit of the transmission (R21, R22): the assembly takes it, the transmission reads it back, and an
outcome that it decides waits as its command. -/
theorem samples_bit {s : State} {f : InFlight} {bits : List Bool} {q : Nat} {read : Bool}
    (hf : s.line.inFlight = some f) (ha : s.line.assembly = .reading bits q) (hs : s.line.samples = [q]) (hq : q ≤ 40)
    (h0 : bits = [] → read = false) (hr : read = true ↔ s.line.driven + q ≤ 40 ∧ s.lineFeed.held + q ≤ 40) :
    happen .sample (passTime (40 - q) s) = { s with
      line := { s.line with
        assembly := .reading (bits ++ [read]) 40, samples := [], driven := s.line.driven - (40 - q)
        inFlight := some { f with read := f.read ++ [read] } }
      lineFeed := ⟨s.lineFeed.left - (40 - q), s.lineFeed.held - (40 - q), sooner (40 - q) s.lineFeed.pulses⟩
      pending := match readBack f.frame.bits (f.read ++ [read]) with
        | .ongoing => []
        | .lost => [.transmissionLost (f.read ++ [read])]
        | .clash => [.identityClash (f.read ++ [read])]
        | .completed => [.transmissionComplete (f.read ++ [read])] } := by
  have reads : read = true ↔
      ¬(0 < (passTime (40 - q) s).line.driven ∨ 0 < (passTime (40 - q) s).lineFeed.held) := by
    rw [hr]
    show _ ↔ ¬(0 < s.line.driven - (40 - q) ∨ 0 < s.lineFeed.held - (40 - q))
    omega
  have go : ¬(bits.isEmpty && read) = true := by
    rw [Bool.and_eq_true, List.isEmpty_iff]
    rintro ⟨hb, hread⟩
    simp [h0 hb] at hread
  have taken : ((Assembly.reading bits q).pass (40 - q)).sample read = .reading (bits ++ [read]) 40 := by
    show (if bits.isEmpty && read then Assembly.absent (q + (40 - q))
      else .reading (bits ++ [read]) (q + (40 - q))) = _
    rw [if_neg go, Nat.add_sub_cancel' hq]
  have line : (s.line.pass (40 - q)).sample read = { s.line with
      assembly := .reading (bits ++ [read]) 40, samples := [], driven := s.line.driven - (40 - q)
      inFlight := some { f with read := f.read ++ [read] } } := by
    simp only [Line.sample, Line.pass, ha, taken, hs, hf]
    rfl
  have outcome := (outcomeCommand_sample (s.line.pass (40 - q)) read (passTime (40 - q) s)).2 f hf
  obtain ⟨ongoing, lost, clash, completed⟩ := outcome
  show takeSample (passTime (40 - q) s) = _
  rw [takeSample_reads reads]
  show { passTime (40 - q) s with
    line := (s.line.pass (40 - q)).sample read
    pending := (outcomeCommand ((passTime (40 - q) s).setLine ((s.line.pass (40 - q)).sample read))).toList } = _
  cases hb : readBack f.frame.bits (f.read ++ [read]) with
  | ongoing => rw [ongoing hb, line]; rfl
  | lost => rw [lost hb, line]; rfl
  | clash => rw [clash hb, line]; rfl
  | completed => rw [completed hb, line]; rfl

/-- Settles O19. -/
theorem transmissionEndsLostOrComplete : Obligations.TransmissionEndsLostOrComplete := by
  refine ⟨fun s f n sent hr hf hb hn => ?_, fun s f hr hf => ?_, fun s f bits q sent hp hpend hserved hc hf ha => ?_⟩
  · exact congrArg _ (live_line hr (endTransmission_lost hf (readBack_lost hb fun h => (hn h).2)))
  · exact congrArg _ (live_line hr (endTransmission_completed hf))
  · intro outcome goesOn
    have flying : s.line.inFlight.isSome = true := by simp [hf]
    have goes : ∀ {u e}, nextEvent s = some (u, e) → u < s.lineFeed.left →
        step s = .next (happen e (passTime u s)) := fun hn hu =>
      step_happens hpend hp hserved (restartReady_not hc) (mayTransmit_flying flying) hn hu
    have still : ∀ (line : Line) (feed : LineFeed), ({ s with line := line, lineFeed := feed } : State) =
        { s with line := line, lineFeed := feed, pending := [] } := fun line feed => by rw [← hpend]
    refine ⟨fun hs hq he hb => ⟨fun hleft hpulse => ?_, fun p ps hps hleft hwait hw => ⟨fun hd hh => ?_,
      fun hd => ?_⟩⟩, fun read hs hq hleft hpulse hw h0 hread => ?_⟩
    · have next := nextEvent_ownBit hf ha hs (wholeBits_of_edges he) hq (by simp [hb]) fun p h => (hpulse p h).le
      exact (goes next hleft).trans (congrArg _ ((begins_ownBit hf ha hs he hb hq hpulse).trans (still _ _)))
    · have next := nextEvent_pulse ha hs (wholeBits_of_edges he) hps hwait
      exact (goes next hleft).trans (congrArg _ ((begins_withPulse hf ha hs he hb hps hw hd hh).trans (still _ _)))
    · have next := nextEvent_pulse ha hs (wholeBits_of_edges he) hps hwait
      exact (goes next hleft).trans (congrArg _ ((begins_unseen ha hs hps hwait hd).trans (still _ _)))
    · have next := nextEvent_sample ha hs hw hq hpulse
      exact (goes next hleft).trans (congrArg _ (samples_bit hf ha hs hq h0 hread))

end Sys2Proof.Machine
end

section
/-! Telegrams that arrive (R39 to R41): whom they name, what command brings them, and what an arrival leaves. -/

namespace Sys2Proof.Machine

/-! ### The fields of a REQUEST and a CONFIGURE (Figures 2-10, 2-11) -/

theorem requestMode_toNat (p : List Byte) : (requestMode p).toNat = (p.getD 0 0).toNat / 64 := by
  have small : (p.getD 0 0).toNat < 256 := (p.getD 0 0).isLt
  rw [requestMode, byteAt, BitVec.extractLsb'_toNat, Nat.shiftRight_eq_div_pow]
  omega

theorem requestTarget_eq (p : List Byte) : requestTarget p = (p.getD 0 0).toNat % 64 := by
  rw [requestTarget, byteAt, BitVec.extractLsb'_toNat, Nat.shiftRight_zero]

theorem configureTarget_eq (p : List Byte) : configureTarget p = (p.getD 0 0).toNat % 64 := requestTarget_eq p

theorem requestMode_eq_iff (p : List Byte) (m : BitVec 2) : requestMode p = m ↔ (p.getD 0 0).toNat / 64 = m.toNat := by
  rw [← requestMode_toNat, BitVec.toNat_inj]

/-- The four ways in which a REQUEST names the node (R40). -/
theorem requestAddressed_iff (p : List Byte) (s : State) : requestAddressed p s = true ↔
    (p.getD 0 0).toNat / 64 = 0 ∧ ((p.getD 0 0).toNat % 64 = lineId s ∨ (p.getD 0 0).toNat % 64 = 63) ∨
    (p.getD 0 0).toNat / 64 = 2 ∨ s.safe = false ∧
      ((p.getD 0 0).toNat / 64 = 1 ∧ (p.getD 0 0).toNat % 64 = s.cfg.group ∨
        (p.getD 0 0).toNat / 64 = 3 ∧ (p.getD 0 0).toNat % 64 = s.cfg.facade) := by
  have small : (p.getD 0 0).toNat < 256 := (p.getD 0 0).isLt
  have zero : (0 : BitVec 2).toNat = 0 := rfl
  have one : (1 : BitVec 2).toNat = 1 := rfl
  have two : (2 : BitVec 2).toNat = 2 := rfl
  simp only [requestAddressed, requestMode_eq_iff, requestTarget_eq, zero, one, two]
  generalize hm : (p.getD 0 0).toNat / 64 = mode
  generalize (p.getD 0 0).toNat % 64 = value
  obtain rfl | rfl | rfl | rfl : mode = 0 ∨ mode = 1 ∨ mode = 2 ∨ mode = 3 := by omega
  all_goals simp

theorem restartAddressed_iff (p : List Byte) (s : State) : restartAddressed p s = true ↔
    (p.getD 0 0).toNat / 64 = 0 ∧ (p.getD 0 0).toNat % 64 = lineId s := by
  rw [restartAddressed, Bool.and_eq_true, beq_iff_eq, beq_iff_eq, requestMode_eq_iff, requestTarget_eq]
  rfl

/-- A REQUEST that a block takes (Figure 2-16). -/
theorem handedOn_request {f : Frame} (h : f.kind = Kind.request.code) (s : State) : handedOn f s = true ↔
    requestAction f.payload ≤ 3 ∧ requestAddressed f.payload s = true ∨
    requestAction f.payload = 4 ∧ restartAddressed f.payload s = true := by
  rw [handedOn, if_pos h]
  split
  · rename_i ha
    simp [ha, show requestAction f.payload ≠ 4 by omega]
  · rename_i ha
    simp [ha]

/-- A CONFIGURE that a block takes (Figure 2-16). -/
theorem handedOn_configure {f : Frame} (h : f.kind = Kind.configure.code) (s : State) : handedOn f s = true ↔
    configureOperation f.payload ≤ 2 ∧ configureTarget f.payload = lineId s := by
  rw [handedOn, if_neg (by rw [h]; decide), if_pos h, Bool.and_eq_true, decide_eq_true_eq, beq_iff_eq]

/-! ### What the effect of an arrival leaves of the hearing (R41) -/

/-- The last-heard-other time, the isolation deadline and ISOLATED as they were. -/
structure HearingKept (s t : State) : Prop where
  lastHeard : t.line.lastHeard = s.line.lastHeard
  isolationDl : t.line.isolationDl = s.line.isolationDl
  isolated : t.line.isolated = s.line.isolated

theorem HearingKept.refl (s : State) : HearingKept s s := ⟨rfl, rfl, rfl⟩

theorem HearingKept.trans {s t u : State} (h : HearingKept s t) (k : HearingKept t u) : HearingKept s u :=
  ⟨k.lastHeard.trans h.lastHeard, k.isolationDl.trans h.isolationDl, k.isolated.trans h.isolated⟩

theorem HearingKept.of_line {s t : State} (h : t.line = s.line) : HearingKept s t := ⟨by rw [h], by rw [h], by rw [h]⟩

/-- What keeps the hearing of a state with the same line. -/
theorem HearingKept.after {s t u : State} (h : HearingKept t u) (hl : t.line = s.line) : HearingKept s u :=
  (HearingKept.of_line hl).trans h

theorem Turns.hearing {s t : State} (h : Turns s t) : HearingKept s t := ⟨h.lastHeard, h.isolationDl, h.isolated⟩

theorem Moves.hearing {s t : State} (h : Moves s t) : HearingKept s t := h.toTurns.hearing

theorem commit_hearing (s t : State) : HearingKept t (commit s t) := by
  constructor <;> rw [commit_frame]

theorem notePeer_hearing (src : Nat) (obs : Option Observation) (st : Option PeerState) (s : State) :
    HearingKept s (notePeer src obs st s) := by
  unfold notePeer
  split
  · exact HearingKept.refl s
  · split
    · exact .of_line rfl
    · dsimp only
      split
      · exact .of_line rfl
      · exact (takeNotice_moves _ _).hearing.after rfl

theorem dropAndEvaluate_hearing (src : Nat) (s : State) : HearingKept s (dropAndEvaluate src s) :=
  (occasionToEvaluate_moves _).hearing.after rfl

theorem stateArrival_hearing (src : Nat) (st : PeerState) (s : State) :
    HearingKept s (if st.running then dropAndEvaluate src (notePeer src none (some st) s)
      else occasionToEvaluate (notePeer src none (some st) s)) := by
  have noted := notePeer_hearing src none (some st) s
  split
  · exact noted.trans (dropAndEvaluate_hearing _ _)
  · exact noted.trans (occasionToEvaluate_moves _).hearing

theorem orderYield_hearing (s : State) (h : s.supply.admission = .admitted) : HearingKept s (orderYield s) := by
  have left : HearingKept s (releaseSupply s) := (releaseSupply_moves s (.inl h)).hearing
  have stop : HearingKept s (enterStopping .yield (releaseSupply s)) := left.trans (enterStopping_moves _ _).hearing
  have drive : ∀ d, HearingKept s ((releaseSupply s).setDrive d) := fun d => left.trans (.of_line rfl)
  unfold orderYield
  dsimp only
  split
  · exact left
  · split
    case h_7 =>
      split
      case h_4 => exact left
      all_goals exact drive _
    case h_6 => exact drive _
    case h_8 => exact left
    all_goals exact stop

theorem takeIntent_hearing (src : Nat) (p : List Byte) (s : State) : HearingKept s (takeIntent src p s) := by
  have list : HearingKept s (s.setSupply { s.supply with entries := listAfterIntent src p s }) := .of_line rfl
  unfold takeIntent
  dsimp only
  split
  case h_1 h => exact list.trans (evaluate_moves _ (.inr h)).hearing
  case h_2 h =>
    split
    · exact list.trans (orderYield_hearing _ h)
    · exact list
  all_goals exact list

theorem clearDemand_hearing (s : State) : HearingKept s (clearDemand s) :=
  (appointFrom_spec _ _).1.hearing.after rfl

theorem takeDemand_hearing (t : Target) (s : State) : HearingKept s (takeDemand t s) :=
  have handed : HearingKept s (demandHanded t s) := (demandHanded_turns t s).hearing.after rfl
  handed.trans (.of_line rfl)

theorem takeRestart_hearing (s : State) : HearingKept s (takeRestart s) := by
  have stop : ∀ d c, HearingKept s (enterStopping c (s.setDrive d)) := fun d c =>
    (enterStopping_moves _ _).hearing.after rfl
  have rest : ∀ d, HearingKept s (enterIdle (s.setDrive d)) := fun d =>
    (enterIdle_moves _).hearing.after rfl
  unfold takeRestart
  split
  · exact HearingKept.refl s
  · unfold controlledStop
    dsimp only
    split
    case h_1 | h_2 | h_3 | h_4 | h_5 => exact stop _ _
    case h_6 | h_12 => exact .of_line rfl
    all_goals exact rest _

theorem reply_hearing (index value : Nat) (status : Status) (s : State) : HearingKept s (reply index value status s) :=
  (place_moves _ _ _ s).hearing

theorem takeConfigure_hearing {closed perform : Nat → State → State} (hc : ∀ i t, HearingKept t (closed i t))
    (hp : ∀ i t, HearingKept t (perform i t)) (index : Nat) (s : State) :
    HearingKept s (takeConfigure closed perform index s) := by
  have renewed : HearingKept s (renewWindow s) := .of_line rfl
  unfold takeConfigure
  split
  · exact hc _ _
  · split
    · exact renewed.trans (reply_hearing _ _ _ _)
    · exact renewed.trans (hp _ _)

theorem openWindow_hearing (index : Nat) (s : State) : HearingKept s (openWindow index s) := by
  unfold openWindow
  split
  · exact (reply_hearing _ _ _ _).after rfl
  · exact reply_hearing _ _ _ _

theorem beginWrite_hearing (value index : Nat) (s : State) : HearingKept s (beginWrite value index s) := by
  unfold beginWrite
  split
  · exact reply_hearing _ _ _ _
  · split
    · exact .of_line rfl
    · exact reply_hearing _ _ _ _

theorem readField_hearing (index : Nat) (s : State) : HearingKept s (readField index s) := by
  unfold readField
  split <;> exact reply_hearing _ _ _ _

/-! ### The command that brings a telegram -/

/-- A telegram discarded, of another form, or an echo does nothing. -/
theorem arrival_ignored {mine : Frame → Bool} {bits : List Bool} {take : Frame → State → State} {s : State}
    (h : receive bits = none ∨ ∃ f, receive bits = some f ∧ f.source.toNat = lineId s) :
    arrival mine bits take s = s := by
  rcases h with h | ⟨f, h, hs⟩
  · simp [arrival, h]
  · simp [arrival, h, hs]

/-- A telegram from another source, of the command's own form, is heard and taken (R41). -/
theorem arrival_taken {mine : Frame → Bool} {bits : List Bool} {take : Frame → State → State} {s : State} {f : Frame}
    (h : receive bits = some f) (hm : mine f = true) (hs : f.source.toNat ≠ lineId s) :
    arrival mine bits take s = take f (hearOther s) := by
  simp [arrival, h, hm, hs]

theorem wfArrival_mine {mine : Frame → Bool} {bits : List Bool} {f : Frame} (h : wfArrival mine bits = true)
    (hr : receive bits = some f) : mine f = true := by
  simpa [wfArrival, hr] using h

/-- The command `c` brings the telegram `bits`: what it makes of a telegram of its form keeps the hearing, and a
well-formed one brings a telegram of its form, or of a REQUEST or CONFIGURE that no block takes. -/
structure Brings (c : Instr) (bits : List Bool) (mine : State → Frame → Bool) (take : Frame → State → State) : Prop where
  exec : ∀ s, exec c s = .next (live (fun t => arrival (mine t) bits take t) s)
  own : ∀ f s, c.wf = true → receive bits = some f → (c = .arrivalNotHandedOn bits → handedOn f s = false) →
    mine s f = true
  keeps : ∀ f s, HearingKept s (take f s)

theorem HearingKept.ite {s t : State} {p : Prop} [Decidable p] (h : HearingKept s t) :
    HearingKept s (if p then t else s) := by
  split
  · exact h
  · exact .refl s

theorem brings_of_arrivalBits {c : Instr} {bits : List Bool} (h : c.arrivalBits = some bits) :
    ∃ mine take, Brings c bits mine take := by
  have own : ∀ {c : Instr} {mine : Frame → Bool}, c.wf = wfArrival mine bits → ∀ (f : Frame) (s : State), c.wf = true →
      receive bits = some f → (c = .arrivalNotHandedOn bits → handedOn f s = false) → mine f = true :=
    fun he f _ hw hr _ => wfArrival_mine (he ▸ hw) hr
  cases c <;> cases h
  case observeArrival =>
    exact ⟨fun _ => ofKind .observe, _, fun _ => rfl, own rfl, fun _ _ => notePeer_hearing _ _ _ _⟩
  case stateArrival => exact ⟨fun _ => ofKind .state, _, fun _ => rfl, own rfl, fun _ _ => stateArrival_hearing _ _ _⟩
  case intentArrival =>
    exact ⟨fun _ => ofKind .intent, _, fun _ => rfl, own rfl,
      fun _ _ => (takeIntent_hearing _ _ _).after rfl⟩
  case withdrawArrival =>
    exact ⟨fun _ => ofKind .withdraw, _, fun _ => rfl, own rfl,
      fun _ _ => (dropAndEvaluate_hearing _ _).after rfl⟩
  case requestOpenTo => exact ⟨fun _ => ofAction 0, _, fun _ => rfl, own rfl, fun _ _ => (takeDemand_hearing _ _).ite⟩
  case requestClose =>
    exact ⟨fun _ => ofAction 1, _, fun _ => rfl, own rfl,
      fun _ _ => ((takeDemand_hearing _ _).trans (takeCloseNotice_moves _).hearing).ite⟩
  case requestStop => exact ⟨fun _ => ofAction 2, _, fun _ => rfl, own rfl, fun _ _ => (clearDemand_hearing _).ite⟩
  case requestRelease => exact ⟨fun _ => ofAction 3, _, fun _ => rfl, own rfl, fun _ _ => (clearDemand_hearing _).ite⟩
  case requestRestart => exact ⟨fun _ => ofAction 4, _, fun _ => rfl, own rfl, fun _ _ => (takeRestart_hearing _).ite⟩
  case configureOpen =>
    exact ⟨fun _ => ofOperation 0, _, fun _ => rfl, own rfl, fun _ _ =>
      (takeConfigure_hearing openWindow_hearing (fun _ _ => reply_hearing _ _ _ _) _ _).ite⟩
  case configureWrite =>
    exact ⟨fun _ => ofOperation 1, _, fun _ => rfl, own rfl, fun _ _ =>
      (takeConfigure_hearing (fun _ _ => reply_hearing _ _ _ _) (beginWrite_hearing _) _ _).ite⟩
  case configureRead =>
    exact ⟨fun _ => ofOperation 2, _, fun _ => rfl, own rfl, fun _ _ =>
      (takeConfigure_hearing (fun _ _ => reply_hearing _ _ _ _) readField_hearing _ _).ite⟩
  case recordArrival => exact ⟨fun _ => ofKind .record, _, fun _ => rfl, own rfl, fun _ s => .refl s⟩
  case arrivalNotHandedOn =>
    refine ⟨fun s f => (ofKind .request f || ofKind .configure f) && !handedOn f s, fun _ s => s, fun _ => rfl,
      fun f s hw hr hn => ?_, fun _ s => .refl s⟩
    have form : (ofKind .request f || ofKind .configure f) = true := wfArrival_mine hw hr
    rw [form, hn rfl]
    rfl

/-- Settles O22. -/
theorem discardedTelegramAndEchoLeaveNoTrace : Obligations.DiscardedTelegramAndEchoLeaveNoTrace := by
  intro c bits s hr hb h
  obtain ⟨mine, take, brings⟩ := brings_of_arrivalBits hb
  rw [brings.exec s]
  exact congrArg _ (live_quiet hr (arrival_ignored h) rfl rfl rfl rfl)

/-! ### The command that takes a telegram at its end (Figure 2-16) -/

theorem arrivalCommand_ignored {bits : List Bool} {s : State}
    (h : receive bits = none ∨ ∃ f, receive bits = some f ∧ f.source.toNat = lineId s) :
    arrivalCommand s bits = none := by
  rcases h with h | ⟨f, h, hs⟩ <;> simp [arrivalCommand, *]

section
variable {bits : List Bool} {f : Frame} {s : State} (hr : receive bits = some f) (hs : f.source.toNat ≠ lineId s)
include hr hs

theorem arrivalCommand_kind {k : Kind} (hk : f.kind = k.code) : arrivalCommand s bits = match k with
    | .intent => some (.intentArrival bits)
    | .withdraw => some (.withdrawArrival bits)
    | .state => some (.stateArrival bits)
    | .observe => some (.observeArrival bits)
    | .record => some (.recordArrival bits)
    | .request =>
      if !handedOn f s then some (.arrivalNotHandedOn bits)
      else if requestAction f.payload = 0 then some (.requestOpenTo bits)
      else if requestAction f.payload = 1 then some (.requestClose bits)
      else if requestAction f.payload = 2 then some (.requestStop bits)
      else if requestAction f.payload = 3 then some (.requestRelease bits)
      else some (.requestRestart bits)
    | .configure =>
      if !handedOn f s then some (.arrivalNotHandedOn bits)
      else if configureOperation f.payload = 0 then some (.configureOpen bits)
      else if configureOperation f.payload = 1 then some (.configureWrite bits)
      else some (.configureRead bits) := by
  have code := Kind.ofCode_code k
  rw [← hk] at code
  unfold arrivalCommand
  rw [hr]
  dsimp only
  rw [if_neg hs, code]
  cases k <;> rfl

/-- A REQUEST is dispatched by its action to the node it names, and by no block when it names another (Figure 2-16). -/
theorem arrivalCommand_request (hk : f.kind = Kind.request.code) :
    (requestAddressed f.payload s = true →
      (requestAction f.payload = 0 → arrivalCommand s bits = some (.requestOpenTo bits)) ∧
      (requestAction f.payload = 1 → arrivalCommand s bits = some (.requestClose bits)) ∧
      (requestAction f.payload = 2 → arrivalCommand s bits = some (.requestStop bits)) ∧
      (requestAction f.payload = 3 → arrivalCommand s bits = some (.requestRelease bits))) ∧
    (requestAction f.payload = 4 → restartAddressed f.payload s = true →
      arrivalCommand s bits = some (.requestRestart bits)) ∧
    (¬handedOn f s = true → arrivalCommand s bits = some (.arrivalNotHandedOn bits)) := by
  have command := arrivalCommand_kind hr hs hk
  have taken : handedOn f s = true → arrivalCommand s bits =
      if requestAction f.payload = 0 then some (.requestOpenTo bits)
      else if requestAction f.payload = 1 then some (.requestClose bits)
      else if requestAction f.payload = 2 then some (.requestStop bits)
      else if requestAction f.payload = 3 then some (.requestRelease bits)
      else some (.requestRestart bits) := fun h => by rw [command]; simp [h]
  have on := handedOn_request hk s
  refine ⟨fun h => ?_, fun ha h => ?_, fun h => by rw [command]; simp [h]⟩
  · refine ⟨fun ha => ?_, fun ha => ?_, fun ha => ?_, fun ha => ?_⟩ <;>
    · rw [taken (on.2 (.inl ⟨by omega, h⟩)), ha]
      rfl
  · rw [taken (on.2 (.inr ⟨ha, h⟩)), ha]
    rfl

/-- A CONFIGURE is dispatched by its operation to its target, and by no block at another (Figure 2-16). -/
theorem arrivalCommand_configure (hk : f.kind = Kind.configure.code) :
    (configureTarget f.payload = lineId s →
      (configureOperation f.payload = 0 → arrivalCommand s bits = some (.configureOpen bits)) ∧
      (configureOperation f.payload = 1 → arrivalCommand s bits = some (.configureWrite bits)) ∧
      (configureOperation f.payload = 2 → arrivalCommand s bits = some (.configureRead bits))) ∧
    (¬handedOn f s = true → arrivalCommand s bits = some (.arrivalNotHandedOn bits)) := by
  have command := arrivalCommand_kind hr hs hk
  have taken : handedOn f s = true → arrivalCommand s bits =
      if configureOperation f.payload = 0 then some (.configureOpen bits)
      else if configureOperation f.payload = 1 then some (.configureWrite bits)
      else some (.configureRead bits) := fun h => by rw [command]; simp [h]
  have on := handedOn_configure hk s
  refine ⟨fun h => ?_, fun h => by rw [command]; simp [h]⟩
  refine ⟨fun ho => ?_, fun ho => ?_, fun ho => ?_⟩ <;>
  · rw [taken (on.2 ⟨by omega, h⟩), ho]
    rfl

end

/-! ### ISOLATED (R41) -/

/-- A telegram from another source that no block takes is heard, and nothing else (R41). -/
theorem live_heard {mine : State → Frame → Bool} {bits : List Bool} {s : State} {f : Frame} (h : Ready s)
    (hr : receive bits = some f) (hm : mine s f = true) (hs : f.source.toNat ≠ lineId s) :
    live (fun t => arrival (mine t) bits (fun _ t => t) t) s = hearOther s :=
  live_line h (arrival_taken hr hm hs)

/-- Settles O23. -/
theorem arrivalsAndTheDeadlineGovernIsolation : Obligations.ArrivalsAndTheDeadlineGovernIsolation := by
  refine ⟨fun c bits f s hp hb hw hr hs hn => ?_, fun bits f s h hr hs => ⟨fun hk => ?_, fun hk hn => ?_⟩,
    fun s h => ⟨fun hi hd => ?_, fun hd => ?_⟩, fun bits s => ⟨fun h => arrivalCommand_ignored (.inl h),
      fun f hr => ⟨fun h => arrivalCommand_ignored (.inr ⟨f, hr, h⟩), fun hs => ?_⟩⟩⟩
  · obtain ⟨mine, take, brings⟩ := brings_of_arrivalBits hb
    have made : exec c s = .next (commit s (take f (hearOther s))) := by
      rw [brings.exec s, live, if_pos hp, arrival_taken hr (brings.own f s hw hr hn) hs]
    obtain ⟨heard, deadline, isolated⟩ := (brings.keeps f (hearOther s)).trans (commit_hearing s _)
    exact ⟨_, made, heard, deadline, isolated⟩
  · exact congrArg _ (live_heard (mine := fun _ => ofKind .record) h hr (beq_iff_eq.2 hk) hs)
  · refine congrArg _ (live_heard (mine := fun s f => (ofKind .request f || ofKind .configure f) && !handedOn f s)
      h hr ?_ hs)
    rcases hk with hk | hk <;> simp [ofKind, hk, hn]
  · have due : isolationDue s = true := (isolationDue_iff s).2 ⟨hi, hd⟩
    exact congrArg _ (liveWhen_quiet h due rfl rfl rfl rfl rfl)
  · exact congrArg _ (liveWhen_idle _ (by simp [isolationDue, hd]))
  · have ofCode : ∀ k : Kind, f.kind.toNat = k.code.toNat → f.kind = k.code := fun k hk => BitVec.eq_of_toNat_eq hk
    refine ⟨fun hk => arrivalCommand_kind hr hs (ofCode .intent hk),
      fun hk => arrivalCommand_kind hr hs (ofCode .withdraw hk), fun hk => arrivalCommand_kind hr hs (ofCode .state hk),
      fun hk => arrivalCommand_kind hr hs (ofCode .observe hk), fun hk => ?_, fun hk => ?_,
      fun hk => arrivalCommand_kind hr hs (ofCode .record hk)⟩
    · have request := ofCode .request hk
      obtain ⟨named, restart, nobody⟩ := arrivalCommand_request hr hs request
      rw [requestAddressed_iff] at named
      rw [restartAddressed_iff] at restart
      rw [handedOn_request request, requestAddressed_iff, restartAddressed_iff] at nobody
      refine ⟨named, restart, fun h => nobody ?_⟩
      rintro (⟨ha, hn⟩ | ⟨ha, hn⟩)
      · rcases h with ⟨-, h⟩ | ⟨h, -⟩ | h
        · exact h hn
        · exact absurd (h.symm.trans_le ha) (by omega)
        · exact absurd (h.trans ha) (by omega)
      · rcases h with ⟨h, -⟩ | ⟨-, h⟩ | h
        · exact absurd (ha.symm.trans_le h) (by omega)
        · exact h hn
        · exact absurd (h.trans_eq ha) (by omega)
    · have configure := ofCode .configure hk
      obtain ⟨named, nobody⟩ := arrivalCommand_configure hr hs configure
      rw [configureTarget_eq] at named
      rw [handedOn_configure configure, configureTarget_eq] at nobody
      refine ⟨named, fun h => nobody ?_⟩
      rintro ⟨ho, hn⟩
      rcases h with h | h
      · exact h hn
      · exact absurd (h.trans ho) (by omega)

end Sys2Proof.Machine
end

section
/-! The OBSERVEs placed at their deadlines, and the hold-off of triggers (R36 to R38). -/

namespace Sys2Proof.Machine

/-! ### The end of a command that mirrors nothing new -/

/-- A STATE placed moves the queue, the last reported position and the running refresh deadline, and nothing else. -/
theorem placeState_frame (s : State) : placeState s = { s with
    line := (placeState s).line
    pos := { s.pos with lastReported := (placeState s).pos.lastReported }
    drive := { s.drive with refreshDl := (placeState s).drive.refreshDl } } := by
  unfold placeState
  dsimp only
  split <;>
  · rw [place_eq]
    rfl

/-- The record stays where no mirrored item moves (R159). -/
theorem commit_retained {s t : State} (h : Mirrors s) (hr : t.retained = s.retained) (hm : mirrored t = mirrored s) :
    (commit s t).retained = s.retained := by
  have kept : ∀ u : State, u.retained = t.retained → mirrored u = mirrored t → (renewRecord u).retained = s.retained :=
    fun u hu hmu => by rw [renewRecord_of_mirrors (h.keep (hu.trans hr) (hmu.trans hm)), hu, hr]
  unfold commit
  dsimp only
  split
  · have frame := placeState_frame t
    exact kept _ (by rw [frame]; rfl) (by rw [frame]; rfl)
  · exact kept _ rfl rfl

/-- Where two lists agree up to order in the telegrams of one sort, they do in those of a narrower one. -/
theorem filter_perm_mono {a b : List Queued} {p q : Queued → Bool} (h : (a.filter p).Perm (b.filter p))
    (hq : ∀ e, q e = true → p e = true) : (a.filter q).Perm (b.filter q) := by
  have narrow : ∀ l : List Queued, (l.filter p).filter q = l.filter q := fun l => by
    rw [List.filter_filter]
    refine List.filter_congr fun e _ => ?_
    cases hqe : q e with
    | false => rfl
    | true => rw [hq e hqe]; rfl
  rw [← narrow a, ← narrow b]
  exact h.filter q

/-- Outside the safe profile a refusal is the same for every kind (R35). -/
theorem refusesPlacement_unsafe {s : State} (h : s.safe = false) (k k' : Kind) :
    refusesPlacement k s = refusesPlacement k' s := by
  simp [refusesPlacement, h]

/-! ### The periodic OBSERVE (R36, R38) -/

/-- An OBSERVE of class 0 or 1 is queued. -/
def urgentQueued (s : State) : Bool :=
  s.line.queue.any fun e => e.kind == .observe && (e.cls == .storm || e.cls == .rain)

theorem urgentQueued_iff (s : State) : urgentQueued s = true ↔
    ∃ e ∈ s.line.queue, e.kind = .observe ∧ (e.cls = .storm ∨ e.cls = .rain) := by
  simp [urgentQueued]

/-- The periodic deadline taken: the OBSERVE, the occasion of the first one, the deadline moved on. -/
def takePeriodic (s : State) : State :=
  let s1 := if urgentQueued s then s else placeObserve .routine s
  let s2 := if s.weather.firstPeriodic then noteOccasion s1 else s1
  s2.setWeather { s2.weather with periodicDl := after s.weather.periodicDl 2000, firstPeriodic := false }

theorem exec_periodicObserveDeadline {s : State} (hp : s.power = true) (hd : periodicDue s = true) :
    exec .periodicObserveDeadline s = .next (commit s (takePeriodic s)) :=
  congrArg _ (liveWhen_due _ hp hd)

/-- The periodic deadline moves the queue, the periodic part of the Assessor and the occasion mark. -/
theorem takePeriodic_eq (s : State) : takePeriodic s = { s with
    weather := { s.weather with periodicDl := after s.weather.periodicDl 2000, firstPeriodic := false }
    line := { s.line with queue := (takePeriodic s).line.queue }
    occasion := s.weather.firstPeriodic || s.occasion } := by
  have placed : ∃ q, (if urgentQueued s then s else placeObserve .routine s) =
      s.setLine { s.line with queue := q } := by
    split
    · exact ⟨s.line.queue, rfl⟩
    · exact ⟨_, placeObserve_eq _ _⟩
  obtain ⟨q, hq⟩ := placed
  unfold takePeriodic
  rw [hq]
  cases s.weather.firstPeriodic <;> rfl

theorem takePeriodic_queue (s : State) : (takePeriodic s).line.queue =
    (if urgentQueued s then s else placeObserve .routine s).line.queue := by
  unfold takePeriodic
  dsimp only
  split <;> rfl

theorem takePeriodic_queue_still {s : State} (h : urgentQueued s = true ∨ refusesPlacement .observe s = true) :
    (takePeriodic s).line.queue = s.line.queue := by
  rw [takePeriodic_queue]
  split
  · rfl
  · rename_i hu
    have refused : refusesPlacement .observe s = true := h.resolve_left hu
    rw [placeObserve, place_refused refused]

theorem takePeriodic_queue_placed {s : State} (hu : urgentQueued s = false) (hr : refusesPlacement .observe s = false) :
    (takePeriodic s).line.queue = (s.line.put s.nt .observe .routine (observePayload s)).queue := by
  rw [takePeriodic_queue, hu, placeObserve_taken hr]
  rfl

/-- The telegrams of other kinds stay. -/
theorem takePeriodic_others (s : State) :
    ((takePeriodic s).line.queue.filter fun e => e.kind != .observe).Perm
      (s.line.queue.filter fun e => e.kind != .observe) := by
  cases hu : urgentQueued s with
  | true => rw [takePeriodic_queue_still (.inl hu)]
  | false => cases hr : refusesPlacement .observe s with
    | true => rw [takePeriodic_queue_still (.inr hr)]
    | false => rw [takePeriodic_queue_placed hu hr]; exact put_others _ _ _ _ _

/-- The periodic deadline after the first is no occasion for a STATE. -/
theorem commit_takePeriodic_later {s : State} (h : Ready s) (hf : s.weather.firstPeriodic = false) :
    commit s (takePeriodic s) = takePeriodic s := by
  obtain ⟨-, ho, hm⟩ := h
  have frame := takePeriodic_eq s
  refine commit_quiet ?_ (by rw [frame]; rfl) (hm.keep (by rw [frame]) (by rw [frame]; rfl))
  rw [frame, hf, ho]
  rfl

/-- The first periodic deadline is one (R38). -/
theorem commit_takePeriodic_first {s : State} (hs : s.safe = false) (hf : s.weather.firstPeriodic = true) :
    Reported (takePeriodic s) (commit s (takePeriodic s)) := by
  have frame := takePeriodic_eq s
  exact commit_reported s _ (by rw [frame]; exact hs) (.inl (by rw [frame, hf]; rfl))

/-- What the whole command moves. -/
theorem commit_takePeriodic_eq {s : State} (h : Ready s) : commit s (takePeriodic s) = { s with
    weather := { s.weather with periodicDl := after s.weather.periodicDl 2000, firstPeriodic := false }
    line := { s.line with queue := (commit s (takePeriodic s)).line.queue }
    drive := { s.drive with refreshDl := (commit s (takePeriodic s)).drive.refreshDl }
    pos := { s.pos with lastReported := (commit s (takePeriodic s)).pos.lastReported } } := by
  obtain ⟨-, ho, hm⟩ := h
  have frame := takePeriodic_eq s
  have retained : (commit s (takePeriodic s)).retained = s.retained :=
    commit_retained hm (by rw [frame]) (by rw [frame]; rfl)
  conv_lhs => rw [commit_frame, retained]
  rw [frame, ← ho]

/-- The telegrams that are no STATE are at the end of the command those of its effect. -/
theorem commit_takePeriodic_noState {s : State} (h : Ready s) (hs : s.safe = false) :
    ((commit s (takePeriodic s)).line.queue.filter fun e => e.kind != .state).Perm
      ((takePeriodic s).line.queue.filter fun e => e.kind != .state) := by
  cases hf : s.weather.firstPeriodic with
  | false => rw [commit_takePeriodic_later h hf]
  | true => exact (commit_takePeriodic_first hs hf).2.2.2.1

/-! ### The hold-off (R37) -/

/-- The end of a hold-off with a deferred trigger places its OBSERVE and begins a new one. -/
theorem exec_holdoff_deferred {s : State} {cls : Class} (h : Ready s) (hd : due s.nt s.weather.holdoffDl = true)
    (hc : s.weather.deferred = some cls) (hr : refusesPlacement .observe s = false) :
    exec .immediateHoldoffExpiry s = .next { s with
      weather := { s.weather with holdoffDl := some (after s.nt 500), deferred := none }
      line := { s.line with queue := (s.line.put s.nt .observe cls (observePayload s)).queue } } := by
  refine congrArg Host.Outcome.next (liveWhen_quiet h hd ?_ rfl rfl rfl rfl)
  rw [hc]
  dsimp only
  rw [if_neg (by simp [hr]), placeImmediate, placeObserve_taken hr, put_queue]
  rfl

/-- The lower of a class and a deferred one (R37). -/
theorem lowerClass_code (c d : Class) : (lowerClass c (some d)).code.toNat = min c.code.toNat d.code.toNat := by
  show (if d.code.toNat < c.code.toNat then d else c).code.toNat = _
  split <;> omega

/-- A trigger inside a hold-off waits (R37). -/
theorem triggerObserve_deferred {s : State} (cls : Class) (hr : refusesPlacement .observe s = false)
    (hd : due s.nt s.weather.holdoffDl = false) (hh : s.weather.holdoffDl.isSome = true) :
    triggerObserve cls s = s.setWeather { s.weather with deferred := some (lowerClass cls s.weather.deferred) } := by
  obtain ⟨d, hdl⟩ := Option.isSome_iff_exists.1 hh
  have before : passed s.nt d = false := by simpa [due, hdl] using hd
  unfold triggerObserve
  rw [hdl]
  simp [hr, before]

/-- Settles O24: the periodic deadline through its effect and the end of the command, the hold-off in its three cases. -/
theorem observesArePlacedAtTheirDeadlines : Obligations.ObservesArePlacedAtTheirDeadlines := by
  refine ⟨fun s h hs hd => ⟨_, exec_periodicObserveDeadline h.1 ((periodicDue_iff s).2 ⟨hs, hd⟩), ?_⟩,
    fun s cls h hd hc hr => ⟨_, exec_holdoff_deferred h hd hc hr, ?_, put_others _ _ _ _ _⟩,
    fun s h hd hn => ?_, fun s cls old hr hd hh ho => ?_⟩
  · have frame := commit_takePeriodic_eq h
    have noState := commit_takePeriodic_noState h hs
    refine ⟨by rw [frame], ?_, fun hr => ?_, fun hr hc => ?_, fun hu => ?_, fun hf hr => ?_, fun hf => ?_⟩
    · have weather : (commit s (takePeriodic s)).weather =
          { s.weather with periodicDl := after s.weather.periodicDl 2000, firstPeriodic := false } := by rw [frame]
      rw [weather]
      exact frame
    · have still := takePeriodic_queue_still (.inr hr)
      cases hf : s.weather.firstPeriodic with
      | false => rw [commit_takePeriodic_later h hf, still]
      | true =>
        obtain ⟨-, -, -, -, placed⟩ := commit_takePeriodic_first hs hf
        have refused : refusesPlacement .state (takePeriodic s) = true := by
          rw [takePeriodic_eq]
          exact (refusesPlacement_unsafe hs _ _).trans hr
        rw [if_pos refused] at placed
        exact placed.trans still
    · have noUrgent : urgentQueued s = false := by
        rw [← Bool.not_eq_true, urgentQueued_iff]
        rintro ⟨e, he, hk, hcls⟩
        obtain ⟨notStorm, notRain⟩ := hc e he hk
        exact hcls.elim notStorm notRain
      obtain ⟨e, he, hk, hcls, hp⟩ := put_holds s.line s.nt .observe .routine (observePayload s)
      rw [← takePeriodic_queue_placed noUrgent hr] at he
      have there := noState.mem_iff.2 (List.mem_filter.2 ⟨he, by simp [hk]⟩)
      exact ⟨e, (List.mem_filter.1 there).1, hk, hcls, hp⟩
    · rw [← takePeriodic_queue_still (.inl ((urgentQueued_iff s).2 hu))]
      exact filter_perm_mono noState fun e he => by simp [beq_iff_eq.1 he]
    · obtain ⟨-, -, -, -, placed⟩ := commit_takePeriodic_first hs hf
      have taken : refusesPlacement .state (takePeriodic s) = false := by
        rw [takePeriodic_eq]
        exact hr
      have payload : statePayload (commit s (takePeriodic s)) = statePayload s := by
        rw [frame]
        rfl
      rw [if_neg (by simp [taken]), payload] at placed
      exact placed
    · rw [commit_takePeriodic_later h hf]
      refine ⟨?_, ?_, takePeriodic_others s⟩ <;> rw [takePeriodic_eq]
  · exact put_holds s.line s.nt .observe cls (observePayload s)
  · refine congrArg Host.Outcome.next (liveWhen_quiet h hd ?_ rfl rfl rfl rfl)
    rw [hn]
    rfl
  · rw [triggerObserve_deferred cls hr hd hh, ho]
    exact ⟨_, rfl, rfl, lowerClass_code cls old⟩

end Sys2Proof.Machine
end

section
/-! OPEN_TO and CLOSE addressed to the node (R84, R85, R88, R91). -/

namespace Sys2Proof.Machine

/-! ### A DEMAND taken -/

/-- What a request for DEMAND does to the levels, the expiry among them (R81, R84, R88, R91). -/
theorem takeDemand_levels {s : State} (hl : LevelsLawful s) (t : Target) :
    (takeDemand t s).levels.demandTarget = some t ∧
    (takeDemand t s).levels.storm = s.levels.storm ∧ (takeDemand t s).levels.rain = s.levels.rain ∧
    (takeDemand t s).levels.demand = (if s.levels.storm = .quiet ∧ s.levels.rain = .quiet ∧ mayAct s = true then .acting
      else .armed) ∧
    (takeDemand t s).levels.expiryDl =
      (if s.cfg.demandExpiry = 0 then none else some (after s.nt (1000 * s.cfg.demandExpiry))) := by
  have turns := demandHanded_turns t s
  have handed := demandHanded_moves hl t
  obtain ⟨storm, rain⟩ := asked_weather hl t
  refine ⟨turns.demandTarget, handed.storm.trans storm, handed.rain.trans rain, handed.demand.trans ?_, ?_⟩
  · by_cases h : DemandLeads s
    · have ⟨may, noStorm, noRain⟩ := h
      rw [asked_demand_leads h, if_pos ⟨noStorm, noRain, may⟩]
    · rw [asked_demand_follows h, if_neg fun ⟨noStorm, noRain, may⟩ => h ⟨may, noStorm, noRain⟩]
  · show (if (demandHanded t s).cfg.demandExpiry = 0 then none
      else some (after (demandHanded t s).nt (1000 * (demandHanded t s).cfg.demandExpiry))) = _
    rw [turns.cfg, turns.nt]
    rfl

section
variable {s : State} (hl : LevelsLawful s) {t : Target} (ha : (takeDemand t s).levels.demand = .armed)
include hl ha

theorem follows_of_armed : ¬DemandLeads s := by
  rintro ⟨may, noStorm, noRain⟩
  obtain ⟨-, -, -, demand, -⟩ := takeDemand_levels hl t
  rw [ha, if_pos ⟨noStorm, noRain, may⟩] at demand
  cases demand

/-- A DEMAND that does not come to act hands nothing (R81, R85). -/
theorem takeDemand_armed : takeDemand t s = restartExpiry (asked t s) := by
  rw [takeDemand_eq, demandHanded_follows hl (follows_of_armed hl ha)]

/-- Nor does it change anything that a STATE reports. -/
theorem takeDemand_armed_unreported : reportedFields (takeDemand t s) = reportedFields s := by
  have acts : acting (asked t s) = acting s := by
    rw [acting_of_lawful hl, ← chosenLevel_raiseDemand_follows (follows_of_armed hl ha) t]
    exact acting_setAppointed _
  rw [takeDemand_armed hl ha]
  exact congrArg (fun level => (motion s, level, suspect s, s.drive.state == .blocked, s.levels.serviceHold,
    s.supply.running)) acts

end

/-- The end of a command that reports nothing leaves the drive. -/
theorem commit_drive_unreported {s t : State} (ho : t.occasion = false) (hf : reportedFields t = reportedFields s) :
    (commit s t).drive = t.drive := by
  unfold commit
  simp only [ho, hf, ne_eq, not_true_eq_false, decide_false, Bool.or_false, Bool.and_false, Bool.false_eq_true, if_false]
  rfl

/-! ### The close notice -/

/-- In a node without the stroke part the end of a wait hands nothing (R151). -/
theorem waitOrIdle_handed {s : State} (h : s.cfg.strokeFitted = false) :
    (waitOrIdle s).levels.handed = s.levels.handed := by
  have rests : (enterIdle s).levels.handed = s.levels.handed := by
    obtain ⟨-, -, -, -, -, -, -, -, -, -, stays, -⟩ := enterIdle_cameToRest s
    exact (stays (.inl fun apart => by simp [h] at apart)).2.2
  unfold waitOrIdle
  split
  · exact rests
  · next g hg =>
    split
    · rw [enterWaitSlot_eq hg]
    · exact rests

/-- A close notice hands nothing but from the end of a wait in a node with the stroke part. -/
theorem takeCloseNotice_handed {s : State}
    (h : s.cfg.strokeFitted = false ∨ (s.drive.state ≠ .blocked ∧ s.drive.state ≠ .retryWait)) :
    (takeCloseNotice s).levels.handed = s.levels.handed := by
  unfold takeCloseNotice
  split
  · rfl
  · split
    case h_1 hs => exact waitOrIdle_handed (h.resolve_right fun k => k.2 hs)
    case h_2 hs => exact waitOrIdle_handed (s := s.setDrive _) (h.resolve_right fun k => k.1 hs)
    case h_3 => rfl
    case h_4 => split <;> rfl
    case h_5 => rfl

/-! ### A REQUEST addressed to the node -/

section
variable {bits : List Bool} {f : Frame} {s : State} (hp : s.power = true) (hs : s.safe = false)
  (hr : receive bits = some f) (hk : f.kind = Kind.request.code) (ho : f.source.toNat ≠ lineId s)
  (ha : requestAddressed f.payload s = true)
include hp hs hr hk ho ha

/-- A REQUEST of an action, addressed to the node, is heard and taken (R40, R41). -/
theorem live_request (action : Nat) (hc : requestAction f.payload = action) (take : Frame → State → State) :
    live (requestArrival action bits take) s = commit s (take f (hearOther s)) := by
  have own : ofAction action f = true := by simp [ofAction, ofKind, hk, hc]
  have addressed : (requestAddressed f.payload (hearOther s) && !(hearOther s).safe) = true := by
    show (requestAddressed f.payload s && !s.safe) = true
    rw [ha, hs]
    rfl
  rw [live, if_pos hp, requestArrival, arrival_taken hr own ho, if_pos addressed]

theorem exec_requestOpenTo (hc : f.payload.getD 1 0 = 0) : exec (.requestOpenTo bits) s =
    .next (commit s (takeDemand (demandAt (requestPosition f.payload) s) (hearOther s))) :=
  congrArg _ (live_request hp hs hr hk ho ha 0 (congrArg BitVec.toNat hc) _)

theorem exec_requestClose (hc : f.payload.getD 1 0 = 1) : exec (.requestClose bits) s =
    .next (commit s (takeCloseNotice (takeDemand .seat (hearOther s)))) :=
  congrArg _ (live_request hp hs hr hk ho ha 1 (congrArg BitVec.toNat hc) _)

end

theorem demandAt_requestPosition (p : List Byte) (s : State) : demandAt (requestPosition p) s =
    if min s.cfg.maxOpen ((p.getD 2 0).toNat * 256 + (p.getD 3 0).toNat) = 0 then .seat
    else .pm (min s.cfg.maxOpen ((p.getD 2 0).toNat * 256 + (p.getD 3 0).toNat)) := by
  rw [demandAt, clampNat_zero]
  rfl

/-- A drive that moves is in none of the states that CloseTaken speaks of. -/
theorem closeTaken_of_moving {s : State} (h : s.drive.state.movingForPress = true) (t : State) : CloseTaken s t := by
  unfold CloseTaken
  refine ⟨fun _ => ⟨fun k => ?_, fun k => ?_⟩, fun k => ?_, fun k => ?_, fun k => ?_⟩ <;>
  · rw [k] at h
    cases h

/-- What a CLOSE request does in the drive is what a CLOSE press does in one that does not move (R88, R89). -/
theorem takeCloseNotice_takeDemand {s : State} (h : s.drive.state.movingForPress = false) :
    takeCloseNotice (takeDemand .seat s) = pressNoted true s := (pressNoted_closes h).symm

/-- Settles O39. -/
theorem demandIsTaken : Obligations.DemandIsTaken := by
  intro bits f s hr hl hs hrec hk hsrc mode value asked taken hnamed
  have lineIs : lineId s = s.cfg.id := by simp [lineId, hs]
  have addressed : requestAddressed f.payload s = true := by
    rw [requestAddressed_iff, lineIs]
    rcases hnamed with h | h | h | h
    · exact .inl h
    · exact .inr (.inr ⟨hs, .inl h⟩)
    · exact .inr (.inl h)
    · exact .inr (.inr ⟨hs, .inr h⟩)
  have lawful : LevelsLawful (hearOther s) := hl
  refine ⟨fun hc => ⟨_, exec_requestOpenTo hr.1 hs hrec hk hsrc addressed hc, ?_⟩,
    fun hc => ⟨_, exec_requestClose hr.1 hs hrec hk hsrc addressed hc, ?_⟩⟩
  · rw [demandAt_requestPosition]
    generalize (if min s.cfg.maxOpen asked = 0 then Target.seat else .pm (min s.cfg.maxOpen asked)) = target
    simp only [taken, commit_levels, commit_supply]
    refine ⟨takeDemand_levels lawful target, fun ha => ?_⟩
    have still := takeDemand_armed lawful ha
    have unreported : reportedFields (takeDemand target (hearOther s)) = reportedFields s :=
      takeDemand_armed_unreported lawful ha
    have noOccasion : (takeDemand target (hearOther s)).occasion = false := by rw [still]; exact hr.2.1
    rw [commit_drive_unreported noOccasion unreported, still]
    exact ⟨rfl, rfl, rfl⟩
  · have ends := commit_ends s (takeCloseNotice (takeDemand .seat (hearOther s)))
    simp only [taken, commit_levels]
    have noted := takeCloseNotice_moves (takeDemand .seat (hearOther s))
    obtain ⟨target, storm, rain, demand, expiry⟩ := takeDemand_levels lawful .seat
    refine ⟨⟨noted.demandTarget.trans target, noted.storm.trans storm, noted.rain.trans rain,
      noted.demand.trans demand, noted.expiryDl.trans expiry⟩, fun ha hw => ?_, fun hc => ?_⟩
    · have still := takeDemand_armed lawful (noted.demand.symm.trans ha)
      rw [still, takeCloseNotice_handed (by exact hw)]
      rfl
    · cases hm : s.drive.state.movingForPress with
      | true =>
        refine ⟨closeTaken_of_moving hm _, fun hb => ?_⟩
        rw [hb] at hm
        cases hm
      | false =>
        rw [takeCloseNotice_takeDemand (s := hearOther s) hm] at ends ⊢
        refine ⟨(pressNoted_closeTaken lawful hc).ends ends, fun hb => ?_⟩
        obtain ⟨refresh, refuse, drive⟩ := ends.drive
        rw [drive]
        exact pressNoted_blocked_left lawful hc hb

end Sys2Proof.Machine
end

section
/-! An admission and the move it begins (R107, R108, R121 to R124, R134): the tests of the position, the entry into
RAMP, what an evaluation makes of a node, and that of several evaluations in one command the last decides. -/

namespace Sys2Proof.Machine

/-! ### The tests of the position (R124) -/

/-- The drive is in a state in which the position is tested (R124). -/
def testsRun (s : State) : Prop := s.drive.state = .ramp ∨ s.drive.state = .travel ∨ s.drive.state = .approach

/-- A closed-seated goal is in hand and the count within the seat band (R124). -/
def seatNear (g : Goal) (s : State) : Prop := g.target = .seat ∧ s.pos.count ≤ (s.cfg.seatBand : Int)

/-- Another goal is in hand and reached (R124). -/
def goalReached (g : Goal) (dir : Dir) (s : State) : Prop :=
  g.target ≠ .seat ∧ remaining dir (targetCount g.target s) s ≤ 0

/-- The goal lies within the approach band (R124). -/
def goalNear (g : Goal) (dir : Dir) (s : State) : Prop :=
  remaining dir (targetCount g.target s) s ≤ (s.cfg.approachBand : Int)

section
variable {s : State} {g : Goal} {dir : Dir} (hg : s.drive.goal = some g) (hd : s.drive.dir = some dir)
  (hs : testsRun s)
include hg hd hs

/-- The tests of the position find the seat near, the goal reached, the goal newly near, or none of these. -/
theorem positionTests_cases :
    (seatNear g s ∧ positionTests s = enterSeating s) ∨ (goalReached g dir s ∧ positionTests s = arrive s) ∨
    (¬seatNear g s ∧ ¬goalReached g dir s ∧
      ((goalNear g dir s ∧ s.drive.state ≠ .approach ∧ positionTests s = enterApproach s) ∨
        ((goalNear g dir s → s.drive.state = .approach) ∧ positionTests s = s))) := by
  unfold testsRun at hs
  unfold positionTests seatNear goalReached goalNear
  simp only [hg, hd, if_pos hs]
  cases g.target with
  | seat =>
    by_cases hseat : s.pos.count ≤ (s.cfg.seatBand : Int)
    · simp [hseat]
    · by_cases hnear : remaining dir (targetCount .seat s) s ≤ (s.cfg.approachBand : Int) <;>
        by_cases ha : s.drive.state = .approach <;> simp [hseat, hnear, ha]
  | pm p =>
    by_cases hrest : remaining dir (targetCount (.pm p) s) s ≤ 0
    · simp [hrest]
    · by_cases hnear : remaining dir (targetCount (.pm p) s) s ≤ (s.cfg.approachBand : Int) <;>
        by_cases ha : s.drive.state = .approach <;> simp [hrest, hnear, ha]

end

theorem moveDrive_energised {d : Drive} (h : d.state.energised = true) (s : State) :
    moveDrive d s = { s with drive := d, pos := { s.pos with crossCheckDl := none } } := by
  have hi : d.state ≠ .idle := fun k => by rw [k] at h; cases h
  simp only [moveDrive, h, hi, if_true, if_false]
  rfl

theorem enterSeating_eq (s : State) : enterSeating s = { s with
    drive := { s.drive with
      state := .seating, duty := s.cfg.creepDuty, rampStepDl := none, seatTimeoutDl := some (after s.nt 8000) }
    pos := { s.pos with crossCheckDl := none } } := moveDrive_energised rfl s

theorem enterApproach_eq (s : State) : enterApproach s = { s with
    drive := { s.drive with
      state := .approach, duty := s.cfg.creepDuty, rampStepDl := none, seatTimeoutDl := none }
    pos := { s.pos with crossCheckDl := none } } := moveDrive_energised rfl s

theorem enterStopping_stops (c : Continuation) (s : State) : enterStopping c s = { s with
    drive := { s.drive.cleared with state := .stopping, stopDl := some (after s.nt 200), continuation := some c }
    pos := { s.pos with crossCheckDl := none }
    supply := { s.supply with sagTimer := none } } := rfl

theorem arrive_eq (s : State) : arrive s = { s with
    drive := { s.drive.cleared with state := .stopping, stopDl := some (after s.nt 200), continuation := some .goal }
    pos := { s.pos with crossCheckDl := none }
    supply := { s.supply with sagCount := 0, sagTimer := none } } := rfl

/-- The distance that is left, as R124 reads it. -/
theorem remaining_eq (dir : Dir) (target : Int) (s : State) :
    remaining dir target s = if dir = .closing then s.pos.count - target else target - s.pos.count := by
  cases dir <;> rfl

/-- The tests of R124 for a drive in RAMP, TRAVEL or APPROACH. -/
theorem positionTests_tested {s : State} {g : Goal} {dir : Dir} (hg : s.drive.goal = some g)
    (hd : s.drive.dir = some dir) (hs : testsRun s) :
    PositionTested g dir s.pos.count s.drive.state s (positionTests s) := by
  unfold PositionTested
  intro target rest
  have distance : remaining dir (targetCount g.target s) s = rest := remaining_eq _ _ _
  have found := positionTests_cases hg hd hs
  unfold seatNear goalReached goalNear at found
  rw [distance] at found
  rcases found with ⟨⟨seat, near⟩, ht⟩ | ⟨⟨seat, reached⟩, ht⟩ | ⟨far, short, ⟨near, early, ht⟩ | ⟨near, ht⟩⟩
  · rw [ht, enterSeating_eq]
    exact ⟨fun _ _ => ⟨rfl, rfl, rfl⟩, fun k => absurd seat k, fun k => absurd near (Int.not_le.2 (k seat)),
      fun _ => ⟨hd, rfl⟩, hg, rfl, rfl, rfl⟩
  · rw [ht, arrive_eq]
    exact ⟨fun k => absurd k seat, fun _ _ => ⟨rfl, rfl, rfl, rfl⟩, fun _ k => absurd reached (Int.not_le.2 (k seat)),
      nofun, hg, rfl, rfl, rfl⟩
  · rw [ht, enterApproach_eq]
    exact ⟨fun k l => absurd ⟨k, l⟩ far, fun k l => absurd ⟨k, l⟩ short,
      fun _ _ => ⟨fun _ => ⟨rfl, fun _ => rfl⟩, fun k => absurd near (Int.not_le.2 k)⟩,
      fun _ => ⟨hd, rfl⟩, hg, rfl, rfl, rfl⟩
  · rw [ht]
    exact ⟨fun k l => absurd ⟨k, l⟩ far, fun k l => absurd ⟨k, l⟩ short,
      fun _ _ => ⟨fun k => ⟨near k, fun l => absurd (near k) l⟩, fun _ => rfl⟩,
      fun _ => ⟨hd, rfl⟩, hg, rfl, rfl, rfl⟩

/-- Of a move that did not go on, the tests say the same whatever state it would have gone on in. -/
theorem PositionTested.of_other {g : Goal} {dir : Dir} {count : Int} {on on' : DriveState} {s t : State}
    (h : PositionTested g dir count on s t) (hn : t.drive.state ≠ on) (ho : on ≠ .approach) :
    PositionTested g dir count on' s t := by
  obtain ⟨seats, arrives, tested, rest⟩ := h
  refine ⟨seats, arrives, fun k l => ⟨fun near => ?_, fun far => absurd ((tested k l).2 far) hn⟩, rest⟩
  obtain ⟨state, duty⟩ := (tested k l).1 near
  exact ⟨state, fun _ => duty ho⟩

/-- What the tests of the position keep of a move that goes on under power. -/
theorem positionTests_keeps {s : State} {g : Goal} {dir : Dir} (hg : s.drive.goal = some g)
    (hd : s.drive.dir = some dir) (hs : testsRun s) :
    let t := positionTests s
    t.drive.seatRecord = s.drive.seatRecord ∧
    (t.drive.state = .ramp ∨ t.drive.state = .travel → t = s) ∧
    (t.drive.state.energised = true → t.supply = s.supply ∧ t.drive.checkStart = s.drive.checkStart ∧
      t.drive.ocTimer = s.drive.ocTimer ∧ t.drive.stallRun = s.drive.stallRun ∧
      t.drive.pattern = s.drive.pattern ∧ t.drive.patternStart = s.drive.patternStart) := by
  dsimp only
  rcases positionTests_cases hg hd hs with ⟨-, ht⟩ | ⟨-, ht⟩ | ⟨-, -, ⟨-, -, ht⟩ | ⟨-, ht⟩⟩ <;> rw [ht]
  · rw [enterSeating_eq]
    exact ⟨rfl, by simp, fun _ => ⟨rfl, rfl, rfl, rfl, rfl, rfl⟩⟩
  · rw [arrive_eq]
    exact ⟨rfl, by simp, nofun⟩
  · rw [enterApproach_eq]
    exact ⟨rfl, by simp, fun _ => ⟨rfl, rfl, rfl, rfl, rfl, rfl⟩⟩
  · exact ⟨rfl, fun _ => rfl, fun _ => ⟨rfl, rfl, rfl, rfl, rfl, rfl⟩⟩

/-! ### The entry into RAMP (R123, R134) -/

/-- The node in RAMP towards a goal, before the tests of the position (R123). -/
def rampBegun (g : Goal) (s : State) : State := { s with
  drive := { s.drive.cleared with
    state := .ramp, dir := some (goalDir g s), duty := s.cfg.startDuty, checkStart := some (after s.nt 300)
    seatRecord := none, rampStepDl := some (after s.nt 20), pattern := movingPattern s, patternStart := s.nt }
  pos := { s.pos with crossCheckDl := none }
  occasion := true }

/-- The node in TRAVEL, before the tests of the position (R123). -/
def travelBegun (s : State) : State := { s with
  drive := { s.drive with state := .travel, duty := s.cfg.travelDuty, rampStepDl := none }
  pos := { s.pos with crossCheckDl := none } }

theorem enterRamp_brakes {s : State} {g : Goal} (hg : s.drive.goal = some g)
    (h : suspect s = true ∧ g.target ≠ .seat) :
    enterRamp s = enterStopping .goal (s.setDrive { s.drive with seatRecord := none }) := by
  simp [enterRamp, hg, h]

theorem enterRamp_begins {s : State} {g : Goal} (hg : s.drive.goal = some g)
    (h : ¬(suspect s = true ∧ g.target ≠ .seat)) :
    enterRamp s = rampToTravel (positionTests (rampBegun g s)) := by
  have goes : ¬(suspect s && g.target != .seat) = true := by simpa using h
  unfold enterRamp
  simp only [hg]
  exact if_neg goes

theorem rampToTravel_cases (s : State) :
    (s.drive.state = .ramp ∧ s.cfg.travelDuty ≤ s.drive.duty ∧ rampToTravel s = positionTests (travelBegun s)) ∨
    ((s.drive.state = .ramp → s.drive.duty < s.cfg.travelDuty) ∧ rampToTravel s = s) := by
  unfold rampToTravel
  split
  · next h => exact .inl ⟨h.1, h.2, rfl⟩
  · next h => exact .inr ⟨fun k => Nat.lt_of_not_le fun l => h ⟨k, l⟩, rfl⟩

/-- A RAMP begun goes on in RAMP or, with the start duty the travel duty or more, in TRAVEL, each with its tests. -/
theorem rampBegun_goesOn (g : Goal) {s : State} (hg : s.drive.goal = some g) :
    ∃ u, testsRun u ∧ u.drive.goal = some g ∧ u.drive.dir = some (goalDir g s) ∧
      rampToTravel (positionTests (rampBegun g s)) = positionTests u ∧
      (u = rampBegun g s ∧ (s.cfg.startDuty < s.cfg.travelDuty ∨ (positionTests u).drive.state ≠ .ramp) ∨
        u = travelBegun (rampBegun g s) ∧ s.cfg.travelDuty ≤ s.cfg.startDuty) := by
  have runs : testsRun (rampBegun g s) := .inl rfl
  obtain ⟨-, goesOn, -⟩ := positionTests_keeps (s := rampBegun g s) hg rfl runs
  rcases rampToTravel_cases (positionTests (rampBegun g s)) with ⟨ramp, fast, ht⟩ | ⟨slow, ht⟩
  · have still := goesOn (.inl ramp)
    rw [still] at fast ht
    exact ⟨travelBegun (rampBegun g s), .inr (.inl rfl), hg, rfl, by rw [still, ht], .inr ⟨rfl, fast⟩⟩
  · refine ⟨rampBegun g s, runs, hg, rfl, ht, .inl ⟨rfl, ?_⟩⟩
    by_cases ramp : (positionTests (rampBegun g s)).drive.state = .ramp
    · have quick := slow ramp
      rw [goesOn (.inl ramp)] at quick
      exact .inl quick
    · exact .inr ramp

/-- The entry into RAMP with a goal in hand (R123, R124, R134). -/
theorem enterRamp_entered {s : State} {g : Goal} (hg : s.drive.goal = some g) : RampEntered g s (enterRamp s) := by
  by_cases h : suspect s = true ∧ g.target ≠ .seat
  · rw [enterRamp_brakes hg h, enterStopping_stops]
    exact ⟨rfl, fun _ _ => ⟨rfl, rfl, rfl, hg, rfl⟩, fun k => absurd (k h.1) h.2⟩
  · rw [enterRamp_begins hg h]
    obtain ⟨u, runs, goal, dir, ht, hu⟩ := rampBegun_goesOn g hg
    have tested := positionTests_tested goal dir runs
    obtain ⟨seatRecord, still, kept⟩ := positionTests_keeps goal dir runs
    rw [ht]
    generalize positionTests u = t at *
    have goesOn : PositionTested g (goalDir g s) s.pos.count
        (if s.cfg.startDuty < s.cfg.travelDuty then .ramp else .travel) s t := by
      rcases hu with ⟨rfl, fast | other⟩ | ⟨rfl, slow⟩
      · rw [if_pos fast]; exact tested
      · exact tested.of_other other nofun
      · rw [if_neg (Nat.not_lt.2 slow)]; exact tested
    refine ⟨?_, fun k l => absurd ⟨k, l⟩ h, fun _ => ⟨?_, fun k => ?_, fun k => ?_, fun k => ?_⟩⟩
    · rcases hu with ⟨rfl, -⟩ | ⟨rfl, -⟩ <;> exact seatRecord
    · convert goesOn using 1
      rcases g with ⟨_, _ | _⟩ <;> rfl
    · rcases hu with ⟨rfl, -⟩ | ⟨rfl, -⟩
      · rw [still (.inl k)]; exact ⟨rfl, rfl⟩
      · rw [still (.inl k)] at k; cases k
    · rcases hu with ⟨rfl, -⟩ | ⟨rfl, -⟩
      · rw [still (.inr k)] at k; cases k
      · rw [still (.inr k)]; rfl
    · obtain ⟨supply, check, oc, stall, pattern, start⟩ := kept k
      rcases hu with ⟨rfl, -⟩ | ⟨rfl, -⟩ <;> exact ⟨check, oc, stall, pattern, start, supply⟩

/-! ### What the drive's part of an admission leaves, and what it does not read -/

/-- `t` is `s` but for the drive, the cross-check deadline, what the sags count, and the occasion for a STATE. -/
def DriveMoved (s t : State) : Prop := ∃ d check timer count occasion, t = { s with
  drive := d, pos := { s.pos with crossCheckDl := check }
  supply := { s.supply with sagTimer := timer, sagCount := count }, occasion := occasion }

theorem DriveMoved.refl (s : State) : DriveMoved s s := ⟨_, _, _, _, _, rfl⟩

theorem DriveMoved.trans {s t u : State} (h : DriveMoved s t) (k : DriveMoved t u) : DriveMoved s u := by
  obtain ⟨_, _, _, _, _, rfl⟩ := h
  obtain ⟨_, _, _, _, _, rfl⟩ := k
  exact ⟨_, _, _, _, _, rfl⟩

theorem DriveMoved.setDrive (s : State) (d : Drive) : DriveMoved s (s.setDrive d) := ⟨_, _, _, _, _, rfl⟩

theorem DriveMoved.noteOccasion (s : State) : DriveMoved s (noteOccasion s) := ⟨_, _, _, _, _, rfl⟩

theorem moveDrive_moved (d : Drive) (s : State) : DriveMoved s (moveDrive d s) := by
  unfold moveDrive
  dsimp only
  split <;> split <;> exact ⟨_, _, _, _, _, rfl⟩

theorem arrive_moved (s : State) : DriveMoved s (arrive s) := ⟨_, _, _, _, _, rfl⟩

theorem positionTests_moved (s : State) : DriveMoved s (positionTests s) := by
  have near : ∀ b : Bool, DriveMoved s (if b then enterApproach s else s) := fun b => by
    split
    · exact moveDrive_moved _ s
    · exact .refl s
  unfold positionTests
  split
  · dsimp only
    split
    · split
      · split
        · exact moveDrive_moved _ s
        · exact near _
      · split
        · exact arrive_moved s
        · exact near _
    · exact .refl s
  · exact .refl s

theorem rampToTravel_moved (s : State) : DriveMoved s (rampToTravel s) := by
  unfold rampToTravel
  split
  · exact (moveDrive_moved _ s).trans (positionTests_moved _)
  · exact .refl s

theorem enterRamp_moved (s : State) : DriveMoved s (enterRamp s) := by
  unfold enterRamp
  split
  · exact moveDrive_moved _ s
  · split
    · exact (DriveMoved.setDrive s _).trans (moveDrive_moved _ _)
    · exact (((moveDrive_moved _ s).trans (.noteOccasion _)).trans
        (positionTests_moved _)).trans (rampToTravel_moved _)

theorem driveAdmitted_moved (s : State) : DriveMoved s (driveAdmitted s) := by
  unfold driveAdmitted enterWarning
  split
  · split
    · exact enterRamp_moved s
    · exact moveDrive_moved _ s
  · exact .refl s

/-- The node with other entries in the Intent List. -/
def withEntries (l : List Entry) (s : State) : State := s.setSupply { s.supply with entries := l }

section
variable (l : List Entry) (s : State)

@[simp] theorem withEntries_drive : (withEntries l s).drive = s.drive := rfl
@[simp] theorem withEntries_pos : (withEntries l s).pos = s.pos := rfl
@[simp] theorem withEntries_cfg : (withEntries l s).cfg = s.cfg := rfl

theorem moveDrive_withEntries (d : Drive) : moveDrive d (withEntries l s) = withEntries l (moveDrive d s) := by
  unfold moveDrive
  dsimp only
  split <;> split <;> rfl

theorem positionTests_withEntries : positionTests (withEntries l s) = withEntries l (positionTests s) := by
  have seating : enterSeating (withEntries l s) = withEntries l (enterSeating s) := moveDrive_withEntries l s _
  have approach : enterApproach (withEntries l s) = withEntries l (enterApproach s) := moveDrive_withEntries l s _
  have arrival : arrive (withEntries l s) = withEntries l (arrive s) := rfl
  have rest : ∀ dir t, remaining dir (targetCount t (withEntries l s)) (withEntries l s) =
    remaining dir (targetCount t s) s := fun _ _ => rfl
  unfold positionTests
  simp only [withEntries_drive, withEntries_pos, withEntries_cfg, seating, approach, arrival, rest]
  split
  · split
    · split <;> split_ifs <;> rfl
    · rfl
  · rfl

theorem rampToTravel_withEntries : rampToTravel (withEntries l s) = withEntries l (rampToTravel s) := by
  unfold rampToTravel
  simp only [withEntries_drive, withEntries_cfg, moveDrive_withEntries, positionTests_withEntries]
  split_ifs <;> rfl

theorem enterRamp_withEntries : enterRamp (withEntries l s) = withEntries l (enterRamp s) := by
  cases hg : s.drive.goal with
  | none =>
    simp only [enterRamp, withEntries_drive, hg]
    exact moveDrive_withEntries l s _
  | some g =>
    by_cases h : suspect s = true ∧ g.target ≠ .seat
    · rw [enterRamp_brakes hg h, enterRamp_brakes (s := withEntries l s) hg h]
      rfl
    · rw [enterRamp_begins hg h, enterRamp_begins (s := withEntries l s) hg h, ← rampToTravel_withEntries,
        ← positionTests_withEntries]
      rfl

/-- The drive takes an admission without a look at the Intent List (R121). -/
theorem driveAdmitted_withEntries : driveAdmitted (withEntries l s) = withEntries l (driveAdmitted s) := by
  have warning : enterWarning (withEntries l s) = withEntries l (enterWarning s) := by
    unfold enterWarning
    rw [enterRamp_withEntries, moveDrive_withEntries, apply_ite (withEntries l)]
    rfl
  unfold driveAdmitted
  rw [warning, apply_ite (withEntries l)]
  rfl

end

/-! ### Evaluations (R107, R108) -/

/-- The supply granted (R108): admitted and running, the own entry gone. -/
def granted (s : State) : State := s.setSupply { s.supply with
  entries := withoutOwn s.supply.entries, own := none, admission := .admitted, running := true
  settleDl := none, refreshDl := none }

/-- The supply not granted: the node goes on WAITING (R108). -/
def heldBack (s : State) : State := s.setSupply { s.supply with admission := .waiting, settleDl := none }

theorem occasionToEvaluate_waits_not {s : State} (h : s.supply.admission ≠ .waiting) :
    occasionToEvaluate s = s := if_neg h

theorem occasionToEvaluate_admits {s : State} (h : s.supply.admission = .waiting) (hl : loadOf s ≤ s.cfg.budget) :
    occasionToEvaluate s = driveAdmitted (granted s) := (if_pos h).trans (if_pos hl)

theorem occasionToEvaluate_holds {s : State} (h : s.supply.admission = .waiting) (hl : s.cfg.budget < loadOf s) :
    occasionToEvaluate s = heldBack s := (if_pos h).trans (if_neg (Nat.not_le.2 hl))

/-- What an admission leaves: an admitted node without an own entry, the rest of its Intent List as it was. -/
theorem driveAdmitted_granted (s : State) : ∃ d check timer count occasion, driveAdmitted (granted s) = { s with
    drive := d, pos := { s.pos with crossCheckDl := check }, occasion := occasion
    supply := { s.supply with
      entries := withoutOwn s.supply.entries, own := none, admission := .admitted, running := true
      settleDl := none, refreshDl := none, sagTimer := timer, sagCount := count } } := by
  obtain ⟨_, _, _, _, _, h⟩ := driveAdmitted_moved (granted s)
  exact ⟨_, _, _, _, _, h⟩

/-- After an evaluation occasion another one without a change between finds nothing new. -/
theorem occasionToEvaluate_twice (s : State) : occasionToEvaluate (occasionToEvaluate s) = occasionToEvaluate s := by
  by_cases hw : s.supply.admission = .waiting
  · by_cases hl : loadOf s ≤ s.cfg.budget
    · rw [occasionToEvaluate_admits hw hl]
      obtain ⟨_, _, _, _, _, h⟩ := driveAdmitted_granted s
      exact occasionToEvaluate_waits_not (by rw [h]; nofun)
    · have above := Nat.lt_of_not_le hl
      rw [occasionToEvaluate_holds hw above]
      exact occasionToEvaluate_holds (s := heldBack s) rfl above
  · rw [occasionToEvaluate_waits_not hw, occasionToEvaluate_waits_not hw]

/-- A peer's entry dropped from the Intent List. -/
def dropEntry (src : Nat) (s : State) : State := withEntries (withoutSource src s.supply.entries) s

theorem withoutSource_withoutOwn (src : Nat) (l : List Entry) :
    withoutSource src (withoutOwn l) = withoutOwn (withoutSource src l) := by
  simp only [withoutSource, withoutOwn, List.filter_filter]
  exact List.filter_congr fun e _ => Bool.and_comm _ _

/-- The weights ahead of the own entry do not grow when a peer's entry goes (R107). -/
theorem weightAhead_withoutSource (src : Nat) (l : List Entry) :
    (((withoutSource src l).takeWhile fun e => !e.own).map Entry.weight).sum ≤
      ((l.takeWhile fun e => !e.own).map Entry.weight).sum := by
  induction l with
  | nil => exact Nat.le_refl _
  | cons e l ih =>
    cases ho : e.own with
    | true => simp [withoutSource, ho]
    | false =>
      by_cases hs : e.source = src
      · have gone : withoutSource src (e :: l) = withoutSource src l := by simp [withoutSource, hs, ho]
        rw [gone]
        simp only [List.takeWhile_cons, ho, Bool.not_false, if_true, List.map_cons, List.sum_cons]
        omega
      · have stays : withoutSource src (e :: l) = e :: withoutSource src l := by simp [withoutSource, hs]
        rw [stays]
        simp only [List.takeWhile_cons, ho, Bool.not_false, if_true, List.map_cons, List.sum_cons]
        omega

theorem loadOf_dropEntry (src : Nat) (s : State) : loadOf (dropEntry src s) ≤ loadOf s := by
  have ahead := weightAhead_withoutSource src s.supply.entries
  show runningWeight s + _ + _ ≤ runningWeight s + _ + _
  exact Nat.add_le_add_right (Nat.add_le_add_left ahead _) _

theorem dropEntry_granted (src : Nat) (s : State) : dropEntry src (granted s) = granted (dropEntry src s) := by
  show withEntries (withoutSource src (withoutOwn s.supply.entries)) (granted s) = _
  rw [withoutSource_withoutOwn]
  rfl

theorem dropEntry_driveAdmitted (src : Nat) (s : State) :
    dropEntry src (driveAdmitted s) = driveAdmitted (dropEntry src s) := by
  have entries : (driveAdmitted s).supply.entries = s.supply.entries := by
    obtain ⟨_, _, _, _, _, h⟩ := driveAdmitted_moved s
    rw [h]
  show withEntries (withoutSource src (driveAdmitted s).supply.entries) (driveAdmitted s) = _
  rw [entries]
  exact (driveAdmitted_withEntries _ s).symm

/-- Of the evaluations before and after a peer's entry goes, the one after it decides (R107, R108). -/
theorem occasionToEvaluate_dropEntry (src : Nat) (s : State) :
    occasionToEvaluate (dropEntry src (occasionToEvaluate s)) = occasionToEvaluate (dropEntry src s) := by
  by_cases hw : s.supply.admission = .waiting
  · by_cases hl : loadOf s ≤ s.cfg.budget
    · have less := (loadOf_dropEntry src s).trans hl
      rw [occasionToEvaluate_admits hw hl, occasionToEvaluate_admits (s := dropEntry src s) hw less,
        dropEntry_driveAdmitted, dropEntry_granted]
      obtain ⟨_, _, _, _, _, h⟩ := driveAdmitted_granted (dropEntry src s)
      exact occasionToEvaluate_waits_not (by rw [h]; nofun)
    · rw [occasionToEvaluate_holds hw (Nat.lt_of_not_le hl)]
      by_cases hd : loadOf (dropEntry src s) ≤ s.cfg.budget
      · rw [occasionToEvaluate_admits (s := dropEntry src s) hw hd]
        exact occasionToEvaluate_admits (s := dropEntry src (heldBack s)) rfl hd
      · have above := Nat.lt_of_not_le hd
        rw [occasionToEvaluate_holds (s := dropEntry src s) hw above]
        exact occasionToEvaluate_holds (s := dropEntry src (heldBack s)) rfl above
  · rw [occasionToEvaluate_waits_not hw]

/-! ### A command that brings an occasion to evaluate (R51, R103, R104, R108) -/

/-- The node with another line, Peer Table and Intent List: what an arrival or a scan brings before an evaluation. -/
def withTables (line : Line) (peers : List PeerRecord) (entries : List Entry) (s : State) : State :=
  { s with line := line, peers := peers, supply := { s.supply with entries := entries } }

/-- Tables alone are neither reported nor mirrored. -/
theorem commit_withTables {s : State} (hr : Ready s) (line : Line) (peers : List PeerRecord) (entries : List Entry) :
    commit s (withTables line peers entries s) = withTables line peers entries s := by
  obtain ⟨-, noOccasion, mirrors⟩ := hr
  exact commit_quiet noOccasion rfl (mirrors.keep rfl rfl)

theorem RampEntered.ends {g : Goal} {s n t : State} (h : RampEntered g s n) (e : EndsAs n t) : RampEntered g s t := by
  obtain ⟨r, f, hd⟩ := e.drive
  obtain ⟨p, hp⟩ := e.pos
  obtain ⟨l, hl⟩ := e.levels
  show RampEntered g s { n with drive := t.drive, pos := t.pos, levels := t.levels, supply := t.supply }
  rw [hd, hp, hl, e.supply]
  exact h

/-- A state that a report of `u` led to is one that a report of `s` led to, when both run and the line is the same. -/
theorem Reported.of_running {s u t : State} (h : Reported u t) (hr : t.supply.running = true) (hn : u.nt = s.nt)
    (hl : u.line = s.line) (hp : refusesPlacement .state u = refusesPlacement .state s) : Reported s t := by
  obtain ⟨last, refresh, line, others, placed⟩ := h
  rw [if_pos hr, hn] at refresh
  rw [hl] at line others placed
  rw [hp] at placed
  exact ⟨last, by rw [if_pos hr]; exact refresh, line, others, placed⟩

/-- The weight that a record adds to a load (R56), by its state part. -/
theorem memberWeight_eq (s : State) (r : PeerRecord) : memberWeight s r =
    r.st.elim 0 fun p => if p.running && p.group == s.cfg.group then p.weight else 0 := by
  unfold memberWeight runningMember
  cases r.st <;> rfl

section
variable {s given : State} {line : Line} {peers : List PeerRecord} {entries : List Entry}
  (hg : given = withTables line peers entries s)
include hg

/-- An admission with the tables that a command brings, at the end of the command (R108, R121 to R124). -/
theorem commit_admitted : let t := commit s (driveAdmitted (granted given))
    t.peers = given.peers ∧ t.supply.entries = withoutOwn given.supply.entries ∧ t.supply.own = none ∧
    t.supply.admission = .admitted ∧ t.supply.running = true ∧ t.supply.settleDl = none ∧ t.supply.refreshDl = none ∧
    (s.drive.state ≠ .waitSlot → t.drive = { s.drive with refreshDl := t.drive.refreshDl }) ∧
    (s.drive.state = .waitSlot → s.safe = false → s.supply.running = false → Reported given t) ∧
    (s.drive.state = .waitSlot → warningTime s.drive.goal s ≠ 0 →
      t.drive.state = .warning ∧ t.drive.goal = s.drive.goal ∧
      t.drive.warningDl = some (after s.nt (100 * warningTime s.drive.goal s))) ∧
    (s.drive.state = .waitSlot → warningTime s.drive.goal s = 0 → ∀ g, s.drive.goal = some g →
      RampEntered g (granted given) t) := by
  intro t
  obtain ⟨d, check, timer, count, occasion, moved⟩ := driveAdmitted_granted given
  have supply : t.supply = { given.supply with
      entries := withoutOwn given.supply.entries, own := none, admission := .admitted, running := true
      settleDl := none, refreshDl := none, sagTimer := timer, sagCount := count } :=
    (commit_supply _ _).trans (congrArg State.supply moved)
  have running : t.supply.running = true := congrArg Supply.running supply
  have drive : t.drive = { (driveAdmitted (granted given)).drive with refreshDl := t.drive.refreshDl } :=
    commit_drive _ _
  have warns : s.drive.state = .waitSlot → driveAdmitted (granted given) = enterWarning (granted given) := fun k => by
    subst hg
    exact if_pos k
  refine ⟨?_, congrArg Supply.entries supply, congrArg Supply.own supply, congrArg Supply.admission supply, running,
    congrArg Supply.settleDl supply, congrArg Supply.refreshDl supply, fun k => ?_, fun k hs hn => ?_,
    fun k time => ?_, fun k time g goal => ?_⟩
  · show (commit _ _).peers = _
    rw [commit_frame, moved]
  · have still : driveAdmitted (granted given) = granted given := by
      subst hg
      exact if_neg k
    rw [drive, still, hg]
    rfl
  · have changed : reportedFields s ≠ reportedFields (driveAdmitted (granted given)) := fun same => by
      have runs := congrArg (fun fields => fields.2.2.2.2.2) same
      rw [moved] at runs
      exact absurd (hn.symm.trans runs) nofun
    have reported := commit_reported s (driveAdmitted (granted given)) (by rw [moved, hg]; exact hs) (.inr changed)
    exact reported.of_running running (by rw [moved]) (by rw [moved]) (by rw [moved]; rfl)
  · have warned : driveAdmitted (granted given) = _ := (warns k).trans (if_neg (by rw [hg]; exact time))
    rw [drive, warned, hg, moveDrive_eq]
    exact ⟨rfl, rfl, rfl⟩
  · have ramp : driveAdmitted (granted given) = enterRamp (granted given) := by
      rw [warns k]
      exact if_pos (by rw [hg]; exact time)
    have entered : RampEntered g (granted given) (enterRamp (granted given)) :=
      enterRamp_entered (by rw [hg]; exact goal)
    rw [← ramp] at entered
    exact entered.ends (commit_ends _ _)

/-- An evaluation occasion of a waiting node, at the end of its command (R107, R108). -/
theorem commit_evaluated {c : Instr} (hr : Ready s) (hw : s.supply.admission = .waiting)
    (he : exec c s = .next (commit s (occasionToEvaluate given))) : Evaluated c s given := by
  unfold Evaluated
  intro load admitted
  have loadIs : load = loadOf given := by
    have weights : runningWeight given = _ :=
      congrArg (fun w => (given.peers.map w).sum) (funext (memberWeight_eq given))
    show _ + _ + _ = runningWeight given + _ + _
    rw [weights, hg]
    refine congrArg (fun w => (peers.map w).sum + _ + _) (funext fun r => ?_)
    cases r.st <;> rfl
  have waiting : given.supply.admission = .waiting := by rw [hg]; exact hw
  have budget : given.cfg.budget = s.cfg.budget := by rw [hg]; rfl
  rw [loadIs, ← budget]
  refine ⟨fun above => ?_, fun within => ⟨_, ?_, commit_admitted hg⟩⟩
  · obtain ⟨-, noOccasion, mirrors⟩ := hr
    rw [he, occasionToEvaluate_holds waiting above, hg]
    exact congrArg _ (commit_quiet noOccasion rfl (mirrors.keep rfl rfl))
  · rw [he, occasionToEvaluate_admits waiting within]

/-- What a command ends in whose effect is an evaluation occasion with the tables that it brings. -/
theorem exec_evaluates {c : Instr} (hr : Ready s) (he : exec c s = .next (commit s (occasionToEvaluate given))) :
    (s.supply.admission ≠ .waiting → exec c s = .next given) ∧
    (s.supply.admission = .waiting → Evaluated c s given) := by
  refine ⟨fun hw => ?_, fun hw => commit_evaluated hg hr hw he⟩
  rw [he, occasionToEvaluate_waits_not (by rw [hg]; exact hw), hg, commit_withTables hr]

end

end Sys2Proof.Machine
end

section
/-! A scan of the Peer Table (R51 to R53). -/

namespace Sys2Proof.Machine

/-- What a notice brings before its evaluation: a record removed takes the peer's entry with it (R104). -/
def noted (s : State) : Notice → State
  | .removed src => dropEntry src s
  | .runningCleared _ => s

theorem takeNotice_eq (s : State) (n : Notice) : takeNotice s n = occasionToEvaluate (noted s n) := by
  cases n <;> rfl

theorem occasionToEvaluate_noted (s : State) (n : Notice) :
    occasionToEvaluate (noted (occasionToEvaluate s) n) = occasionToEvaluate (noted s n) := by
  cases n with
  | removed src => exact occasionToEvaluate_dropEntry src s
  | runningCleared src => exact occasionToEvaluate_twice s

/-- Of the evaluations at a series of notices, the last decides. -/
theorem takeNotices_evaluated (ns : List Notice) (s : State) :
    ns.foldl takeNotice (occasionToEvaluate s) = occasionToEvaluate (ns.foldl noted s) := by
  induction ns generalizing s with
  | nil => rfl
  | cons n ns ih => rw [List.foldl_cons, takeNotice_eq, occasionToEvaluate_noted, ih, List.foldl_cons]

theorem takeNotices_eq {ns : List Notice} (h : ns ≠ []) (s : State) :
    ns.foldl takeNotice s = occasionToEvaluate (ns.foldl noted s) := by
  cases ns with
  | nil => exact absurd rfl h
  | cons n ns => rw [List.foldl_cons, takeNotice_eq, takeNotices_evaluated, List.foldl_cons]

theorem scanNotice_old {nt : Time} {r : PeerRecord} (h : 30000 < age nt r.heardAt) :
    scanNotice nt r = some (.removed r.source) := if_pos (decide_eq_true h)

/-- A record that a scan leaves gives at most the notice of a running mark cleared. -/
theorem scanNotice_young {nt : Time} {r : PeerRecord} (h : ¬30000 < age nt r.heardAt) :
    ((∃ p, r.st = some p ∧ p.running = true ∧ 7000 < age nt p.stateAt) ∧
      scanNotice nt r = some (.runningCleared r.source)) ∨
    ((¬∃ p, r.st = some p ∧ p.running = true ∧ 7000 < age nt p.stateAt) ∧ scanNotice nt r = none) := by
  have young : tooOld nt r = false := decide_eq_false h
  cases hp : r.st with
  | none => exact .inr ⟨by simp, by simp [scanNotice, young, hp]⟩
  | some p =>
    by_cases hm : p.running = true ∧ 7000 < age nt p.stateAt
    · exact .inl ⟨⟨p, rfl, hm⟩, by simp [scanNotice, young, hp, markAged, hm]⟩
    · refine .inr ⟨fun ⟨q, hq, k⟩ => hm (Option.some.inj hq ▸ k), ?_⟩
      have unaged : markAged nt p = false := by simpa [markAged] using hm
      simp [scanNotice, young, hp, unaged]

/-- A scan gives a notice just where it removes a record or clears a running mark (R51, R52). -/
theorem scanNotices_ne_nil (nt : Time) (l : List PeerRecord) : l.filterMap (scanNotice nt) ≠ [] ↔
    ∃ r ∈ l, 30000 < age nt r.heardAt ∨ ∃ p, r.st = some p ∧ p.running = true ∧ 7000 < age nt p.stateAt := by
  have gives : ∀ r, scanNotice nt r ≠ none ↔
      30000 < age nt r.heardAt ∨ ∃ p, r.st = some p ∧ p.running = true ∧ 7000 < age nt p.stateAt := by
    intro r
    by_cases hold : 30000 < age nt r.heardAt
    · simp [scanNotice_old hold, hold]
    · rcases scanNotice_young hold with ⟨aged, notice⟩ | ⟨unaged, notice⟩
      · exact iff_of_true (by rw [notice]; nofun) (.inr aged)
      · exact iff_of_false (fun k => k notice) fun k => k.elim hold unaged
  simp only [ne_eq, List.filterMap_eq_nil_iff, not_forall, ← gives, exists_prop]

/-- The entries that a scan of records leaves in the Intent List: those of no peer removed (R53, R104). -/
def entriesAfterScan (nt : Time) (l : List PeerRecord) (es : List Entry) : List Entry :=
  es.filter fun e => e.own || l.all fun r => r.source != e.source || decide (age nt r.heardAt ≤ 30000)

theorem entriesAfterScan_nil (nt : Time) (es : List Entry) : entriesAfterScan nt [] es = es := by
  simp [entriesAfterScan]

theorem entriesAfterScan_young {nt : Time} {r : PeerRecord} (h : ¬30000 < age nt r.heardAt) (l : List PeerRecord)
    (es : List Entry) : entriesAfterScan nt (r :: l) es = entriesAfterScan nt l es := by
  simp [entriesAfterScan, Nat.le_of_not_lt h]

theorem entriesAfterScan_old {nt : Time} {r : PeerRecord} (h : 30000 < age nt r.heardAt) (l : List PeerRecord)
    (es : List Entry) : entriesAfterScan nt (r :: l) es = entriesAfterScan nt l (withoutSource r.source es) := by
  have old : decide (age nt r.heardAt ≤ 30000) = false := decide_eq_false (Nat.not_le.2 h)
  rw [entriesAfterScan, entriesAfterScan, withoutSource, List.filter_filter]
  refine List.filter_congr fun e _ => ?_
  rw [List.all_cons, old, Bool.or_false, bne_comm]
  cases e.own <;> simp [Bool.and_comm]

/-- The notices of a scan drop the entries of the peers removed, and no other. -/
theorem notedScan_eq (nt : Time) (l : List PeerRecord) (s : State) :
    (l.filterMap (scanNotice nt)).foldl noted s = withEntries (entriesAfterScan nt l s.supply.entries) s := by
  induction l generalizing s with
  | nil => rw [entriesAfterScan_nil]; rfl
  | cons r l ih =>
    by_cases hold : 30000 < age nt r.heardAt
    · rw [List.filterMap_cons_some (scanNotice_old hold), List.foldl_cons, ih, entriesAfterScan_old hold]
      rfl
    · rw [entriesAfterScan_young hold, ← ih]
      rcases scanNotice_young hold with ⟨-, notice⟩ | ⟨-, notice⟩
      · rw [List.filterMap_cons_some notice]
        rfl
      · rw [List.filterMap_cons_none notice]

/-- A record after a scan that leaves it, as R52 has it. -/
theorem scanned_eq (nt : Time) (r : PeerRecord) : scanned nt r = { r with
    obs := r.obs.map fun o => { o with fresh := o.fresh && decide (age nt o.observedAt ≤ 7000) }
    st := r.st.map fun p => { p with running := p.running && decide (age nt p.stateAt ≤ 7000) } } := by
  have stale : staleObs nt = fun o => { o with fresh := o.fresh && decide (age nt o.observedAt ≤ 7000) } := by
    funext o
    rcases o with ⟨_, _, _, _, _, _, _, _, at', fresh⟩
    by_cases h : age nt at' ≤ 7000 <;> cases fresh <;> simp [staleObs, h]
  have clear : clearMark nt = fun p => { p with running := p.running && decide (age nt p.stateAt ≤ 7000) } := by
    funext p
    rcases p with ⟨running, _, _, at'⟩
    by_cases h : age nt at' ≤ 7000 <;> cases running <;> simp [clearMark, markAged, h]
  rw [scanned, stale, clear]

theorem scanTable_eq (nt : Time) (l : List PeerRecord) : scanTable nt l =
    (l.filter fun r => decide (age nt r.heardAt ≤ 30000)).map fun r => { r with
      obs := r.obs.map fun o => { o with fresh := o.fresh && decide (age nt o.observedAt ≤ 7000) }
      st := r.st.map fun p => { p with running := p.running && decide (age nt p.stateAt ≤ 7000) } } := by
  have young : (fun r : PeerRecord => !tooOld nt r) = fun r => decide (age nt r.heardAt ≤ 30000) := by
    funext r
    simp only [tooOld, ← Nat.not_le, decide_not, Bool.not_not]
  rw [scanTable, young]
  exact List.map_congr_left fun r _ => scanned_eq nt r

/-- What a scan brings before its evaluation. -/
def tablesScanned (s : State) : State :=
  withTables s.line (scanTable s.nt s.peers) (entriesAfterScan s.nt s.peers s.supply.entries) s

theorem takeScan_noticed {s : State} (h : s.peers.filterMap (scanNotice s.nt) ≠ []) :
    takeScan s = occasionToEvaluate (tablesScanned s) := by
  rw [takeScan, takeNotices_eq h, notedScan_eq]
  rfl

theorem takeScan_unnoticed {s : State} (h : s.peers.filterMap (scanNotice s.nt) = []) :
    takeScan s = tablesScanned s := by
  have entries := notedScan_eq s.nt s.peers (s.setPeers (scanTable s.nt s.peers))
  rw [h] at entries
  rw [takeScan, h]
  exact entries

/-- Settles O33: the notices of a scan come to one evaluation occasion, with the table and the list finished. -/
theorem scanAgesTheTable : Obligations.ScanAgesTheTable := by
  intro s hr hs given noticed
  have isGiven : given = tablesScanned s := by
    rw [tablesScanned, scanTable_eq]
    rfl
  have due : scanDue s = true := decide_eq_true hs
  have noticedIff : noticed ↔ s.peers.filterMap (scanNotice s.nt) ≠ [] := (scanNotices_ne_nil s.nt s.peers).symm
  have scan : exec .peerScan s = .next (commit s (takeScan s)) := congrArg _ (liveWhen_due _ hr.1 due)
  have evaluates : noticed → exec .peerScan s = .next (commit s (occasionToEvaluate given)) := fun k => by
    rw [scan, takeScan_noticed (noticedIff.1 k), isGiven]
  refine ⟨fun h => ?_, fun hw k => (exec_evaluates isGiven hr (evaluates k)).2 hw⟩
  by_cases k : noticed
  · exact (exec_evaluates isGiven hr (evaluates k)).1 (h.resolve_right fun l => l k)
  · have still : takeScan s = given := by
      rw [takeScan_unnoticed (not_not.1 fun l => k (noticedIff.2 l)), isGiven]
    exact congrArg _ (liveWhen_quiet hr due still rfl rfl rfl rfl)

end Sys2Proof.Machine
end

section
/-! An OBSERVE or a STATE brings its record up to date, creates it, or evicts one (R44 to R48, R50). -/

namespace Sys2Proof.Machine

/-! ### The fields of an OBSERVE and a STATE (Figures 2-8, 2-9, R50) -/

theorem topTwoBits (b : Byte) : (b.extractLsb' 6 2).toNat = b.toNat / 64 := by
  have small : b.toNat < 256 := b.isLt
  rw [BitVec.extractLsb'_toNat, Nat.shiftRight_eq_div_pow]
  omega

theorem highNibble (b : Byte) : (b.extractLsb' 4 4).toNat = b.toNat / 16 := by
  have small : b.toNat < 256 := b.isLt
  rw [BitVec.extractLsb'_toNat, Nat.shiftRight_eq_div_pow]
  omega

theorem lowNibble (b : Byte) : (b.extractLsb' 0 4).toNat = b.toNat % 16 := by
  rw [BitVec.extractLsb'_toNat, Nat.shiftRight_zero]

theorem getLsbD_byte (b : Byte) (k : Nat) : b.getLsbD k = (b.toNat / 2 ^ k % 2 == 1) := by
  rw [BitVec.getLsbD, Nat.testBit_eq_decide_div_mod_eq]
  rfl

theorem wetOfCode_eq (c : BitVec 2) : Wet.ofCode c =
    if c.toNat = 0 then .dry else if c.toNat = 1 then .damp else if c.toNat = 2 then .wet else .fault := by
  simp [Wet.ofCode, ← BitVec.toNat_inj]

theorem anemOfCode_eq (c : BitVec 2) : Anem.ofCode c =
    if c.toNat = 0 then .absent else if c.toNat = 1 then .ok else .stuck := by
  simp [Anem.ofCode, ← BitVec.toNat_inj]

/-- An OBSERVE payload as it is held (Figure 2-9, R50). -/
theorem observationOf_eq (p : List Byte) (nt : Time) : observationOf p nt = {
    wet := if (p.getD 0 0).toNat / 64 = 0 then .dry else if (p.getD 0 0).toNat / 64 = 1 then .damp
      else if (p.getD 0 0).toNat / 64 = 2 then .wet else .fault
    skylight := (p.getD 0 0).toNat / 32 % 2 == 1, windCapable := (p.getD 0 0).toNat / 16 % 2 == 1
    facade := (p.getD 0 0).toNat % 16
    anem := if (p.getD 1 0).toNat / 64 = 0 then .absent else if (p.getD 1 0).toNat / 64 = 1 then .ok else .stuck
    direction := if (p.getD 1 0).toNat / 16 % 2 = 1 then some ((p.getD 1 0).toNat % 16) else none
    mean := min 600 ((p.getD 2 0).toNat * 256 + (p.getD 3 0).toNat)
    gust := min 600 ((p.getD 4 0).toNat * 256 + (p.getD 5 0).toNat)
    observedAt := nt, fresh := true } := by
  unfold observationOf wordAt byteAt
  simp only [wetOfCode_eq, anemOfCode_eq, topTwoBits, lowNibble, getLsbD_byte, beq_iff_eq]
  rfl

/-- A STATE payload as it is held (Figure 2-8, R50). -/
theorem peerStateOf_eq (p : List Byte) (nt : Time) : peerStateOf p nt = {
    running := (p.getD 0 0).toNat % 2 == 1, weight := max 1 (min 4 ((p.getD 1 0).toNat / 16))
    group := (p.getD 1 0).toNat % 16, stateAt := nt } := by
  have clamp : ∀ n, clampNat 1 4 n = max 1 (min 4 n) := fun n => by unfold clampNat; split_ifs <;> omega
  unfold peerStateOf payloadWeight payloadGroup heldWeight byteAt
  simp only [highNibble, lowNibble, getLsbD_byte, clamp, Nat.pow_zero, Nat.div_one]

/-! ### A newcomer (R47, R48) -/

theorem placePeer_room {l : List PeerRecord} (h : l.length < 24) (nt : Time) (x : PeerRecord) :
    placePeer nt x l = (insertPeer x l, none) := if_pos h

theorem placePeer_ordinary {l : List PeerRecord} {x : PeerRecord} (h : 24 ≤ l.length) (hx : x.keep = false)
    (nt : Time) : placePeer nt x l = (l, none) := by
  simp [placePeer, Nat.not_lt.2 h, hx]

theorem placePeer_full {l : List PeerRecord} {nt : Time} (h : 24 ≤ l.length) (ho : oldestOrdinary nt l = none)
    (x : PeerRecord) : placePeer nt x l = (l, none) := by
  simp [placePeer, Nat.not_lt.2 h, ho]

theorem placePeer_evicts {l : List PeerRecord} {x old : PeerRecord} {nt : Time} (h : 24 ≤ l.length)
    (hx : x.keep = true) (ho : oldestOrdinary nt l = some old) :
    placePeer nt x l = (insertPeer x (withoutPeer old.source l), some (.removed old.source)) := by
  simp [placePeer, Nat.not_lt.2 h, hx, ho]

/-- `a` is an ORDINARY record of the table, none of them is heard longer ago, and of those heard at the same time none
has a lower id (R48, notes/assumptions/39.md). -/
def Oldest (nt : Time) (l : List PeerRecord) (a : PeerRecord) : Prop :=
  a ∈ l ∧ a.keep = false ∧ ∀ r ∈ l, r.keep = false → age nt r.heardAt ≤ age nt a.heardAt ∧
    (age nt r.heardAt = age nt a.heardAt → a.source ≤ r.source)

/-- One record more: a KEEP one is passed over, an ORDINARY one is taken when it was heard longer ago. -/
theorem olderOrdinary_cases (nt : Time) (acc : Option PeerRecord) (y : PeerRecord) :
    (y.keep = true ∧ olderOrdinary nt acc y = acc) ∨
    (y.keep = false ∧ (∀ b, acc = some b → age nt b.heardAt < age nt y.heardAt) ∧ olderOrdinary nt acc y = some y) ∨
    (y.keep = false ∧ ∃ b, acc = some b ∧ age nt y.heardAt ≤ age nt b.heardAt ∧ olderOrdinary nt acc y = some b) := by
  cases hy : y.keep with
  | true => simp [olderOrdinary, hy]
  | false => cases acc with
    | none => simp [olderOrdinary, hy]
    | some b =>
      by_cases h : age nt b.heardAt < age nt y.heardAt
      · simp [olderOrdinary, hy, h]
      · simp [olderOrdinary, hy, h, Nat.le_of_not_lt h]

/-- The record evicted is the oldest of the ORDINARY ones, if there are any (R48). -/
theorem oldestOrdinary_spec (nt : Time) {l : List PeerRecord} (h : PeersSorted l) :
    (oldestOrdinary nt l = none → ∀ r ∈ l, r.keep = true) ∧ ∀ a, oldestOrdinary nt l = some a → Oldest nt l a := by
  induction l using List.reverseRecOn with
  | nil => simp [oldestOrdinary]
  | append_singleton l y ih =>
    obtain ⟨sorted, -, below⟩ := List.pairwise_append.1 h
    obtain ⟨absent, present⟩ := ih sorted
    have next : oldestOrdinary nt (l ++ [y]) = olderOrdinary nt (oldestOrdinary nt l) y := by
      simp [oldestOrdinary]
    have each : ∀ {P : PeerRecord → Prop}, (∀ r ∈ l, P r) → P y → ∀ r ∈ l ++ [y], P r := fun hl hy =>
      List.forall_mem_append.2 ⟨hl, List.forall_mem_singleton.2 hy⟩
    rw [next]
    rcases olderOrdinary_cases nt (oldestOrdinary nt l) y with ⟨hy, ho⟩ | ⟨hy, older, ho⟩ | ⟨hy, b, hb, younger, ho⟩ <;>
      rw [ho]
    · refine ⟨fun k => each (absent k) hy, fun a ha => ?_⟩
      obtain ⟨mem, ordinary, oldest⟩ := present a ha
      exact ⟨List.mem_append_left _ mem, ordinary, each oldest fun k => by rw [hy] at k; cases k⟩
    · refine ⟨nofun, fun a ha => ?_⟩
      obtain rfl := Option.some.inj ha
      refine ⟨by simp, hy, each (fun r hr k => ?_) fun _ => ⟨Nat.le_refl _, fun _ => Nat.le_refl _⟩⟩
      cases hb : oldestOrdinary nt l with
      | none => rw [absent hb r hr] at k; cases k
      | some b =>
        obtain ⟨-, -, oldest⟩ := present b hb
        have le := (oldest r hr k).1
        have lt := older b hb
        exact ⟨by omega, fun same => by omega⟩
    · refine ⟨nofun, fun a ha => ?_⟩
      obtain rfl := Option.some.inj ha
      obtain ⟨mem, ordinary, oldest⟩ := present b hb
      exact ⟨List.mem_append_left _ mem, ordinary,
        each oldest fun _ => ⟨younger, fun _ => Nat.le_of_lt (below b mem y (by simp))⟩⟩

theorem PeersSorted.source_inj {l : List PeerRecord} (h : PeersSorted l) {a b : PeerRecord} (ha : a ∈ l)
    (hb : b ∈ l) (hs : a.source = b.source) : a = b := by
  have apart : (l.map PeerRecord.source).Nodup := List.pairwise_map.2 (h.imp fun hab => Nat.ne_of_lt hab)
  exact List.inj_on_of_nodup_map apart ha hb hs

/-- A sorted table has one oldest ORDINARY record. -/
theorem oldestOrdinary_of_oldest {nt : Time} {l : List PeerRecord} {a : PeerRecord} (h : PeersSorted l)
    (ha : Oldest nt l a) : oldestOrdinary nt l = some a := by
  obtain ⟨mem, ordinary, oldest⟩ := ha
  obtain ⟨absent, present⟩ := oldestOrdinary_spec nt h
  cases ho : oldestOrdinary nt l with
  | none => exact absurd (absent ho a mem) (by rw [ordinary]; nofun)
  | some b =>
    obtain ⟨memB, ordinaryB, oldestB⟩ := present b ho
    obtain ⟨le, tie⟩ := oldest b memB ordinaryB
    obtain ⟨leB, tieB⟩ := oldestB a mem ordinary
    have same : b.source = a.source := Nat.le_antisymm (tieB (by omega)) (tie (by omega))
    rw [h.source_inj memB mem same]

theorem oldestOrdinary_of_keep {nt : Time} {l : List PeerRecord} (h : ∀ r ∈ l, r.keep = true) :
    oldestOrdinary nt l = none := by
  induction l using List.reverseRecOn with
  | nil => rfl
  | append_singleton l y ih =>
    have last : y.keep = true := h y (by simp)
    have before := ih fun r hr => h r (List.mem_append_left _ hr)
    unfold oldestOrdinary at *
    rw [List.foldl_append, before]
    simp [olderOrdinary, last]

/-- The table after an eviction: the newcomer in the place of the record evicted. -/
theorem mem_evicted {l : List PeerRecord} (h : PeersSorted l) {old : PeerRecord} (ho : old ∈ l) (x r : PeerRecord) :
    r ∈ insertPeer x (withoutPeer old.source l) ↔ (r ∈ l ∧ r ≠ old) ∨ r = x := by
  have left : r ∈ withoutPeer old.source l ↔ r ∈ l ∧ r ≠ old := by
    rw [withoutPeer, List.mem_filter, bne_iff_ne]
    exact and_congr_right fun hr => not_congr ⟨h.source_inj hr ho, congrArg PeerRecord.source⟩
  rw [mem_insertPeer, left, or_comm]

theorem findPeer_new {src : Nat} {l : List PeerRecord} (h : ∀ r ∈ l, r.source ≠ src) : findPeer src l = none := by
  simpa [findPeer] using h

theorem recordable_of {src : Nat} (h0 : src ≠ 0) (h63 : src ≠ 63) : recordable src = true := by
  simp [recordable, h0, h63]

section
variable {src : Nat} {s : State} (hr : recordable src = true)
include hr

/-- A record that stands is brought up to date (R45, R46). -/
theorem notePeer_known (h : ∃ r ∈ s.peers, r.source = src) (obs : Option Observation) (st : Option PeerState) :
    notePeer src obs st s = s.setPeers (updatePeer src (fun r => { r with
      heardAt := s.nt, obs := obs.or r.obs, st := st.or r.st
      keep := keepOf s (obs.or r.obs) (st.or r.st) }) s.peers) := by
  have found : findPeer src s.peers ≠ none := fun k => by
    obtain ⟨r, mem, hs⟩ := h
    exact findPeer_none k r mem hs
  obtain ⟨r, hf⟩ := Option.ne_none_iff_exists'.1 found
  simp [notePeer, hr, hf]

/-- A newcomer without an eviction (R47, R48). -/
theorem notePeer_new (h : ∀ r ∈ s.peers, r.source ≠ src) {obs : Option Observation} {st : Option PeerState}
    {l : List PeerRecord} (hp : placePeer s.nt ⟨src, keepOf s obs st, s.nt, obs, st⟩ s.peers = (l, none)) :
    notePeer src obs st s = s.setPeers l := by
  simp [notePeer, hr, findPeer_new h, hp]

/-- A newcomer that evicts a record (R48, R51). -/
theorem notePeer_evicts (h : ∀ r ∈ s.peers, r.source ≠ src) {obs : Option Observation} {st : Option PeerState}
    {l : List PeerRecord} {n : Notice}
    (hp : placePeer s.nt ⟨src, keepOf s obs st, s.nt, obs, st⟩ s.peers = (l, some n)) :
    notePeer src obs st s = takeNotice (s.setPeers l) n := by
  simp [notePeer, hr, findPeer_new h, hp]

end

/-! ### An OBSERVE -/

section
variable {bits : List Bool} {f : Frame} {s : State} (hr : Ready s) (hrec : receive bits = some f)
  (hk : f.kind = Kind.observe.code) (hs : f.source.toNat ≠ lineId s)
include hr hrec hk hs

theorem exec_observeArrival : exec (.observeArrival bits) s = .next (commit s
    (notePeer f.source.toNat (some (observationOf f.payload s.nt)) none (hearOther s))) := by
  have taken := arrival_taken (mine := ofKind .observe) (take := fun f s =>
    notePeer f.source.toNat (some (observationOf f.payload s.nt)) none s) hrec (beq_iff_eq.2 hk) hs
  refine congrArg Host.Outcome.next ((if_pos hr.1).trans ?_)
  rw [taken]
  rfl

/-- An OBSERVE that evicts no record changes the hearing and the table alone. -/
theorem exec_observeArrival_quiet {l : List PeerRecord}
    (h : notePeer f.source.toNat (some (observationOf f.payload s.nt)) none (hearOther s) = (hearOther s).setPeers l) :
    exec (.observeArrival bits) s = .next ((hearOther s).setPeers l) := by
  rw [exec_observeArrival hr hrec hk hs, h]
  exact congrArg _ (commit_withTables hr _ _ _)

end

/-- An evaluation occasion adds no entry to the Intent List. -/
theorem mem_entries_of_occasionToEvaluate {s : State} {e : Entry} (h : e ∈ (occasionToEvaluate s).supply.entries) :
    e ∈ s.supply.entries := by
  by_cases hw : s.supply.admission = .waiting
  · by_cases hl : loadOf s ≤ s.cfg.budget
    · rw [occasionToEvaluate_admits hw hl] at h
      obtain ⟨_, _, _, _, _, left⟩ := driveAdmitted_granted s
      rw [left] at h
      exact (mem_withoutOwn.1 h).1
    · rw [occasionToEvaluate_holds hw (Nat.lt_of_not_le hl)] at h
      exact h
  · rwa [occasionToEvaluate_waits_not hw] at h

/-- Settles O31: an OBSERVE is noted; only the notice of an eviction has the node evaluate. -/
theorem observeRenewsCreatesOrEvicts : Obligations.ObserveRenewsCreatesOrEvicts := by
  refine ⟨fun bits f s hr hrec hk hs h0 h63 => ?_,
    fun bits f s hr hrec hk hs h0 h63 capable full lawful absent => ?_⟩
  · intro src b0 b1 seen heard inGroup
    have record := recordable_of h0 h63
    have isSeen : observationOf f.payload s.nt = seen := observationOf_eq _ _
    have quiet := fun l => exec_observeArrival_quiet (l := l) hr hrec hk hs
    rw [isSeen] at quiet
    have keepNew : keepOf (hearOther s) (some seen) none = seen.windCapable := Bool.or_false _
    refine ⟨fun known => ?_, fun absent room => ?_, fun absent full plain => ?_⟩
    · refine (quiet _ (notePeer_known (s := hearOther s) record known _ _)).trans ?_
      refine congrArg (fun l => Host.Outcome.next (heard.setPeers l)) (List.map_congr_left fun r _ => ?_)
      rcases r with ⟨_, _, _, _, _ | _⟩ <;> rfl
    · refine ⟨_, quiet _ (notePeer_new (s := hearOther s) record absent (placePeer_room room _ _)), fun r => ?_⟩
      rw [mem_insertPeer, keepNew, or_comm]
      rfl
    · exact quiet _ (notePeer_new (s := hearOther s) record absent
        (placePeer_ordinary full (keepNew.trans plain) _))
  · obtain ⟨-, sorted, -⟩ := lawful
    have record := recordable_of h0 h63
    have keepNew : keepOf (hearOther s) (some (observationOf f.payload s.nt)) none = true :=
      (Bool.or_false _).trans capable
    refine ⟨fun keeps => ⟨_, exec_observeArrival_quiet hr hrec hk hs (notePeer_new (s := hearOther s) record absent
      (placePeer_full full.ge (oldestOrdinary_of_keep keeps) _)), rfl⟩, fun old mem ordinary oldest => ?_⟩
    have evicted : oldestOrdinary s.nt s.peers = some old := oldestOrdinary_of_oldest sorted ⟨mem, ordinary, oldest⟩
    refine ⟨_, exec_observeArrival hr hrec hk hs, ?_⟩
    rw [notePeer_evicts (s := hearOther s) record absent (placePeer_evicts full.ge keepNew evicted), commit_supply]
    refine ⟨fun r => ?_, fun e he => ?_⟩
    · have peers := fun t => (takeNotice_moves t (.removed old.source)).peers
      rw [commit_frame]
      dsimp only
      rw [peers, State.setPeers_peers, keepNew]
      exact mem_evicted sorted mem _ r
    · rw [takeNotice_eq] at he
      exact ((mem_withoutSource.1 (mem_entries_of_occasionToEvaluate he)).2).symm

/-! ### A STATE -/

/-- The entries that a STATE leaves in the Intent List: not the sender's where it says running, and not that of a peer
whose record it evicts (R48, R103). -/
def entriesAfterState (runs : Bool) (src : Nat) (gone : Option Nat) (l : List Entry) : List Entry :=
  l.filter fun e => e.own || (!(runs && e.source == src) && gone != some e.source)

/-- What a STATE makes of a node in which it has been noted (R103, R108). -/
def stateHeard (runs : Bool) (src : Nat) (s : State) : State :=
  if runs then dropAndEvaluate src s else occasionToEvaluate s

theorem entriesAfterState_none (runs : Bool) (src : Nat) (l : List Entry) :
    entriesAfterState runs src none l = if runs then withoutSource src l else l := by
  cases runs with
  | true =>
    refine List.filter_congr fun e _ => ?_
    simp [Bool.or_comm, bne]
  | false => simp [entriesAfterState]

theorem entriesAfterState_some (runs : Bool) (src gone : Nat) (l : List Entry) :
    entriesAfterState runs src (some gone) l = entriesAfterState runs src none (withoutSource gone l) := by
  rw [entriesAfterState, entriesAfterState, withoutSource, List.filter_filter]
  refine List.filter_congr fun e _ => ?_
  have same : (some gone != some e.source) = (e.source != gone) := bne_comm
  have other : (none != some e.source) = true := rfl
  rw [same, other]
  cases e.own <;> simp

theorem stateHeard_eq (runs : Bool) (src : Nat) (s : State) : stateHeard runs src s =
    occasionToEvaluate (withEntries (entriesAfterState runs src none s.supply.entries) s) := by
  rw [entriesAfterState_none]
  cases runs <;> rfl

/-- The evaluation at an eviction does not count beside that of the STATE itself. -/
theorem stateHeard_takeNotice (runs : Bool) (src gone : Nat) (s : State) :
    stateHeard runs src (takeNotice s (.removed gone)) =
      occasionToEvaluate (withEntries (entriesAfterState runs src (some gone) s.supply.entries) s) := by
  rw [takeNotice_eq, entriesAfterState_some]
  refine Eq.trans ?_ (stateHeard_eq runs src (dropEntry gone s))
  cases runs with
  | true => exact occasionToEvaluate_dropEntry src (dropEntry gone s)
  | false => exact occasionToEvaluate_twice (dropEntry gone s)

theorem exec_stateArrival {bits : List Bool} {f : Frame} {s : State} (hp : s.power = true)
    (hrec : receive bits = some f) (hk : f.kind = Kind.state.code) (hs : f.source.toNat ≠ lineId s) :
    exec (.stateArrival bits) s = .next (commit s (stateHeard (peerStateOf f.payload s.nt).running f.source.toNat
      (notePeer f.source.toNat none (some (peerStateOf f.payload s.nt)) (hearOther s)))) := by
  have taken := arrival_taken (mine := ofKind .state) (take := fun f s =>
    stateHeard (peerStateOf f.payload s.nt).running f.source.toNat
      (notePeer f.source.toNat none (some (peerStateOf f.payload s.nt)) s)) hrec (beq_iff_eq.2 hk) hs
  refine congrArg Host.Outcome.next ((if_pos hp).trans ?_)
  exact congrArg (commit s) taken

/-- Settles O32: a STATE is noted and comes to one evaluation occasion, with the table and the list finished. -/
theorem stateRenewsTheRunningMark : Obligations.StateRenewsTheRunningMark := by
  intro bits f s hr hrec hk hs h0 h63 runs told line kept brought taken ours fresh
  have record := recordable_of h0 h63
  have isTold : peerStateOf f.payload s.nt = told := peerStateOf_eq _ _
  have keepNew : keepOf (hearOther s) none (some told) = ours := Bool.false_or _
  have made := exec_stateArrival hr.1 hrec hk hs
  rw [isTold] at made
  have takes : ∀ l gone, stateHeard runs f.source.toNat (notePeer f.source.toNat none (some told) (hearOther s)) =
      occasionToEvaluate (brought l gone) → taken (brought l gone) := fun l gone h =>
    exec_evaluates (line := line) (peers := l) (entries := kept gone) rfl hr
      (made.trans (congrArg (fun t => Host.Outcome.next (commit s t)) h))
  have keeps : ∀ l, notePeer f.source.toNat none (some told) (hearOther s) = (hearOther s).setPeers l →
      taken (brought l none) := fun l h => takes l none (by rw [h, stateHeard_eq]; rfl)
  refine ⟨fun known => ?_, fun absent => ⟨fun room => ?_, fun full h => ?_,
    fun full lawful joins old mem ordinary oldest => ?_⟩⟩
  · refine keeps _ ((notePeer_known (s := hearOther s) record known _ _).trans ?_)
    refine congrArg (hearOther s).setPeers (List.map_congr_left fun r _ => ?_)
    rcases r with ⟨_, _, _, _ | _, _⟩ <;> rfl
  · refine ⟨_, keeps _ (notePeer_new (s := hearOther s) record absent (placePeer_room room _ _)), fun r => ?_⟩
    rw [mem_insertPeer, or_comm]
    rfl
  · refine keeps _ (notePeer_new (s := hearOther s) record absent ?_)
    rcases h with other | all
    · exact placePeer_ordinary full other _
    · exact placePeer_full full (oldestOrdinary_of_keep all) _
  · obtain ⟨-, sorted, -⟩ := lawful
    have evicted : oldestOrdinary s.nt s.peers = some old := oldestOrdinary_of_oldest sorted ⟨mem, ordinary, oldest⟩
    refine ⟨_, takes _ (some old.source) ?_, mem_evicted sorted mem fresh⟩
    rw [notePeer_evicts (s := hearOther s) record absent (placePeer_evicts full.ge (keepNew.trans joins) evicted),
      stateHeard_takeNotice]
    rfl

end Sys2Proof.Machine
end

section
/-! The assessment tick of a window end in its parts (R58, R76, R78): the Assessor's stages 1 to 7, the result taken by the
Level Controller, the gust trigger. -/

namespace Sys2Proof.Machine

/-- The node that the tick of a window end assesses: the vane read, the window closed, the anemometer judged. -/
def windowClosed (vane : BitVec 4) (s : State) : State :=
  ((s.setPins { s.pins with vane := vane }).setSensor (windowFront vane s)).setWeather
    { s.weather with anem := anemAfter s (windowFront vane s).zeroRun }

/-- The node after the Level Controller has taken the result of a tick, before the gust trigger. -/
def resultTaken (s : State) : State :=
  takeResult (stormCondition s) (!stormCondition s && due s.nt s.weather.stormQuietDl)
    (rainCondition s) (!rainCondition s && due s.nt s.weather.rainQuietDl) (s.setWeather (assessed s))

theorem assessmentTick_eq (s : State) : assessmentTick s = gustTrigger (resultTaken s) := rfl

theorem exec_windowEnd_tick (vane : BitVec 4) {s : State} (hp : s.power = true) (hs : s.safe = false)
    (hw : windowEnds s = true) :
    exec (.windowEnd vane) s = .next (commit s (assessmentTick (windowClosed vane s))) := by
  rw [exec_windowEnd vane hp hw, takeWindowEnd_assesses vane hs]
  rfl

/-- The grid's part of the Sensor Front belongs to no window (R15). -/
theorem windowFront_wet (vane : BitVec 4) (s : State) : (windowFront vane s).wet = s.sensor.wet := by
  cases h : s.cfg.windFitted with
  | true => rw [windowFront_fitted vane h]; rfl
  | false => rw [windowFront_calm vane h]; rfl

theorem windowClosed_wet (vane : BitVec 4) (s : State) : (windowClosed vane s).sensor.wet = s.sensor.wet :=
  windowFront_wet vane s

/-! ### What each part leaves -/

theorem resultTaken_turns (s : State) : Turns (s.setWeather (assessed s)) (resultTaken s) := takeResult_turns _ _ _ _ _

theorem resultTaken_weather (s : State) : (resultTaken s).weather = assessed s := (resultTaken_turns s).weather

/-- The gust trigger moves the transmit queue, the hold-off of triggers and the previous own gust (R78). -/
theorem gustTrigger_eq (s : State) : gustTrigger s = { s with
    line := { s.line with queue := (gustTrigger s).line.queue }
    weather := { s.weather with
      prevGust := s.sensor.gust, holdoffDl := (gustTrigger s).weather.holdoffDl
      deferred := (gustTrigger s).weather.deferred } } := by
  unfold gustTrigger
  split
  · rw [triggerObserve_eq]
    rfl
  · rfl

/-- The Assessor after a tick: its stages 1 to 7, the new previous gust, and the hold-off that the trigger leaves. -/
theorem assessmentTick_weather (s : State) : (assessmentTick s).weather = { assessed s with
    prevGust := s.sensor.gust, holdoffDl := (assessmentTick s).weather.holdoffDl
    deferred := (assessmentTick s).weather.deferred } := by
  have gust : (resultTaken s).sensor.gust = s.sensor.gust := congrArg Sensor.gust (resultTaken_turns s).sensor
  have trigger := congrArg State.weather (gustTrigger_eq (resultTaken s))
  rwa [resultTaken_weather, gust] at trigger

theorem assessmentTick_sensor (s : State) : (assessmentTick s).sensor = s.sensor := (assessmentTick_keeps s).1

theorem assessmentTick_levels (s : State) : (assessmentTick s).levels = (resultTaken s).levels := by
  rw [assessmentTick_eq, gustTrigger_eq]

theorem assessmentTick_suspect (s : State) : suspect (assessmentTick s) = suspect (resultTaken s) := by
  rw [assessmentTick_eq, gustTrigger_eq]
  rfl

end Sys2Proof.Machine
end

section
/-! The wind of a tick (R60 to R66): source, exposure, wind load and effective limit. -/

namespace Sys2Proof.Machine

/-! ### The strongest peer (R60) -/

/-- An observation that offers a wind (R60). -/
def Observation.usable (o : Observation) : Prop := o.fresh = true ∧ o.windCapable = true ∧ o.anem = .ok

/-- The wind of a peer's observation. -/
def windOf (r : PeerRecord) (o : Observation) : Wind := ⟨.peer r.source, o.gust, o.direction⟩

theorem peerWind_some {r : PeerRecord} {w : Wind} :
    peerWind r = some w ↔ ∃ o, r.obs = some o ∧ o.usable ∧ windOf r o = w := by
  unfold peerWind
  cases r.obs <;> simp [Observation.usable, windOf, and_assoc]

theorem peerWind_none {r : PeerRecord} : peerWind r = none ↔ ∀ o, r.obs = some o → ¬o.usable := by
  simp only [Option.eq_none_iff_forall_ne_some, Ne, peerWind_some]
  exact ⟨fun h o ho hu => h _ ⟨o, ho, hu, rfl⟩, fun h w ⟨o, ho, hu, _⟩ => h o ho hu⟩

theorem strongestPeer_append (l : List PeerRecord) (r : PeerRecord) :
    strongestPeer (l ++ [r]) = strongerWind (strongestPeer l) (peerWind r) := by
  simp [strongestPeer]

/-- A record offers a wind that no record of the table exceeds, and of equals it has the lowest id (R60). -/
def Strongest (l : List PeerRecord) (r : PeerRecord) (w : Wind) : Prop :=
  r ∈ l ∧ peerWind r = some w ∧ ∀ r' ∈ l, ∀ w', peerWind r' = some w' →
    w'.gust < w.gust ∨ (w'.gust = w.gust ∧ r.source ≤ r'.source)

/-- A newcomer at the end that is no stronger leaves the strongest. -/
theorem Strongest.append {l : List PeerRecord} {r x : PeerRecord} {w : Wind} (h : Strongest l r w)
    (below : r.source < x.source) (weaker : ∀ w', peerWind x = some w' → w'.gust ≤ w.gust) :
    Strongest (l ++ [x]) r w := by
  obtain ⟨mem, offers, best⟩ := h
  refine ⟨List.mem_append_left _ mem, offers, fun r' hr' w' hw' => ?_⟩
  rcases List.mem_append.1 hr' with hr' | hr'
  · exact best r' hr' w' hw'
  · obtain rfl := List.mem_singleton.1 hr'
    have := weaker w' hw'
    omega

theorem strongerWind_none {a b : Option Wind} : strongerWind a b = none ↔ a = none ∧ b = none := by
  cases a with
  | none => simp [strongerWind]
  | some x => cases b with
    | none => simp [strongerWind]
    | some y =>
      have one : strongerWind (some x) (some y) = if x.gust < y.gust then some y else some x := rfl
      rw [one]
      split <;> simp

/-- No wind is selected just where no record offers one. -/
theorem strongestPeer_none {l : List PeerRecord} : strongestPeer l = none ↔ ∀ r ∈ l, peerWind r = none := by
  induction l using List.reverseRecOn with
  | nil => simp [strongestPeer]
  | append_singleton l x ih =>
    rw [strongestPeer_append, strongerWind_none, ih]
    simp [or_imp, forall_and]

/-- The wind selected from a sorted table is that of its strongest record. -/
theorem strongestPeer_some {l : List PeerRecord} (h : PeersSorted l) :
    ∀ w, strongestPeer l = some w → ∃ r, Strongest l r w := by
  induction l using List.reverseRecOn with
  | nil => exact nofun
  | append_singleton l x ih =>
    obtain ⟨sorted, -, above⟩ := List.pairwise_append.1 h
    have last : ∀ {w : Wind}, peerWind x = some w →
        (∀ r ∈ l, ∀ w', peerWind r = some w' → w'.gust < w.gust) → Strongest (l ++ [x]) x w := by
      refine fun {w} hx weaker => ⟨by simp, hx, fun r hr w' hw' => ?_⟩
      rcases List.mem_append.1 hr with hr | hr
      · exact .inl (weaker r hr w' hw')
      · obtain rfl := List.mem_singleton.1 hr
        obtain rfl : w = w' := Option.some.inj (hx.symm.trans hw')
        exact .inr ⟨rfl, le_rfl⟩
    intro w hw
    rw [strongestPeer_append] at hw
    cases hl : strongestPeer l with
    | none =>
      rw [hl] at hw
      exact ⟨x, last hw fun r hr w' hw' => nomatch (strongestPeer_none.1 hl r hr).symm.trans hw'⟩
    | some a =>
      obtain ⟨r, strongest⟩ := ih sorted a hl
      have below : r.source < x.source := above r strongest.1 x (by simp)
      rw [hl] at hw
      cases hx : peerWind x with
      | none =>
        rw [hx] at hw
        obtain rfl : a = w := Option.some.inj hw
        exact ⟨r, strongest.append below fun w' hw' => nomatch hx.symm.trans hw'⟩
      | some b =>
        rw [hx] at hw
        replace hw : (if a.gust < b.gust then some b else some a) = some w := hw
        split at hw
        · obtain rfl : b = w := Option.some.inj hw
          refine ⟨x, last hx fun r' hr' w' hw' => ?_⟩
          have := strongest.2.2 r' hr' w' hw'
          omega
        · obtain rfl : a = w := Option.some.inj hw
          refine ⟨r, strongest.append below fun w' hw' => ?_⟩
          obtain rfl : b = w' := Option.some.inj (hx.symm.trans hw')
          omega

/-- A sorted table has one strongest record. -/
theorem strongestPeer_of_strongest {l : List PeerRecord} (h : PeersSorted l) {r : PeerRecord} {w : Wind}
    (hs : Strongest l r w) : strongestPeer l = some w := by
  obtain ⟨mem, offers, best⟩ := hs
  cases hl : strongestPeer l with
  | none => exact nomatch (strongestPeer_none.1 hl r mem).symm.trans offers
  | some a =>
    obtain ⟨r', mem', offers', best'⟩ := strongestPeer_some h a hl
    have one := best r' mem' a offers'
    have two := best' r mem w offers
    obtain rfl : r = r' := h.source_inj mem mem' (by omega)
    rw [← offers, ← offers']

/-! ### The stages on a wind, and without one -/

/-- The wind source of a node whose anemometer works (R60). -/
theorem selectWind_own {s : State} (h : s.weather.anem = .ok) :
    selectWind s = some ⟨.own, s.sensor.gust, s.sensor.direction⟩ := if_pos h

theorem selectWind_peer {s : State} (h : s.weather.anem ≠ .ok) : selectWind s = strongestPeer s.peers := if_neg h

theorem exposureOf_eq (d : Nat) : exposureOf d = [16, 15, 11, 6].getD d 0 := by
  unfold exposureOf
  match d with
  | 0 | 1 | 2 | 3 => rfl
  | _ + 4 => simp

/-- The exposure to a direction (R63), full where it is unknown. -/
def exposureAt (d : Option Nat) (s : State) : Nat :=
  match d with
  | none => 16
  | some d => if s.cfg.skylight then 16 else [16, 15, 11, 6].getD (sectorDiff d s.cfg.facade) 0

theorem exposureTo_eq (w : Wind) (s : State) : exposureTo w s = exposureAt w.dir s := by
  unfold exposureTo exposureAt
  cases w.dir with
  | none => rfl
  | some d => simp only [exposureOf_eq]

/-- Stages 1 to 3 on a wind (R60 to R64). -/
theorem assessed_windy {s : State} {w : Wind} (h : selectWind s = some w) :
    (assessed s).windStatus = .known ∧ (assessed s).source = some w.source ∧ (assessed s).sourceDir = w.dir ∧
    (assessed s).exposure = some (exposureAt w.dir s) ∧
    (assessed s).load = some ((w.gust * exposureAt w.dir s + 8) / 16) := by
  simp [assessed, windStatusOf, loadFrom, windLoad, h, exposureTo_eq]

/-- Stages 1 to 3 without a wind: neither exposure nor load is formed (R60, R61, R64). -/
theorem assessed_windless {s : State} (h : selectWind s = none) :
    (assessed s).source = none ∧ (assessed s).exposure = none ∧ (assessed s).load = none ∧
    (assessed s).windStatus = if (assessed s).startWindow then .pending else .unknown := by
  simp [assessed, windStatusOf, h]

/-- Settles O34: the stages on the own wind, on the strongest peer's, and without one. -/
theorem tickFindsTheWindLoad : Obligations.TickFindsTheWindLoad := by
  intro vane s hp hs hw
  refine ⟨_, exec_windowEnd_tick vane hp hs hw, ?_⟩
  rw [commit_weather, commit_sensor, assessmentTick_weather, assessmentTick_sensor]
  refine ⟨rfl, rfl, fun ok => assessed_windy (selectWind_own ok), fun notOk lawful r hr o ho hu best => ?_,
    fun notOk none => assessed_windless ?_⟩
  · obtain ⟨-, sorted, -⟩ := lawful
    have offers : peerWind r = some (windOf r o) := peerWind_some.2 ⟨o, ho, hu, rfl⟩
    have strongest : Strongest s.peers r (windOf r o) := by
      refine ⟨hr, offers, fun r' hr' w' hw' => ?_⟩
      obtain ⟨o', ho', hu', rfl⟩ := peerWind_some.1 hw'
      exact best r' hr' o' ho' hu'
    exact assessed_windy ((selectWind_peer notOk).trans (strongestPeer_of_strongest sorted strongest))
  · exact (selectWind_peer notOk).trans (strongestPeer_none.2 fun r hr => peerWind_none.2 (none r hr))

end Sys2Proof.Machine
end

section
/-! The levels after an assessment result (R76, R81, R87): which are raised, which is cleared, which acts. -/

namespace Sys2Proof.Machine

/-! ### The states of lawful levels -/

theorem chosenLevel_storm_iff {s : State} (h : s.levels.storm ≠ .quiet) :
    chosenLevel s = some .storm ↔ mayAct s = true := by
  by_cases hm : mayAct s = true <;> simp [chosenLevel, hm, h]

theorem chosenLevel_rain_iff {s : State} (h : s.levels.rain ≠ .quiet) :
    chosenLevel s = some .rain ↔ mayAct s = true ∧ s.levels.storm = .quiet := by
  by_cases hm : mayAct s = true <;> by_cases hs : s.levels.storm = .quiet <;> simp [chosenLevel, hm, hs, h]

theorem chosenLevel_demand_iff {s : State} (h : s.levels.demand ≠ .quiet) :
    chosenLevel s = some .demand ↔ mayAct s = true ∧ s.levels.storm = .quiet ∧ s.levels.rain = .quiet :=
  ⟨demandLeads_of_chosen, fun ⟨hm, hs, hr⟩ => chosenLevel_demand hm hs hr h⟩

/-- A raised level acts, under the law of R81, just where it is the level chosen. -/
theorem LevelsLawful.acting_iff {s : State} (h : LevelsLawful s) :
    (s.levels.storm ≠ .quiet → (s.levels.storm = .acting ↔ mayAct s = true)) ∧
    (s.levels.rain ≠ .quiet → (s.levels.rain = .acting ↔ mayAct s = true ∧ s.levels.storm = .quiet)) ∧
    (s.levels.demand ≠ .quiet → (s.levels.demand = .acting ↔
      mayAct s = true ∧ s.levels.storm = .quiet ∧ s.levels.rain = .quiet)) := by
  obtain ⟨storm, rain, demand⟩ := h
  have acts : ∀ {l : Level} {p : LevelState}, p = appointed l (chosenLevel s) p → p ≠ .quiet →
      (p = .acting ↔ chosenLevel s = some l) := by
    intro l p hp raised
    have h := appointed_acting l (chosenLevel s) p
    rw [← hp] at h
    exact h.trans (and_iff_right raised)
  exact ⟨fun raised => (acts storm raised).trans (chosenLevel_storm_iff raised),
    fun raised => (acts rain raised).trans (chosenLevel_rain_iff raised),
    fun raised => (acts demand raised).trans (chosenLevel_demand_iff raised)⟩

theorem Turns.mayAct {s t : State} (h : Turns s t) : Machine.mayAct t = Machine.mayAct s := by
  simp [Machine.mayAct, h.serviceHold, h.listen, h.safe]

/-! ### A result taken -/

/-- The weather levels raised and cleared by a result, before the appointment (R87). -/
def judged (stormHolds stormExpires rainHolds rainExpires : Bool) (s : State) : State :=
  s.setLevels { s.levels with
    storm := resultLevel stormHolds stormExpires s.levels.storm
    rain := resultLevel rainHolds rainExpires s.levels.rain }

theorem takeResult_eq (a b c d : Bool) (s : State) :
    takeResult a b c d s = appointFrom (acting s) (judged a b c d s) := rfl

/-- A result leaves a level QUIET when its condition does not hold and it expires or was QUIET (R87). -/
theorem resultLevel_quiet (holds expires : Bool) (p : LevelState) :
    resultLevel holds expires p = .quiet ↔ holds = false ∧ (p = .quiet ∨ expires = true) := by
  cases holds with
  | true => by_cases hp : p = .quiet <;> simp [resultLevel, hp]
  | false => cases expires <;> simp [resultLevel]

theorem takeResult_lawful (a b c d : Bool) (s : State) : LevelsLawful (takeResult a b c d s) :=
  (appointFrom_spec _ _).2.1

/-- Which levels are QUIET after a result (R87). -/
theorem takeResult_quiet (a b c d : Bool) (s : State) :
    let t := takeResult a b c d s
    (t.levels.storm = .quiet ↔ a = false ∧ (s.levels.storm = .quiet ∨ b = true)) ∧
    (t.levels.rain = .quiet ↔ c = false ∧ (s.levels.rain = .quiet ∨ d = true)) ∧
    (t.levels.demand = .quiet ↔ s.levels.demand = .quiet) := by
  obtain ⟨-, -, storm, rain, demand⟩ := appointFrom_spec (acting s) (judged a b c d s)
  rw [← takeResult_eq] at storm rain demand
  dsimp only
  rw [storm, rain, demand, appointed_quiet, appointed_quiet, appointed_quiet]
  exact ⟨resultLevel_quiet _ _ _, resultLevel_quiet _ _ _, Iff.rfl⟩

/-- The levels after the result of a tick: QUIET by its conditions and quiet deadlines, and lawful (R76, R81, R87). -/
theorem resultTaken_quiet (s : State) :
    let t := resultTaken s
    (t.levels.storm = .quiet ↔ stormCondition s = false ∧
      (s.levels.storm = .quiet ∨ due s.nt s.weather.stormQuietDl = true)) ∧
    (t.levels.rain = .quiet ↔ rainCondition s = false ∧
      (s.levels.rain = .quiet ∨ due s.nt s.weather.rainQuietDl = true)) ∧
    (t.levels.demand = .quiet ↔ s.levels.demand = .quiet) := by
  obtain ⟨storm, rain, demand⟩ := takeResult_quiet (stormCondition s)
    (!stormCondition s && due s.nt s.weather.stormQuietDl) (rainCondition s)
    (!rainCondition s && due s.nt s.weather.rainQuietDl) (s.setWeather (assessed s))
  refine ⟨storm.trans (and_congr_right fun h => ?_), rain.trans (and_congr_right fun h => ?_), demand⟩ <;>
  · rw [h, Bool.not_false, Bool.true_and]
    exact Iff.rfl

theorem resultTaken_lawful (s : State) : LevelsLawful (resultTaken s) := takeResult_lawful _ _ _ _ _

theorem resultTaken_mayAct (s : State) : mayAct (resultTaken s) = mayAct s := (resultTaken_turns s).mayAct

end Sys2Proof.Machine
end

section
/-! The storm of a tick (R67 to R70) and the gust that raises an OBSERVE (R37, R78). -/

namespace Sys2Proof.Machine

/-! ### The storm condition -/

/-- The storm condition in the terms that the tick leaves in the Assessor (R67 to R69). -/
theorem stormCondition_iff (s : State) : stormCondition s = true ↔
    (∃ w, (assessed s).load = some w ∧ ((assessed s).limit ≤ w ∨
      (s.levels.storm ≠ .quiet ∧ (assessed s).limit - s.cfg.hysteresis ≤ w))) ∨
    ((assessed s).load = none ∧ (s.levels.storm ≠ .quiet ∨
      ((assessed s).windStatus = .unknown ∧ s.cfg.windLossClose = true))) ∨
    (s.line.isolated = true ∧ s.cfg.isolationClose = true) := by
  cases hw : selectWind s with
  | some w => simp [stormCondition, assessed, hw, or_assoc]
  | none => cases hp : startWindowAfter s <;> simp [stormCondition, assessed, windStatusOf, hw, hp, or_assoc]

/-! ### The gust trigger -/

/-- The own gust crosses the storm limit from below (R78). -/
def gustRises (s : State) : Prop := s.weather.prevGust < s.cfg.stormLimit ∧ s.cfg.stormLimit ≤ s.sensor.gust

theorem gustTrigger_rising {s : State} (h : gustRises s) : gustTrigger s =
    (triggerObserve .storm s).setWeather { (triggerObserve .storm s).weather with prevGust := s.sensor.gust } := by
  obtain ⟨below, above⟩ := h
  unfold gustTrigger
  rw [if_pos ⟨below, above⟩]

theorem gustTrigger_still {s : State} (h : ¬gustRises s) :
    gustTrigger s = s.setWeather { s.weather with prevGust := s.sensor.gust } := by
  unfold gustRises at h
  unfold gustTrigger
  rw [if_neg h]

theorem resultTaken_gustRises (s : State) : gustRises (resultTaken s) ↔ gustRises s := by
  unfold gustRises
  rw [resultTaken_weather, (resultTaken_turns s).sensor, (resultTaken_turns s).cfg]
  rfl

theorem Turns.refusesPlacement {s t : State} (h : Turns s t) (k : Kind) :
    Machine.refusesPlacement k t = Machine.refusesPlacement k s := by
  simp [Machine.refusesPlacement, h.listen, h.listenOnly, h.safe, h.store]

/-- A tick on which the gust does not cross the limit leaves the hold-off of triggers. -/
theorem assessmentTick_still {s : State} (h : ¬gustRises s) :
    (assessmentTick s).weather.holdoffDl = s.weather.holdoffDl ∧
    (assessmentTick s).weather.deferred = s.weather.deferred := by
  rw [assessmentTick_eq, gustTrigger_still (mt (resultTaken_gustRises s).1 h), State.setWeather_weather,
    resultTaken_weather]
  exact ⟨rfl, rfl⟩

/-- A tick on which it does, in a node that is not held off, places an OBSERVE of class 0 at once (R37, R78). -/
theorem assessmentTick_rising {s : State} (h : gustRises s) (hr : refusesPlacement .observe s = false)
    (hd : s.weather.holdoffDl = none) :
    (assessmentTick s).weather.holdoffDl = some (after s.nt 500) ∧
    ∃ e ∈ (assessmentTick s).line.queue, e.kind = .observe ∧ e.cls = .storm ∧
      e.payload = observePayload (assessmentTick s) := by
  have turns := resultTaken_turns s
  have taken : refusesPlacement .observe (resultTaken s) = false := (turns.refusesPlacement .observe).trans hr
  have free : (resultTaken s).weather.holdoffDl = none := by rw [resultTaken_weather]; exact hd
  obtain ⟨e, he, kind, payload, cls⟩ := placeImmediate_holds taken .storm
  rw [assessmentTick_eq, gustTrigger_rising ((resultTaken_gustRises s).2 h), triggerObserve_placed taken free]
  refine ⟨?_, e, he, kind, cls, payload⟩
  have nt : (placeObserve .storm (resultTaken s)).nt = (resultTaken s).nt := by rw [placeObserve_eq]
  exact congrArg (fun n => some (after n 500)) turns.nt

/-! ### The command -/

/-- The end of a command leaves the queued telegrams that are no STATE (R38). -/
theorem commit_noState (s t : State) : ((commit s t).line.queue.filter fun e => e.kind != .state).Perm
    (t.line.queue.filter fun e => e.kind != .state) := by
  by_cases h : t.safe = false ∧ (t.occasion = true ∨ reportedFields s ≠ reportedFields t)
  · obtain ⟨-, -, -, others, -⟩ := commit_reported s t h.1 h.2
    exact others
  · have quiet : (!t.safe && (t.occasion || decide (reportedFields s ≠ reportedFields t))) = false := by
      simpa using h
    unfold commit
    rw [quiet]
    rfl

theorem mem_commit_queue {s t : State} {e : Queued} (h : e ∈ t.line.queue) (hk : e.kind ≠ .state) :
    e ∈ (commit s t).line.queue :=
  (List.mem_filter.1 ((commit_noState s t).mem_iff.2 (List.mem_filter.2 ⟨h, by simpa using hk⟩))).1

theorem observePayload_commit (s t : State) : observePayload (commit s t) = observePayload t := by
  rw [commit_frame]
  rfl

/-- Settles O35: the condition, the levels after the result, and the trigger where the gust crosses the limit. -/
theorem tickJudgesTheStorm : Obligations.TickJudgesTheStorm := by
  intro vane s hp hs hw
  refine ⟨_, exec_windowEnd_tick vane hp hs hw, ?_⟩
  have still := @assessmentTick_still (windowClosed vane s)
  have rising := @assessmentTick_rising (windowClosed vane s)
  obtain ⟨quiet, -, -⟩ := resultTaken_quiet (windowClosed vane s)
  obtain ⟨acts, -, -⟩ := (resultTaken_lawful (windowClosed vane s)).acting_iff
  rw [resultTaken_mayAct] at acts
  rw [observePayload_commit, commit_weather, commit_sensor, commit_levels, assessmentTick_levels,
    assessmentTick_sensor]
  refine ⟨?_, ?_, ?_, acts, ?_, fun below above taken free => ?_, fun h => still fun rises => ?_⟩
  · rw [assessmentTick_weather]
    exact stormCondition_iff _
  · rw [assessmentTick_weather]
    rfl
  · rw [assessmentTick_weather]
    exact quiet
  · rw [assessmentTick_weather]
  · obtain ⟨holdoff, e, he, kind, cls, payload⟩ := rising ⟨below, above⟩ taken free
    exact ⟨holdoff, e, mem_commit_queue he (by simp [kind]), kind, cls, payload⟩
  · obtain ⟨below, above⟩ := rises
    rcases h with high | low
    · exact Nat.not_lt.2 high below
    · exact Nat.not_le.2 low above

end Sys2Proof.Machine
end

section
/-! What a handing leaves of the goal handed (R85, R151): a drive that comes to rest may find its position suspect, upon
which closed-seated is handed in the name of the level that acts. -/

namespace Sys2Proof.Machine

/-- From `s` to `t` neither the suspect state nor the levels moved. -/
def LevelsStand (s t : State) : Prop := suspect t = suspect s ∧ t.levels = s.levels

/-- From `s` to `t` the handed goal stands, but where the position became suspect: there it is closed-seated in the name of
the level. -/
def HandingStands (l : Level) (s t : State) : Prop :=
  (suspect t = suspect s ∧ t.levels.handed = s.levels.handed) ∨
  (suspect s = false ∧ suspect t = true ∧ t.levels.handed = some ⟨l, .seat⟩)

theorem LevelsStand.handing {s t : State} (h : LevelsStand s t) (l : Level) : HandingStands l s t :=
  .inl ⟨h.1, congrArg Levels.handed h.2⟩

theorem LevelsStand.trans {s t u : State} (h : LevelsStand s t) (k : LevelsStand t u) : LevelsStand s u :=
  ⟨k.1.trans h.1, k.2.trans h.2⟩

theorem LevelsStand.acting {s t : State} (h : LevelsStand s t) : Machine.acting t = Machine.acting s :=
  congrArg Levels.acting h.2

theorem LevelsStand.then {l : Level} {s t u : State} (h : LevelsStand s t) (k : HandingStands l t u) :
    HandingStands l s u := by
  unfold HandingStands at *
  rwa [h.1, h.2] at k

theorem LevelsStand.refl (s : State) : LevelsStand s s := ⟨rfl, rfl⟩

theorem LevelsStand.ite {c : Prop} [Decidable c] {s t u : State} (h : LevelsStand s t) (k : LevelsStand s u) :
    LevelsStand s (if c then t else u) := by
  split
  · exact h
  · exact k

theorem HandingStands.ite {c : Prop} [Decidable c] {l : Level} {s t u : State} (h : HandingStands l s t)
    (k : HandingStands l s u) : HandingStands l s (if c then t else u) := by
  split
  · exact h
  · exact k

/-! ### Passages -/

theorem DriveMoved.levelsStand {s t : State} (h : DriveMoved s t) : LevelsStand s t := by
  obtain ⟨_, _, _, _, _, rfl⟩ := h
  exact ⟨rfl, rfl⟩

theorem setDrive_stands (s : State) (d : Drive) : LevelsStand s (s.setDrive d) := ⟨rfl, rfl⟩

theorem enterStopping_stands (c : Continuation) (s : State) : LevelsStand s (enterStopping c s) :=
  (moveDrive_moved _ s).levelsStand

theorem requestAdmission_stands (l : Level) (dir : Dir) (s : State) : LevelsStand s (requestAdmission l dir s) := by
  rw [requestAdmission_eq]
  exact ⟨rfl, rfl⟩

theorem enterWaitSlot_stands {s : State} {g : Goal} (hg : s.drive.goal = some g) :
    LevelsStand s (enterWaitSlot s) := by
  rw [enterWaitSlot_eq hg]
  exact ⟨rfl, rfl⟩

/-- A mismatch makes the position suspect. -/
theorem any_add_mismatch (r : Reasons) : (r.add .mismatch).any = true := by simp [Reasons.add, Reasons.any]

/-- An entry into IDLE while a level acts (R85, R151). -/
theorem enterIdle_handing {s : State} {l : Level} (hl : acting s = some l) : HandingStands l s (enterIdle s) := by
  obtain ⟨-, -, -, -, -, -, -, found, kept, -, rests, hands⟩ := enterIdle_cameToRest s
  by_cases apart : s.cfg.strokeFitted = true ∧ s.pos.referenced = true ∧ s.cfg.mismatch <
      gap (strokePosition s.pins.stroke.toNat s.cfg.closedReading s.cfg.openReading) (position s)
  · have becomes : suspect (enterIdle s) = true := (congrArg Reasons.any (found apart)).trans (any_add_mismatch _)
    cases hs : suspect s with
    | true =>
      obtain ⟨-, -, handed⟩ := rests (.inr (.inl hs))
      exact .inl ⟨becomes.trans hs.symm, handed⟩
    | false =>
      obtain ⟨-, handed, -⟩ := hands l apart hs hl
      exact .inr ⟨hs, becomes, handed⟩
  · obtain ⟨-, -, handed⟩ := rests (.inl apart)
    exact .inl ⟨congrArg Reasons.any (kept apart), handed⟩

/-- A change of goal in a moving drive hands nothing (R133). -/
theorem changeWhileMoving_stands (old g : Option Goal) (s : State) : LevelsStand s (changeWhileMoving old g s) := by
  have stops : LevelsStand s (enterStopping .goal s) := enterStopping_stands _ s
  have approaches : LevelsStand s (positionTests (enterApproach s)) :=
    ((moveDrive_moved _ s).trans (positionTests_moved _)).levelsStand
  cases g with
  | none => exact stops
  | some new =>
    exact .ite (arrive_moved s).levelsStand
      (.ite stops (.ite (.ite (.ite (.refl s) approaches) (positionTests_moved s).levelsStand) stops))

theorem takeGoalAtRest_stands (g : Option Goal) (s : State) : LevelsStand s (takeGoalAtRest g s) := by
  cases g with
  | none => exact setDrive_stands s _
  | some g =>
    rw [takeGoalAtRest_some]
    exact .ite ((setDrive_stands s _).trans (enterWaitSlot_stands rfl)) (setDrive_stands s _)

/-! ### Goals taken while a level acts -/

section
variable {s : State} {l : Level} (hl : acting s = some l)
include hl

theorem waitOrIdle_handing : HandingStands l s (waitOrIdle s) := by
  unfold waitOrIdle
  split
  · exact enterIdle_handing hl
  · next g hg => exact .ite ((enterWaitSlot_stands hg).handing l) (enterIdle_handing hl)

theorem forgiveAndGo_handing : HandingStands l s (forgiveAndGo s) :=
  (setDrive_stands s _).then (waitOrIdle_handing (s := s.setDrive _) hl)

theorem changeWhileWaiting_handing (g : Option Goal) : HandingStands l s (changeWhileWaiting g s) := by
  cases g with
  | none => exact enterIdle_handing hl
  | some new => exact .ite ((requestAdmission_stands _ _ s).handing l) (enterIdle_handing hl)

theorem changeWhileWarning_handing (g : Option Goal) : HandingStands l s (changeWhileWarning g s) := by
  cases g with
  | none => exact enterIdle_handing hl
  | some new =>
    exact .ite (enterIdle_handing hl)
      (.ite (((setDrive_stands s _).trans (enterRamp_moved _).levelsStand).handing l) ((setDrive_stands s _).handing l))

/-- A goal taken in any drive state while a level acts. -/
theorem takeGoal_handing (g : Option Goal) : HandingStands l s (takeGoal g s) := by
  have given : LevelsStand s (withDriveGoal g s) := setDrive_stands s _
  have led : acting (withDriveGoal g s) = some l := hl
  have still : HandingStands l s (withDriveGoal g s) := given.handing l
  have held : HandingStands l s ((withDriveGoal g s).setDrive { s.drive with goal := g, heldChange := true }) :=
    (given.trans (setDrive_stands _ _)).handing l
  have stops : HandingStands l s (enterStopping .goal (withDriveGoal g s)) :=
    (given.trans (enterStopping_stands _ _)).handing l
  have rests : HandingStands l s (enterIdle (withDriveGoal g s)) := given.then (enterIdle_handing led)
  have goes : HandingStands l s (forgiveAndGo (withDriveGoal g s)) := given.then (forgiveAndGo_handing led)
  have moves : HandingStands l s (changeWhileMoving s.drive.goal g (withDriveGoal g s)) :=
    (given.trans (changeWhileMoving_stands _ _ _)).handing l
  unfold takeGoal
  refine .ite still ?_
  dsimp only
  split
  case h_1 => exact (takeGoalAtRest_stands g s).handing l
  case h_2 => exact .ite still (given.then (changeWhileWaiting_handing led g))
  case h_3 => exact .ite still (given.then (changeWhileWarning_handing led g))
  case h_4 | h_5 | h_6 | h_7 => exact .ite still moves
  case h_8 => exact .ite still (.ite held still)
  case h_9 => exact .ite still (.ite stops held)
  case h_10 | h_12 => exact .ite still (.ite rests goes)
  case h_11 => exact .ite rests still

/-- A handing while a level acts: its goal, or closed-seated where the position became suspect (R85, R151). -/
theorem handGoal_handing : HandingStands l (recordHanding s) (handGoal s) := takeGoal_handing (by exact hl) _

end

end Sys2Proof.Machine
end

section
/-! The rain of a tick (R71 to R75), and the ceiling of a RAIN that becomes ACTING (R83, R85). -/

namespace Sys2Proof.Machine

/-! ### The ceiling -/

/-- The goal that RAIN forms when it becomes ACTING, with the position suspect or not (R83, R85). -/
def rainGoal (suspected : Bool) (s : State) : Goal :=
  ⟨.rain, if suspected = true ∨ s.cfg.skylight = true ∨ s.cfg.rainGap = 0 then .seat
    else if min s.cfg.rainGap (position s) = 0 then .seat else .pm (min s.cfg.rainGap (position s))⟩

theorem rainGoal_suspect (s : State) : rainGoal true s = ⟨.rain, .seat⟩ := by simp [rainGoal]

theorem rainFormed_getD (s : State) : (rainFormed s).getD .seat = (rainGoal (suspect s) s).target := by
  unfold rainFormed rainGoal Target.ofPm
  cases s.cfg.skylight <;> cases suspect s <;> by_cases h : s.cfg.rainGap = 0 <;> simp [h]

/-- The goal formed right after the appointment of RAIN (R83, R85). -/
theorem formGoal_rain {s : State} (before : acting s ≠ some .rain) (chosen : chosenLevel s = some .rain) :
    formGoal (s.setLevels (appointedLevels s)) = some (rainGoal (suspect s) s) := by
  have target : (appointedLevels s).rainTarget = rainFormed s := by simp [appointedLevels, chosen, before]
  have formed : formGoal (s.setLevels (appointedLevels s)) =
      some ⟨.rain, if suspect s then .seat else (appointedLevels s).rainTarget.getD .seat⟩ := by
    unfold formGoal
    rw [acting_setAppointed, chosen]
    rfl
  rw [formed, target, rainFormed_getD]
  cases hs : suspect s with
  | true => simp [rainGoal]
  | false => rfl

theorem resultLevel_acting {holds expires : Bool} {p : LevelState} (h : resultLevel holds expires p = .acting) :
    p = .acting := by
  unfold resultLevel at h
  split at h
  · split at h
    · cases h
    · exact h
  · split at h
    · cases h
    · exact h

theorem rain_of_acting {s : State} (h : acting s = some .rain) : s.levels.rain = .acting := by
  unfold acting Levels.acting at h
  split at h
  · cases h
  · split at h
    · assumption
    · split at h <;> cases h

/-- A result alone, before the appointment, makes RAIN act nowhere (R87). -/
theorem judged_acting_rain {s : State} (h : LevelsLawful s) (before : acting s ≠ some .rain) (a b c d : Bool) :
    acting (judged a b c d s) ≠ some .rain := by
  intro k
  have acts : s.levels.rain = .acting := resultLevel_acting (rain_of_acting k)
  have led := acting_of_lawful h
  obtain ⟨-, rain, -⟩ := h
  exact before (led.trans ((appointed_acting _ _ _).1 (rain.symm.trans acts)).2)

/-- A result that makes RAIN act hands its ceiling; closed-seated where the position is suspect by then. -/
theorem takeResult_hands_rain {s : State} (h : LevelsLawful s) (before : acting s ≠ some .rain) {a b c d : Bool}
    (acts : (takeResult a b c d s).levels.rain = .acting) :
    (takeResult a b c d s).levels.handed = some (rainGoal (suspect (takeResult a b c d s)) s) := by
  obtain ⟨-, -, -, rain, -⟩ := appointFrom_spec (acting s) (judged a b c d s)
  have chosen : chosenLevel (judged a b c d s) = some .rain :=
    ((appointed_acting _ _ _).1 (rain.symm.trans acts)).2
  have handed : takeResult a b c d s =
      handGoal ((judged a b c d s).setLevels (appointedLevels (judged a b c d s))) :=
    appointFrom_other fun k => before (k.symm.trans chosen)
  have formed := formGoal_rain (judged_acting_rain h before a b c d) chosen
  have stands := handGoal_handing ((acting_setAppointed _).trans chosen)
  rw [← handed] at stands
  rcases stands with ⟨same, kept⟩ | ⟨-, onset, kept⟩
  · rw [kept, same]
    exact formed
  · rw [kept, onset, rainGoal_suspect]

/-- The same of the result of a tick. -/
theorem resultTaken_hands_rain {s : State} (h : LevelsLawful s) (before : acting s ≠ some .rain)
    (acts : (resultTaken s).levels.rain = .acting) :
    (resultTaken s).levels.handed = some (rainGoal (suspect (resultTaken s)) s) :=
  takeResult_hands_rain (s := s.setWeather (assessed s)) h before acts

/-! ### The evidence -/

theorem rainCondition_iff (s : State) : rainCondition s = true ↔
    s.cfg.rainThreshold ≤ rainEvidence s ∨ (s.levels.rain ≠ .quiet ∧ 1 ≤ rainEvidence s) := by
  simp [rainCondition]

/-- The rain evidence of a tick reads the own grid as the window end found it (R71 to R73). -/
theorem rainEvidence_windowClosed (vane : BitVec 4) (s : State) : rainEvidence (windowClosed vane s) =
    min 63 (2 * s.sensor.wet.weight + (s.peers.map (rainContribution s)).sum) := by
  rw [Nat.mul_comm, ← windowClosed_wet vane s]
  rfl

theorem suspect_commit (s t : State) : suspect (commit s t) = suspect t := by
  rw [suspect, commit_pos]
  rfl

/-- Settles O36: evidence and condition, the levels after the result, and the ceiling of a RAIN that becomes ACTING. -/
theorem tickJudgesTheRain : Obligations.TickJudgesTheRain := by
  intro vane s hp hl hs hw
  refine ⟨_, exec_windowEnd_tick vane hp hs hw, ?_⟩
  obtain ⟨-, quiet, demand⟩ := resultTaken_quiet (windowClosed vane s)
  obtain ⟨-, acts, -⟩ := (resultTaken_lawful (windowClosed vane s)).acting_iff
  have hands := resultTaken_hands_rain (s := windowClosed vane s) hl
  rw [resultTaken_mayAct] at acts
  rw [suspect_commit, commit_weather, commit_levels, assessmentTick_levels, assessmentTick_suspect]
  refine ⟨?_, ?_, ?_, ?_, acts, demand, hands⟩
  · rw [assessmentTick_weather]
    exact rainEvidence_windowClosed vane s
  · rw [assessmentTick_weather]
    exact rainCondition_iff _
  · rw [assessmentTick_weather]
    rfl
  · rw [assessmentTick_weather]
    exact quiet

end Sys2Proof.Machine
end

section
/-! The parts of a tick as commands of their own (R61, R70, R75, R87). -/

namespace Sys2Proof.Machine

/-! ### The level chosen once a level is cleared -/

theorem chosenLevel_unraised {s : State} (hs : s.levels.storm = .quiet) (hr : s.levels.rain = .quiet)
    (hd : s.levels.demand = .quiet) : chosenLevel s = none := by
  simp [chosenLevel, hs, hr, hd]

/-- Clearing RAIN changes the choice only where RAIN was chosen (R81). -/
theorem chosenLevel_rain_cleared {s t : State} (h : chosenLevel s ≠ some .rain) (hm : mayAct t = mayAct s)
    (hs : t.levels.storm = s.levels.storm) (hr : t.levels.rain = .quiet) (hd : t.levels.demand = s.levels.demand) :
    chosenLevel t = chosenLevel s := by
  by_cases may : mayAct s = true
  · by_cases storm : s.levels.storm = .quiet
    · have rain : s.levels.rain = .quiet := by
        by_contra raised
        exact h (chosenLevel_rain may storm raised)
      simp [chosenLevel, hm, may, hs, storm, hr, rain, hd]
    · rw [chosenLevel_storm may storm, chosenLevel_storm (hm.trans may) (by rwa [hs])]
  · have mayNot : mayAct s = false := by simpa using may
    rw [chosenLevel_not mayNot, chosenLevel_not (hm.trans mayNot)]

/-- In lawful levels the state of STORM follows from whether it is raised and whether a level may act (R81). -/
theorem LevelsLawful.storm_congr {s t : State} (hs : LevelsLawful s) (ht : LevelsLawful t)
    (hq : t.levels.storm = .quiet ↔ s.levels.storm = .quiet) (hm : mayAct t = mayAct s) :
    t.levels.storm = s.levels.storm := by
  obtain ⟨states, -, -⟩ := hs
  obtain ⟨statet, -, -⟩ := ht
  by_cases quiet : s.levels.storm = .quiet
  · rw [quiet]
    exact hq.2 quiet
  · have chosen : chosenLevel t = some .storm ↔ chosenLevel s = some .storm := by
      rw [chosenLevel_storm_iff quiet, chosenLevel_storm_iff (mt hq.1 quiet), hm]
    rw [statet, states]
    simp only [appointed, hq, chosen]

/-! ### A result that clears -/

theorem led_of_storm {s : State} (h : s.levels.storm = .acting) : acting s ≠ none := by
  simp [acting, Levels.acting, h]

theorem led_of_rain {s : State} (hs : s.levels.storm = .quiet) (h : s.levels.rain = .acting) : acting s ≠ none := by
  simp [acting, Levels.acting, hs, h]

theorem appointedLevels_lawful {s : State} (h : LevelsLawful s) :
    appointedLevels s = { s.levels with rainTarget := (appointedLevels s).rainTarget } := by
  obtain ⟨storm, rain, demand⟩ := h
  unfold appointedLevels
  dsimp only
  rw [← storm, ← rain, ← demand]

/-- A result that moves no level appoints nothing but RAIN's target (R81, R83). -/
theorem takeResult_idle {s : State} (h : LevelsLawful s) {a b c d : Bool}
    (hs : resultLevel a b s.levels.storm = s.levels.storm) (hr : resultLevel c d s.levels.rain = s.levels.rain) :
    takeResult a b c d s = s.setLevels { s.levels with rainTarget := (appointedLevels s).rainTarget } := by
  have same : judged a b c d s = s := by
    unfold judged
    rw [hs, hr]
    rfl
  rw [takeResult_eq, same, appointFrom_same (acting_of_lawful h).symm, appointedLevels_lawful h]

/-- A result that clears the level that acted, with none left, hands no goal (R85, R87). -/
theorem takeResult_hands_none {s : State} {a b c d : Bool} (before : acting s ≠ none)
    (hs : resultLevel a b s.levels.storm = .quiet) (hr : resultLevel c d s.levels.rain = .quiet)
    (hd : s.levels.demand = .quiet) : (takeResult a b c d s).levels.handed = none := by
  have chosen : chosenLevel (judged a b c d s) = none := chosenLevel_unraised hs hr hd
  have led := acting_setAppointed (judged a b c d s)
  rw [takeResult_eq, appointFrom_other fun k => before (k.symm.trans chosen)]
  exact (handGoal_unled (led.trans chosen)).1

/-- A result that clears STORM: which level is QUIET then, and which acts (R81, R87). -/
theorem takeResult_clears_storm (s : State) :
    let t := takeResult false true false false s
    t.levels.storm = .quiet ∧ (t.levels.rain = .quiet ↔ s.levels.rain = .quiet) ∧
    (t.levels.demand = .quiet ↔ s.levels.demand = .quiet) ∧
    (s.levels.rain ≠ .quiet → mayAct s = true → t.levels.rain = .acting) ∧
    (s.levels.rain = .quiet → s.levels.demand ≠ .quiet → mayAct s = true → t.levels.demand = .acting) := by
  obtain ⟨storm, rain, demand⟩ := takeResult_quiet false true false false s
  obtain ⟨-, actsRain, actsDemand⟩ := (takeResult_lawful false true false false s).acting_iff
  have may := (takeResult_turns false true false false s).mayAct
  have cleared := storm.2 ⟨rfl, .inr rfl⟩
  replace rain := rain.trans ⟨fun h => h.2.resolve_right nofun, fun h => ⟨rfl, .inl h⟩⟩
  exact ⟨cleared, rain, demand, fun hr hm => (actsRain (mt rain.1 hr)).2 ⟨may.trans hm, cleared⟩,
    fun hr hd hm => (actsDemand (mt demand.1 hd)).2 ⟨may.trans hm, cleared, rain.2 hr⟩⟩

/-- A result that clears RAIN: STORM stays, and DEMAND may act (R81, R87). -/
theorem takeResult_clears_rain {s : State} (h : LevelsLawful s) :
    let t := takeResult false false false true s
    t.levels.rain = .quiet ∧ t.levels.storm = s.levels.storm ∧
    (t.levels.demand = .quiet ↔ s.levels.demand = .quiet) ∧
    (s.levels.storm = .quiet → s.levels.demand ≠ .quiet → mayAct s = true → t.levels.demand = .acting) := by
  obtain ⟨storm, rain, demand⟩ := takeResult_quiet false false false true s
  have lawful := takeResult_lawful false false false true s
  obtain ⟨-, -, acts⟩ := lawful.acting_iff
  have may := (takeResult_turns false false false true s).mayAct
  have cleared := rain.2 ⟨rfl, .inr rfl⟩
  have stays := h.storm_congr lawful (storm.trans ⟨fun h => h.2.resolve_right nofun, fun h => ⟨rfl, .inl h⟩⟩) may
  exact ⟨cleared, stays, demand, fun hs hd hm =>
    (acts (mt demand.1 hd)).2 ⟨may.trans hm, stays.trans hs, cleared⟩⟩

/-- A result that clears a RAIN that does not act changes no choice, and so hands nothing (R81, R85). -/
theorem takeResult_clears_idle_rain {s : State} (h : LevelsLawful s) (hr : s.levels.rain ≠ .acting) :
    ∃ v, takeResult false false false true s = s.setLevels v ∧ v.rainTarget = none ∧ v.acting = acting s ∧
      v.serviceHold = s.levels.serviceHold := by
  have led : acting s = chosenLevel s := acting_of_lawful h
  have unchosen : chosenLevel s ≠ some .rain := fun k => hr (rain_of_acting (led.trans k))
  have chosen : chosenLevel (judged false false false true s) = chosenLevel s :=
    chosenLevel_rain_cleared unchosen rfl rfl rfl rfl
  refine ⟨_, appointFrom_same (chosen.trans led.symm), if_neg (chosen ▸ unchosen), ?_, rfl⟩
  exact (acting_setAppointed _).trans (chosen.trans led.symm)

/-! ### The commands -/

/-- The storm quiet deadline passed and none any more (R70). -/
def stormExpired (s : State) : State := s.setWeather { s.weather with stormQuietDl := none }

/-- The rain quiet deadline passed and none any more (R75). -/
def rainExpired (s : State) : State := s.setWeather { s.weather with rainQuietDl := none }

/-- STORM cleared by its quiet deadline (R70, R87). -/
def stormCleared (s : State) : State := takeResult false true false false (stormExpired s)

/-- RAIN cleared by its quiet deadline (R75, R87). -/
def rainCleared (s : State) : State := takeResult false false false true (rainExpired s)

theorem stormCleared_weather (s : State) : (stormCleared s).weather = { s.weather with stormQuietDl := none } :=
  (takeResult_turns _ _ _ _ _).weather

theorem rainCleared_weather (s : State) : (rainCleared s).weather = { s.weather with rainQuietDl := none } :=
  (takeResult_turns _ _ _ _ _).weather

theorem stormCleared_quiet {s : State} (h : LevelsLawful s) (hq : s.levels.storm = .quiet) :
    stormCleared s = { s with
      weather := (stormCleared s).weather
      levels := { s.levels with rainTarget := (stormCleared s).levels.rainTarget } } := by
  unfold stormCleared
  rw [takeResult_idle (s := stormExpired s) (a := false) (b := true) (c := false) (d := false) h hq.symm rfl]
  rfl

/-- The expiry of a RAIN that does not act leaves the drive, and reports nothing. -/
theorem rainCleared_idle {s : State} (h : LevelsLawful s) (hr : s.levels.rain ≠ .acting) :
    (rainCleared s).drive = s.drive ∧ (rainCleared s).levels.rainTarget = none ∧
    (rainCleared s).occasion = s.occasion ∧ reportedFields (rainCleared s) = reportedFields s := by
  obtain ⟨v, taken, target, led, hold⟩ := takeResult_clears_idle_rain (s := rainExpired s) h hr
  unfold rainCleared
  rw [taken]
  refine ⟨rfl, target, rfl, ?_⟩
  show (motion s, v.acting, suspect s, s.drive.state == .blocked, v.serviceHold, s.supply.running) = _
  rw [led, hold]
  rfl

theorem exec_startWindowEnd {s : State} (hr : Ready s) (hw : startWindowEnds s = true) :
    exec .startWindowEnd s = .next { s with weather := { s.weather with startWindow := false } } :=
  congrArg Host.Outcome.next (liveWhen_quiet hr hw rfl rfl rfl rfl rfl)

theorem exec_stormExpiry {s : State} (hp : s.power = true) (hd : stormExpires s = true) :
    exec .stormExpiry s = .next (commit s (stormCleared s)) := congrArg _ (liveWhen_due _ hp hd)

theorem exec_rainExpiry {s : State} (hp : s.power = true) (hd : rainExpires s = true) :
    exec .rainExpiry s = .next (commit s (rainCleared s)) := congrArg _ (liveWhen_due _ hp hd)

/-- A storm expiry of a QUIET STORM reports nothing. -/
theorem commit_stormCleared_quiet {s : State} (hr : Ready s) (h : LevelsLawful s) (hq : s.levels.storm = .quiet) :
    commit s (stormCleared s) = stormCleared s := by
  obtain ⟨-, noOccasion, mirrors⟩ := hr
  have frame := stormCleared_quiet h hq
  refine commit_quiet ?_ ?_ (mirrors.keep ?_ ?_) <;> rw [frame]
  · exact noOccasion
  · rfl
  · rfl

/-- Settles O37: the levels after each expiry, and the handing where the level that acted was the last. -/
theorem quietDeadlinesClearTheWeatherLevels : Obligations.QuietDeadlinesClearTheWeatherLevels := by
  intro s hr hl hs hn
  have instant : tickInstant s = true := by simp [tickInstant, multipleOf, hs, hn]
  refine ⟨fun hw hp => exec_startWindowEnd hr (by simp [startWindowEnds, instant, hw, hp]),
    fun hc hd => ⟨_, exec_stormExpiry hr.1 (by simp [stormExpires, instant, hc, hd]), ?_⟩,
    fun hc hd => ⟨_, exec_rainExpiry hr.1 (by simp [rainExpires, instant, hc, hd]), ?_⟩⟩
  · obtain ⟨storm, rain, demand, actsRain, actsDemand⟩ := takeResult_clears_storm (stormExpired s)
    rw [commit_weather, commit_levels]
    refine ⟨stormCleared_weather s, storm, rain, demand, actsRain, actsDemand, fun quiet => ?_, fun acts hr' hd' => ?_⟩
    · rw [commit_stormCleared_quiet hr hl quiet]
      exact stormCleared_quiet hl quiet
    · exact takeResult_hands_none (s := stormExpired s) (led_of_storm acts)
        rfl hr' hd'
  · obtain ⟨rain, storm, demand, actsDemand⟩ := takeResult_clears_rain (s := rainExpired s) hl
    rw [commit_weather, commit_levels]
    refine ⟨rainCleared_weather s, rain, storm, demand, actsDemand, fun idle => ?_, fun acts hd' => ?_⟩
    · obtain ⟨drive, target, occasion, reported⟩ := rainCleared_idle hl idle
      obtain ⟨-, noOccasion, -⟩ := hr
      exact ⟨(commit_drive_unreported (occasion.trans noOccasion) reported).trans drive, target⟩
    · obtain ⟨-, actsRain, -⟩ := hl.acting_iff
      obtain ⟨-, quiet⟩ := (actsRain (by simp [acts])).1 acts
      exact takeResult_hands_none (s := rainExpired s) (led_of_rain quiet acts)
        quiet rfl hd'

end Sys2Proof.Machine
end

section
/-! What the effect of a command does to the law of the appointment (R81): it ends in an appointment, or moves only what the
law does not look at. -/

namespace Sys2Proof.Machine

/-- From `s` to `t` the law of the appointment (R81) is kept. -/
def LevelsKept (s t : State) : Prop := LevelsLawful s → LevelsLawful t

theorem LevelsKept.refl (s : State) : LevelsKept s s := id

theorem LevelsKept.trans {s t u : State} (h : LevelsKept s t) (k : LevelsKept t u) : LevelsKept s u := k ∘ h

theorem LevelsKept.ite {c : Prop} [Decidable c] {s t u : State} (h : LevelsKept s t) (k : LevelsKept s u) :
    LevelsKept s (if c then t else u) := by
  split
  · exact h
  · exact k

/-- The law reads the levels' states, service hold, LISTEN and the profile, and nothing else. -/
theorem LevelsKept.still {s t : State} (listen : t.listen = s.listen) (safe : t.safe = s.safe)
    (hold : t.levels.serviceHold = s.levels.serviceHold) (storm : t.levels.storm = s.levels.storm)
    (rain : t.levels.rain = s.levels.rain) (demand : t.levels.demand = s.levels.demand) : LevelsKept s t := by
  have chosen : chosenLevel t = chosenLevel s :=
    chosenLevel_congr hold listen safe (by rw [storm]) (by rw [rain]) (by rw [demand])
  intro h
  unfold LevelsLawful
  rw [chosen, storm, rain, demand]
  exact h

theorem LevelsKept.of_lawful {s t : State} (h : LevelsLawful t) : LevelsKept s t := fun _ => h

theorem Moves.levelsKept {s t : State} (h : Moves s t) : LevelsKept s t := h.levelsLawful

theorem DriveMoved.levelsKept {s t : State} (h : DriveMoved s t) : LevelsKept s t := by
  obtain ⟨_, _, _, _, _, rfl⟩ := h
  exact .still rfl rfl rfl rfl rfl rfl

/-! ### Updates of one block -/

section
variable (s : State)

theorem LevelsKept.setStored (v : List StoredField) : LevelsKept s (s.setStored v) := .still rfl rfl rfl rfl rfl rfl
theorem LevelsKept.setStore (v : Commissioning) : LevelsKept s (s.setStore v) := .still rfl rfl rfl rfl rfl rfl
theorem LevelsKept.setSensor (v : Sensor) : LevelsKept s (s.setSensor v) := .still rfl rfl rfl rfl rfl rfl
theorem LevelsKept.setLine (v : Line) : LevelsKept s (s.setLine v) := .still rfl rfl rfl rfl rfl rfl
theorem LevelsKept.setPeers (v : List PeerRecord) : LevelsKept s (s.setPeers v) := .still rfl rfl rfl rfl rfl rfl
theorem LevelsKept.setWeather (v : Weather) : LevelsKept s (s.setWeather v) := .still rfl rfl rfl rfl rfl rfl
theorem LevelsKept.setSupply (v : Supply) : LevelsKept s (s.setSupply v) := .still rfl rfl rfl rfl rfl rfl
theorem LevelsKept.setDrive (v : Drive) : LevelsKept s (s.setDrive v) := .still rfl rfl rfl rfl rfl rfl
theorem LevelsKept.setPos (v : Tracker) : LevelsKept s (s.setPos v) := .still rfl rfl rfl rfl rfl rfl
theorem LevelsKept.setPins (v : Pins) : LevelsKept s (s.setPins v) := .still rfl rfl rfl rfl rfl rfl
theorem LevelsKept.setOccasion (v : Bool) : LevelsKept s (s.setOccasion v) := .still rfl rfl rfl rfl rfl rfl
theorem LevelsKept.setLineFeed (v : LineFeed) : LevelsKept s (s.setLineFeed v) := .still rfl rfl rfl rfl rfl rfl
theorem LevelsKept.setPending (v : List Instr) : LevelsKept s (s.setPending v) := .still rfl rfl rfl rfl rfl rfl

/-- RAIN's formed target is no part of the law. -/
theorem LevelsKept.setRainTarget (v : Option Target) :
    LevelsKept s (s.setLevels { s.levels with rainTarget := v }) := .still rfl rfl rfl rfl rfl rfl

/-- Nor is the demand expiry. -/
theorem restartExpiry_levelsKept : LevelsKept s (restartExpiry s) := .still rfl rfl rfl rfl rfl rfl

theorem place_levelsKept (k : Kind) (cls : Class) (p : List Byte) : LevelsKept s (place k cls p s) :=
  (place_moves k cls p s).levelsKept

/-- The end of a command. -/
theorem commit_levelsKept (t : State) : LevelsKept t (commit s t) := by
  rw [commit_frame]
  exact .still rfl rfl rfl rfl rfl rfl

end

/-! ### The line and commissioning -/

theorem hearOther_levelsKept (s : State) : LevelsKept s (hearOther s) := .setLine s _

theorem startTransmission_levelsKept (s : State) : LevelsKept s (startTransmission s) := by
  unfold startTransmission
  split
  · exact .refl s
  · exact .ite (.setLine s _) (.refl s)

theorem endTransmission_levelsKept (outcome : ReadBack) (read : List Bool) (s : State) :
    LevelsKept s (endTransmission outcome read s) := by
  unfold endTransmission
  split
  · exact .refl s
  · refine .ite (.refl s) ?_
    cases outcome with
    | ongoing => exact .refl s
    | lost | clash | completed => exact .setLine s _

theorem reply_levelsKept (index value : Nat) (status : Status) (s : State) :
    LevelsKept s (reply index value status s) := place_levelsKept s _ _ _

theorem closeWindow_levelsKept (s : State) : LevelsKept s (closeWindow s) := by
  have closed : LevelsKept s (s.setStore ⟨false, none, none, false⟩) := .setStore s _
  exact .ite (closed.trans (.setLine _ _)) closed

theorem endWindow_levelsKept (s : State) : LevelsKept s (endWindow s) :=
  .ite (.refl s) (.ite (.setStore s _) (closeWindow_levelsKept s))

theorem openWindow_levelsKept (index : Nat) (s : State) : LevelsKept s (openWindow index s) :=
  .ite ((LevelsKept.setStore s _).trans (reply_levelsKept _ _ _ _)) (reply_levelsKept _ _ _ s)

theorem beginWrite_levelsKept (value index : Nat) (s : State) : LevelsKept s (beginWrite value index s) := by
  unfold beginWrite
  split
  · exact reply_levelsKept _ _ _ s
  · exact .ite (.setStore s _) (reply_levelsKept _ _ _ s)

theorem readField_levelsKept (index : Nat) (s : State) : LevelsKept s (readField index s) := by
  unfold readField
  split <;> exact reply_levelsKept _ _ _ s

theorem completeWrite_levelsKept (read : StoredField) (s : State) : LevelsKept s (completeWrite read s) := by
  unfold completeWrite
  split
  · exact .refl s
  · have written := fun l w => (LevelsKept.setStored s l).trans (.setStore _ w)
    have replied := fun l w i v st => (written l w).trans (reply_levelsKept i v st _)
    exact .ite ((replied _ _ _ _ _).trans (closeWindow_levelsKept _)) (replied _ _ _ _ _)

theorem takeConfigure_levelsKept {closed perform : Nat → State → State} (hc : ∀ i t, LevelsKept t (closed i t))
    (hp : ∀ i t, LevelsKept t (perform i t)) (index : Nat) (s : State) :
    LevelsKept s (takeConfigure closed perform index s) := by
  have renewed : LevelsKept s (renewWindow s) := .setStore s _
  exact .ite (hc _ s) (.ite (renewed.trans (reply_levelsKept _ _ _ _)) (renewed.trans (hp _ _)))

section
variable {take : Frame → State → State} (h : ∀ f t, LevelsKept t (take f t))
include h

/-- An arrival from another source: the law is kept by the hearing and by what the command makes of the telegram. -/
theorem arrival_levelsKept (mine : Frame → Bool) (bits : List Bool) (s : State) :
    LevelsKept s (arrival mine bits take s) := by
  unfold arrival
  split
  · exact .refl s
  · exact .ite ((hearOther_levelsKept s).trans (h _ _)) (.refl s)

theorem requestArrival_levelsKept (action : Nat) (bits : List Bool) (s : State) :
    LevelsKept s (requestArrival action bits take s) :=
  arrival_levelsKept (fun f t => .ite (h f t) (.refl t)) _ bits s

theorem configureArrival_levelsKept (operation : Nat) (bits : List Bool) (s : State) :
    LevelsKept s (configureArrival operation bits take s) :=
  arrival_levelsKept (fun f t => .ite (h f t) (.refl t)) _ bits s

end

/-! ### Peers and supply sharing -/

theorem notePeer_levelsKept (src : Nat) (obs : Option Observation) (st : Option PeerState) (s : State) :
    LevelsKept s (notePeer src obs st s) := by
  unfold notePeer
  refine .ite (.refl s) ?_
  split
  · exact .setPeers s _
  · dsimp only
    split
    · exact .setPeers s _
    · exact (LevelsKept.setPeers s _).trans (takeNotice_moves _ _).levelsKept

theorem takeNotices_levelsKept (l : List Notice) (s : State) : LevelsKept s (l.foldl takeNotice s) := by
  induction l generalizing s with
  | nil => exact .refl s
  | cons n ns ih => exact (takeNotice_moves s n).levelsKept.trans (ih _)

theorem takeScan_levelsKept (s : State) : LevelsKept s (takeScan s) :=
  (LevelsKept.setPeers s _).trans (takeNotices_levelsKept _ _)

theorem dropAndEvaluate_levelsKept (src : Nat) (s : State) : LevelsKept s (dropAndEvaluate src s) :=
  (LevelsKept.setSupply s _).trans (occasionToEvaluate_moves _).levelsKept

theorem hearPeer_levelsKept (src : Nat) (s : State) : LevelsKept s (hearPeer src s) := .setPeers s _

theorem stateArrival_levelsKept (f : Frame) (s : State) :
    let st := peerStateOf f.payload s.nt
    let noted := notePeer f.source.toNat none (some st) s
    LevelsKept s (if st.running then dropAndEvaluate f.source.toNat noted else occasionToEvaluate noted) :=
  .ite ((notePeer_levelsKept _ _ _ s).trans (dropAndEvaluate_levelsKept _ _))
    ((notePeer_levelsKept _ _ _ s).trans (occasionToEvaluate_moves _).levelsKept)

theorem orderYield_levelsKept (s : State) : LevelsKept s (orderYield s) := by
  have released : LevelsKept s (releaseSupply s) := .setSupply s _
  have stops : LevelsKept s (enterStopping .yield (releaseSupply s)) :=
    released.trans (enterStopping_moves _ _).levelsKept
  have marked : ∀ d, LevelsKept s ((releaseSupply s).setDrive d) := fun d => released.trans (.setDrive _ d)
  unfold orderYield
  refine .ite released ?_
  split
  case h_1 | h_2 | h_3 | h_4 | h_5 => exact stops
  case h_6 => exact marked _
  case h_7 =>
    split
    case h_4 => exact released
    all_goals exact marked _
  case h_8 => exact released

theorem takeIntent_levelsKept (src : Nat) (p : List Byte) (s : State) : LevelsKept s (takeIntent src p s) := by
  have listed : LevelsKept s (s.setSupply { s.supply with entries := listAfterIntent src p s }) := .setSupply s _
  unfold takeIntent
  dsimp only
  split
  case h_1 h => exact listed.trans (evaluate_moves _ (.inr h)).levelsKept
  case h_2 => exact .ite (listed.trans (orderYield_levelsKept _)) listed
  case h_3 | h_4 => exact listed

theorem refreshIntent_levelsKept (s : State) : LevelsKept s (refreshIntent s) := by
  unfold refreshIntent
  dsimp only
  split
  · exact .setSupply s _
  · exact (placeIntent_moves _ _ s).levelsKept.trans (.setSupply _ _)

theorem takeSag_levelsKept (s : State) : LevelsKept s (takeSag s) :=
  ((LevelsKept.setSupply s _).trans (.setDrive _ _)).trans (enterStopping_moves .sag _).levelsKept

/-! ### Levels and weather: the effects that appoint -/

theorem appointFrom_lawful (before : Option Level) (s : State) : LevelsLawful (appointFrom before s) :=
  (appointFrom_spec before s).2.1

theorem clearDemand_lawful (s : State) : LevelsLawful (clearDemand s) := appointFrom_lawful _ _

theorem takeDemand_lawful (t : Target) (s : State) : LevelsLawful (takeDemand t s) := by
  have appointed : LevelsLawful (appoint (raiseDemand t s)) := appointFrom_lawful _ _
  have handed : LevelsKept (appoint (raiseDemand t s)) (demandHanded t s) :=
    .ite (handGoal_moves _).levelsKept (.refl _)
  exact restartExpiry_levelsKept _ (handed appointed)

theorem takePress_levelsKept (closes : Bool) (s : State) : LevelsKept s (takePress closes s) := by
  cases hs : s.safe with
  | true => rw [takePress_safe hs]; exact .refl s
  | false =>
    have noted : LevelsKept s (pressNoted closes s) :=
      .of_lawful ((pressNoted_moves closes s).levelsLawful (takeDemand_lawful _ s))
    rw [takePress_unsafe hs]
    exact .ite (noted.trans (.setDrive _ _)) noted

theorem placeImmediate_levelsKept (cls : Class) (s : State) : LevelsKept s (placeImmediate cls s) :=
  (place_levelsKept s _ _ _).trans (.setWeather _ _)

theorem triggerObserve_levelsKept (cls : Class) (s : State) : LevelsKept s (triggerObserve cls s) := by
  unfold triggerObserve
  refine .ite (.refl s) ?_
  split
  · exact placeImmediate_levelsKept cls s
  · exact .ite (placeImmediate_levelsKept cls s) (.setWeather s _)

theorem gustTrigger_levelsKept (s : State) : LevelsKept s (gustTrigger s) :=
  (LevelsKept.ite (triggerObserve_levelsKept .storm s) (.refl s)).trans (.setWeather _ _)

theorem assessmentTick_levelsKept (s : State) : LevelsKept s (assessmentTick s) :=
  .of_lawful (gustTrigger_levelsKept _ (takeResult_lawful _ _ _ _ _))

/-! ### Sensing -/

theorem takeEdge_levelsKept (s : State) : LevelsKept s (takeEdge s) := by
  have counted : LevelsKept s (s.setSensor { countEdge s.nt s.sensor with zeroRun := 0 }) := .setSensor s _
  exact .ite (.refl s) (.ite (counted.trans (.setWeather _ _)) counted)

theorem takeWindowEnd_levelsKept (vane : BitVec 4) (s : State) : LevelsKept s (takeWindowEnd vane s) := by
  have read := (LevelsKept.setPins s { s.pins with vane := vane }).trans (.setSensor _ (windowFront vane s))
  cases hs : s.safe with
  | true => rw [takeWindowEnd_safe vane hs]; exact read
  | false =>
    rw [takeWindowEnd_assesses vane hs]
    exact (read.trans (.setWeather _ _)).trans (assessmentTick_levelsKept _)

theorem takeGridSample_levelsKept (v : BitVec 12) (s : State) : LevelsKept s (takeGridSample v s) := by
  have read : ∀ f, LevelsKept s ((s.setPins { s.pins with grid := v }).setSensor f) := fun f =>
    (LevelsKept.setPins s _).trans (.setSensor _ f)
  exact .ite (read _) ((read _).trans (triggerObserve_levelsKept _ _))

theorem takeOpenLatch_levelsKept (s : State) : LevelsKept s (takeOpenLatch s) :=
  .ite ((LevelsKept.setSensor s _).trans (takePress_levelsKept _ _)) (.refl s)

theorem takeCloseLatch_levelsKept (s : State) : LevelsKept s (takeCloseLatch s) :=
  .ite ((LevelsKept.setSensor s _).trans (takePress_levelsKept _ _)) (.refl s)

theorem takeButtonSample_levelsKept (o c : Bool) (s : State) : LevelsKept s (takeButtonSample o c s) :=
  (((LevelsKept.setPins s _).trans (.setSensor _ _)).trans (takeOpenLatch_levelsKept _)).trans
    (takeCloseLatch_levelsKept _)

theorem takeKeyOn_lawful (s : State) : LevelsLawful (takeKeyOn s) := by
  have held := appointFrom_lawful (acting s) (withHold true s)
  rw [takeKeyOn_eq]
  exact LevelsKept.ite (interruptSafeSeat_moves _).levelsKept (.refl _) held

theorem beginSafeSeat_levelsKept (s : State) : LevelsKept s (beginSafeSeat s) :=
  .ite (moveDrive_moved _ s).levelsKept (.refl s)

theorem takeKeyOff_lawful (s : State) : LevelsLawful (takeKeyOff s) :=
  beginSafeSeat_levelsKept _ (endWindow_levelsKept _ (appointFrom_lawful (acting s) (withHold false s)))

theorem takeKeySample_levelsKept (on : Bool) (s : State) : LevelsKept s (takeKeySample on s) :=
  .ite (.of_lawful (takeKeyOn_lawful _))
    (.ite (.of_lawful (takeKeyOff_lawful _)) ((LevelsKept.setPins s _).trans (.setSensor _ _)))

/-! ### Drive and position -/

theorem referenceAtSeat_levelsKept (s : State) : LevelsKept s (referenceAtSeat s) :=
  .ite ((LevelsKept.setPos s _).trans (.setPos _ _)) (.setPos s _)

theorem endSuspect_levelsKept (s : State) : LevelsKept s (endSuspect s) := by
  unfold endSuspect
  split
  · exact .refl s
  · exact (LevelsKept.setRainTarget s _).trans (handGoal_moves _).levelsKept
  · exact (handGoal_moves s).levelsKept

theorem recogniseSeat_levelsKept (s : State) : LevelsKept s (recogniseSeat s) := by
  have noted : ∀ (p : Prop) [Decidable p] (t : State), LevelsKept t (if p then noteOccasion t else t) :=
    fun p _ t => .ite (.setOccasion t true) (.refl t)
  have stops : ∀ (t : State) (d : Drive), LevelsKept t (enterStopping .goal (moveEnded (t.setDrive d))) :=
    fun t d => (LevelsKept.setDrive t d).trans (arrive_moves _).levelsKept
  have handed : ∀ (t : State) (a b : Bool), LevelsKept t (if a then endSuspect t else if b then handGoal t else t) :=
    fun t a b => .ite (endSuspect_levelsKept t) (.ite (handGoal_moves t).levelsKept (.refl t))
  exact (((referenceAtSeat_levelsKept s).trans (noted _ _)).trans (stops _ _)).trans (handed _ _ _)

theorem detection_levelsKept (s : State) : LevelsKept s (detection s) := by
  have moving : LevelsKept s (detection.movingDetection s) :=
    .ite (recogniseSeat_levelsKept s) (recogniseObstruction_moves s).levelsKept
  unfold detection
  split
  case h_1 => exact recogniseSeat_levelsKept s
  case h_2 => exact (enterStopping_moves _ s).levelsKept
  case h_3 | h_4 | h_5 => exact moving
  case h_6 => exact .refl s

theorem takeStep_levelsKept (pair : HallPair) (s : State) : LevelsKept s (takeStep pair s) := by
  have read := (LevelsKept.setPins s { s.pins with hall := pair }).trans (.setPos _ { s.pos with hall := pair })
  have counted := fun p => (read.trans (.setPos _ p)).trans (countChanged_moves (position s) _).levelsKept
  exact .ite (read.trans (addReason_moves _ _).levelsKept)
    (.ite ((counted _).trans (addReason_moves _ _).levelsKept) (counted _))

theorem takeSkip_levelsKept (pair : HallPair) (s : State) : LevelsKept s (takeSkip pair s) :=
  ((LevelsKept.setPins s _).trans (.setPos _ _)).trans (addReason_moves _ _).levelsKept

theorem takeVelocity_levelsKept (s : State) : LevelsKept s (takeVelocity s) := by
  have read := fun p d => (LevelsKept.setPos s p).trans (.setDrive _ d)
  exact .ite ((read _ _).trans (detection_levelsKept _)) (read _ _)

theorem takeRampStep_levelsKept (s : State) : LevelsKept s (takeRampStep s) :=
  (LevelsKept.setDrive s _).trans (rampToTravel_moves _).levelsKept

theorem afterBraking_levelsKept {go : State → State} (h : ∀ t, LevelsKept t (go t)) (s : State) :
    LevelsKept s (afterBraking go s) := by
  unfold afterBraking
  split
  · exact (enterIdle_moves s).levelsKept
  · exact .ite (h s) (enterIdle_moves s).levelsKept

theorem endBraking_levelsKept (s : State) : LevelsKept s (endBraking s) := by
  have rests := (enterIdle_moves s).levelsKept
  have blocks := (enterBlocked_moves s).levelsKept
  unfold endBraking
  split
  case h_1 => exact afterBraking_levelsKept (fun t => (enterRamp_moves t).levelsKept) s
  case h_2 => exact .ite rests (enterBackoff_moves s).levelsKept
  case h_3 =>
    exact .ite rests (.ite blocks (.ite (waitOrIdle_moves s).levelsKept (enterRetryWait_moves s).levelsKept))
  case h_4 => exact .ite rests (.ite blocks (enterSagWait_moves s).levelsKept)
  case h_5 => exact afterBraking_levelsKept (fun t => (enterWaitSlot_moves t).levelsKept) s
  case h_6 | h_7 => exact rests

theorem controlledStop_levelsKept (s : State) : LevelsKept s (controlledStop s) := by
  have stops : ∀ c d, LevelsKept s (enterStopping c (s.setDrive d)) := fun c d =>
    (LevelsKept.setDrive s d).trans (enterStopping_moves c _).levelsKept
  have rests : ∀ d, LevelsKept s (enterIdle (s.setDrive d)) := fun d =>
    (LevelsKept.setDrive s d).trans (enterIdle_moves _).levelsKept
  unfold controlledStop
  dsimp only
  split
  case h_1 | h_2 | h_3 | h_4 | h_5 => exact stops _ _
  case h_6 | h_12 => exact .setDrive s _
  case h_7 | h_8 | h_9 | h_10 | h_11 => exact rests _

theorem takeRestart_levelsKept (s : State) : LevelsKept s (takeRestart s) :=
  .ite (.refl s) (controlledStop_levelsKept s)

end Sys2Proof.Machine
end

section
/-! Every step keeps the law of the appointment (R81, R93, R95, R96). -/

namespace Sys2Proof.Machine

/-! ### The commands -/

/-- A start leaves the levels lawful: in LISTEN none acts (R95, R98). -/
theorem startSequence_lawful (kind : StartKind) (s : State) : LevelsLawful (startSequence kind s) := by
  have unled : chosenLevel (startSequence kind s) = none := chosenLevel_not (by simp [mayAct, startSequence])
  have restored : ∀ (l : Level) (raised : Bool), restoredLevel raised = appointed l none (restoredLevel raised) :=
    fun l raised => by cases raised <;> rfl
  unfold LevelsLawful
  rw [unled]
  exact ⟨restored _ _, restored _ _, rfl⟩

theorem losePower_levelsKept (torn : Bool) (s : State) : LevelsKept s (losePower torn s) := by
  rw [losePower_eq]
  exact .still rfl rfl rfl rfl rfl rfl

section
variable {f : State → State} {s : State}

/-- A command keeps the law where its effect does. -/
theorem live_levelsKept (h : LevelsKept s (f s)) : LevelsKept s (live f s) :=
  .ite (h.trans (commit_levelsKept s _)) (.refl s)

theorem liveWhen_levelsKept {test : State → Bool} (h : test s = true → LevelsKept s (f s)) :
    LevelsKept s (liveWhen test f s) := by
  unfold liveWhen
  split
  · next due =>
    rw [Bool.and_eq_true] at due
    exact (h due.2).trans (commit_levelsKept s _)
  · exact .refl s

end

/-- Every command keeps the law. -/
theorem exec_levelsKept (c : Instr) (s : State) : ∃ t, exec c s = .next t ∧ LevelsKept s t := by
  cases c with
  | powerUp => exact ⟨_, rfl, .of_lawful (startSequence_lawful _ _)⟩
  | restartStart => exact ⟨_, rfl, .ite (.of_lawful (startSequence_lawful _ _)) (.refl s)⟩
  | logicSupplyLoss torn => exact ⟨_, rfl, .ite (losePower_levelsKept torn s) (.refl s)⟩
  | backupRailLoss => exact ⟨_, rfl, .still rfl rfl rfl rfl rfl rfl⟩
  | listenEnd => exact ⟨_, rfl, liveWhen_levelsKept fun _ =>
      .of_lawful (beginSafeSeat_levelsKept _ (appointFrom_lawful _ (s.setListen false)))⟩
  | safeSeatDeadline => exact ⟨_, rfl, liveWhen_levelsKept fun _ =>
      ((LevelsKept.setDrive s _).trans (enterStopping_moves _ _).levelsKept).trans (addReason_moves _ _).levelsKept⟩
  | anemometerEdge => exact ⟨_, rfl, live_levelsKept (takeEdge_levelsKept s)⟩
  | windowEnd vane => exact ⟨_, rfl, liveWhen_levelsKept fun _ => takeWindowEnd_levelsKept vane s⟩
  | startWindowEnd => exact ⟨_, rfl, liveWhen_levelsKept fun _ => .setWeather s _⟩
  | stormExpiry | rainExpiry => exact ⟨_, rfl, liveWhen_levelsKept fun _ => .of_lawful (takeResult_lawful _ _ _ _ _)⟩
  | gridSample v => exact ⟨_, rfl, liveWhen_levelsKept fun _ => takeGridSample_levelsKept v s⟩
  | buttonSample o c => exact ⟨_, rfl, liveWhen_levelsKept fun _ => takeButtonSample_levelsKept o c s⟩
  | keySample on => exact ⟨_, rfl, liveWhen_levelsKept fun _ => takeKeySample_levelsKept on s⟩
  | demandExpiry => exact ⟨_, rfl, liveWhen_levelsKept fun _ => .of_lawful (clearDemand_lawful s)⟩
  | transmissionStart => exact ⟨_, rfl, live_levelsKept (startTransmission_levelsKept s)⟩
  | transmissionLost read | identityClash read | transmissionComplete read =>
    exact ⟨_, rfl, live_levelsKept (endTransmission_levelsKept _ read s)⟩
  | observeArrival bits =>
    exact ⟨_, rfl, live_levelsKept (arrival_levelsKept (fun f t => notePeer_levelsKept _ _ _ t) _ bits s)⟩
  | stateArrival bits => exact ⟨_, rfl, live_levelsKept (arrival_levelsKept stateArrival_levelsKept _ bits s)⟩
  | intentArrival bits => exact ⟨_, rfl, live_levelsKept (arrival_levelsKept
      (fun f t => (hearPeer_levelsKept _ t).trans (takeIntent_levelsKept _ _ _)) _ bits s)⟩
  | withdrawArrival bits => exact ⟨_, rfl, live_levelsKept (arrival_levelsKept
      (fun f t => (hearPeer_levelsKept _ t).trans (dropAndEvaluate_levelsKept _ _)) _ bits s)⟩
  | requestOpenTo bits => exact ⟨_, rfl, live_levelsKept (requestArrival_levelsKept
      (fun f t => .of_lawful (takeDemand_lawful _ t)) 0 bits s)⟩
  | requestClose bits => exact ⟨_, rfl, live_levelsKept (requestArrival_levelsKept
      (fun f t => .of_lawful ((takeCloseNotice_moves _).levelsLawful (takeDemand_lawful _ t))) 1 bits s)⟩
  | requestStop bits => exact ⟨_, rfl, live_levelsKept (requestArrival_levelsKept
      (fun f t => .of_lawful (clearDemand_lawful t)) 2 bits s)⟩
  | requestRelease bits => exact ⟨_, rfl, live_levelsKept (requestArrival_levelsKept
      (fun f t => .of_lawful (clearDemand_lawful t)) 3 bits s)⟩
  | requestRestart bits => exact ⟨_, rfl, live_levelsKept (arrival_levelsKept
      (fun f t => .ite (takeRestart_levelsKept t) (.refl t)) _ bits s)⟩
  | configureOpen bits => exact ⟨_, rfl, live_levelsKept (configureArrival_levelsKept (fun f t =>
      takeConfigure_levelsKept openWindow_levelsKept (fun _ t => reply_levelsKept _ _ _ t) _ t) 0 bits s)⟩
  | configureWrite bits => exact ⟨_, rfl, live_levelsKept (configureArrival_levelsKept (fun f t =>
      takeConfigure_levelsKept (fun _ t => reply_levelsKept _ _ _ t) (beginWrite_levelsKept _) _ t) 1 bits s)⟩
  | configureRead bits => exact ⟨_, rfl, live_levelsKept (configureArrival_levelsKept (fun f t =>
      takeConfigure_levelsKept (fun _ t => reply_levelsKept _ _ _ t) readField_levelsKept _ t) 2 bits s)⟩
  | recordArrival bits => exact ⟨_, rfl, live_levelsKept (arrival_levelsKept (fun _ t => .refl t) _ bits s)⟩
  | arrivalNotHandedOn bits => exact ⟨_, rfl, live_levelsKept (arrival_levelsKept (fun _ t => .refl t) _ bits s)⟩
  | writeComplete v ch => exact ⟨_, rfl, liveWhen_levelsKept fun _ => completeWrite_levelsKept _ s⟩
  | commissioningWindowDeadline => exact ⟨_, rfl, liveWhen_levelsKept fun _ => endWindow_levelsKept s⟩
  | isolationDeadline => exact ⟨_, rfl, liveWhen_levelsKept fun _ => .setLine s _⟩
  | periodicObserveDeadline =>
    refine ⟨_, rfl, liveWhen_levelsKept fun _ => ?_⟩
    have placed := fun urgent : Prop => fun [Decidable urgent] =>
      LevelsKept.ite (c := urgent) (.refl s) (place_levelsKept s .observe .routine (observePayload s))
    exact (LevelsKept.ite ((placed _).trans (.setOccasion _ _)) (placed _)).trans (.setWeather _ _)
  | immediateHoldoffExpiry =>
    refine ⟨_, rfl, liveWhen_levelsKept fun _ => ?_⟩
    split
    · exact .setWeather s _
    · exact .ite (.setWeather s _) (placeImmediate_levelsKept _ s)
  | runningRefreshDeadline => exact ⟨_, rfl, liveWhen_levelsKept fun _ => .setOccasion s true⟩
  | peerScan => exact ⟨_, rfl, liveWhen_levelsKept fun _ => takeScan_levelsKept s⟩
  | settleDeadline =>
    refine ⟨_, rfl, liveWhen_levelsKept fun h => ?_⟩
    have settling : s.supply.admission = .settling := (decide_and_due.1 h).1
    exact (LevelsKept.setSupply s { s.supply with settleDl := none }).trans
      (evaluate_moves _ (.inl settling)).levelsKept
  | intentRefreshDeadline => exact ⟨_, rfl, liveWhen_levelsKept fun _ => refreshIntent_levelsKept s⟩
  | intentEntryAged src => exact ⟨_, rfl, liveWhen_levelsKept fun _ => dropAndEvaluate_levelsKept _ s⟩
  | sag => exact ⟨_, rfl, liveWhen_levelsKept fun _ => takeSag_levelsKept s⟩
  | supplyBelowHallFloor v => exact ⟨_, rfl, liveWhen_levelsKept fun _ =>
      ((LevelsKept.setPins s _).trans (readSupply_moves _).levelsKept).trans (addReason_moves _ _).levelsKept⟩
  | overCurrent => exact ⟨_, rfl, liveWhen_levelsKept fun _ => detection_levelsKept s⟩
  | velocityWindowEnd => exact ⟨_, rfl, liveWhen_levelsKept fun _ => takeVelocity_levelsKept s⟩
  | warningDeadline => exact ⟨_, rfl, liveWhen_levelsKept fun _ =>
      .ite (moveDrive_moved _ s).levelsKept (enterRamp_moves s).levelsKept⟩
  | rampStep => exact ⟨_, rfl, liveWhen_levelsKept fun _ => takeRampStep_levelsKept s⟩
  | stopDeadline => exact ⟨_, rfl, liveWhen_levelsKept fun _ =>
      (endBraking_levelsKept s).trans (beginSafeSeat_levelsKept _)⟩
  | seatTimeout => exact ⟨_, rfl, liveWhen_levelsKept fun _ =>
      ((LevelsKept.setDrive s _).trans (addReason_moves _ _).levelsKept).trans (arrive_moves _).levelsKept⟩
  | backoffDeadline => exact ⟨_, rfl, liveWhen_levelsKept fun _ => (enterStopping_moves _ s).levelsKept⟩
  | retryDeadline | sagHoldoffDeadline => exact ⟨_, rfl, liveWhen_levelsKept fun _ => (waitOrIdle_moves s).levelsKept⟩
  | refuseEnd => exact ⟨_, rfl, liveWhen_levelsKept fun _ => .setDrive s _⟩
  | hallStep pair =>
    exact ⟨_, rfl, .ite (liveWhen_levelsKept fun _ => takeStep_levelsKept pair s) (.setPins s _)⟩
  | hallSkip pair =>
    exact ⟨_, rfl, .ite (liveWhen_levelsKept fun _ => takeSkip_levelsKept pair s) (.setPins s _)⟩
  | crossCheckDeadline v => exact ⟨_, rfl, liveWhen_levelsKept fun _ =>
      ((LevelsKept.setPins s _).trans (.setPos _ _)).trans (compareAtRest_moves _).levelsKept⟩

/-! ### The clock -/

theorem passTime_levelsKept (u : Nat) (s : State) : LevelsKept s (passTime u s) :=
  (LevelsKept.setLine s _).trans (.setLineFeed _ _)

theorem happen_levelsKept (e : LineEvent) (s : State) : LevelsKept s (happen e s) := by
  cases e with
  | stop => exact (LevelsKept.setLine s _).trans (.setPending _ _)
  | sample => exact (LevelsKept.setLine s _).trans (.setPending _ _)
  | begin =>
    obtain ⟨still, falls⟩ := beginPulses_spec s
    show LevelsKept s (beginPulses s)
    by_cases h : Falls s
    · rw [falls h]
      exact (LevelsKept.setLineFeed s _).trans (.setLine _ _)
    · rw [still h]
      exact .setLineFeed s _

theorem millisecond_levelsKept (s : State) : LevelsKept s (millisecond s) := by
  have rises : LevelsKept s (risen s) := .still rfl rfl rfl rfl rfl rfl
  rw [millisecond_eq]
  exact rises.trans (readSupply_moves _).levelsKept

theorem runLine_levelsKept (s : State) : LevelsKept s (runLine s) := by
  unfold runLine
  split
  · exact millisecond_levelsKept s
  · exact .ite ((passTime_levelsKept _ s).trans (happen_levelsKept _ _)) (millisecond_levelsKept s)

theorem tick_levelsKept (s : State) : LevelsKept s (tick s) :=
  .ite (.still rfl rfl rfl rfl rfl rfl) (.ite (.still rfl rfl rfl rfl rfl rfl)
    (.ite (.setPending s _) (.ite (.setPending s _) (runLine_levelsKept s))))

/-! ### The step -/

/-- Every step keeps the law of the appointment (R81). -/
theorem step_levelsLawful {s t : State} (hl : LevelsLawful s) (h : step s = .next t) : LevelsLawful t := by
  unfold step at h
  split at h
  · next c rest _ =>
    obtain ⟨u, hu, kept⟩ := exec_levelsKept c (s.setPending rest)
    obtain rfl : u = t := Host.Outcome.next.inj (hu.symm.trans h)
    exact kept (LevelsKept.setPending s rest hl)
  · obtain rfl : tick s = t := Host.Outcome.next.inj h
    exact tick_levelsKept s hl

theorem mayAct_iff (s : State) :
    mayAct s = true ↔ s.levels.serviceHold = false ∧ s.listen = false ∧ s.safe = false := by
  simp [mayAct, and_assoc]

/-- What the law says of the levels that act: each only where a level may act and none above it is raised (R81). -/
theorem LevelsLawful.of_acting {s : State} (h : LevelsLawful s) :
    (s.levels.storm = .acting → mayAct s = true) ∧
    (s.levels.rain = .acting → mayAct s = true ∧ s.levels.storm = .quiet) ∧
    (s.levels.demand = .acting → mayAct s = true ∧ s.levels.storm = .quiet ∧ s.levels.rain = .quiet) := by
  obtain ⟨storm, rain, demand⟩ := h.acting_iff
  exact ⟨fun k => (storm (by simp [k])).1 k, fun k => (rain (by simp [k])).1 k, fun k => (demand (by simp [k])).1 k⟩

/-- While a level may act, one acts unless all are QUIET (R81). -/
theorem LevelsLawful.one_acts {s : State} (h : LevelsLawful s) (may : mayAct s = true) :
    (s.levels.storm = .quiet ∧ s.levels.rain = .quiet ∧ s.levels.demand = .quiet) ∨
    s.levels.storm = .acting ∨ s.levels.rain = .acting ∨ s.levels.demand = .acting := by
  obtain ⟨storm, rain, demand⟩ := h.acting_iff
  by_cases hs : s.levels.storm = .quiet
  · by_cases hr : s.levels.rain = .quiet
    · by_cases hd : s.levels.demand = .quiet
      · exact .inl ⟨hs, hr, hd⟩
      · exact .inr (.inr (.inr ((demand hd).2 ⟨may, hs, hr⟩)))
    · exact .inr (.inr (.inl ((rain hr).2 ⟨may, hs⟩)))
  · exact .inr (.inl ((storm hs).2 may))

/-- Settles O7: a lawful state has its ACTING level chosen by the appointment, and the rest follows from the choice. -/
theorem stepKeepsTheAppointment : Obligations.StepKeepsTheAppointment := by
  intro s t hl ht
  have lawful := step_levelsLawful hl ht
  obtain ⟨storm, rain, demand⟩ := lawful.of_acting
  have silent : t.levels.serviceHold = true ∨ t.listen = true ∨ t.safe = true → mayAct t ≠ true := by
    rw [ne_eq, mayAct_iff]
    rintro (h | h | h) <;> simp [h]
  refine ⟨lawful, fun ⟨hs, hr⟩ => ?_, fun ⟨hs, hd⟩ => ?_, fun ⟨hr, hd⟩ => ?_,
    fun h => ⟨fun k => silent h (storm k), fun k => silent h (rain k).1, fun k => silent h (demand k).1⟩,
    fun hr => ?_, fun hd => ?_, fun hold listen safe => lawful.one_acts ((mayAct_iff t).2 ⟨hold, listen, safe⟩)⟩
  · simp [(rain hr).2] at hs
  · simp [(demand hd).2.1] at hs
  · simp [(demand hd).2.2] at hr
  · simp [(rain hr).2]
  · simp [(demand hd).2.1, (demand hd).2.2]

end Sys2Proof.Machine
end

section
/-! A goal withdrawn (R82, R90, R91): what the drive makes of a handing of none, and the DEMAND that is cleared. -/

namespace Sys2Proof.Machine

/-! ### No goal handed -/

theorem takeGoal_none_goal {s : State} (h : acting s = none) : (takeGoal none s).drive.goal = none := by
  have unled : acting (withDriveGoal none s) = none := h
  rcases takeGoal_none s with k | k | k <;> rw [k]
  · rfl
  · rw [enterIdle_unled (by exact unled)]
    rfl
  · rw [enterStopping_eq]
    rfl

section
variable {s : State} (hc : s.drive.controlledStop = false) (hg : s.drive.goal ≠ none)
include hc hg

/-- A withdrawal brakes a moving drive, and ends a backoff (R130, R133). -/
theorem takeGoal_none_brakes (hs : s.drive.state = .ramp ∨ s.drive.state = .travel ∨ s.drive.state = .approach ∨
    s.drive.state = .seating ∨ s.drive.state = .backoff) :
    takeGoal none s = enterStopping .goal (withDriveGoal none s) := by
  have changed : none ≠ s.drive.goal := hg.symm
  have moving := fun k => takeGoal_moving (g := none) hc changed k
  rcases hs with hs | hs | hs | hs | hs
  · exact moving (.inl hs)
  · exact moving (.inr (.inl hs))
  · exact moving (.inr (.inr (.inl hs)))
  · exact moving (.inr (.inr (.inr hs)))
  · simp [takeGoal, withDriveGoal, hc, hs, changed]

/-- A withdrawal brings a waiting drive to rest (R121, R122, R131, R132, R137). -/
theorem takeGoal_none_rests (hs : s.drive.state = .waitSlot ∨ s.drive.state = .warning ∨
    s.drive.state = .retryWait ∨ s.drive.state = .sagWait ∨ s.drive.state = .blocked) :
    takeGoal none s = enterIdle (withDriveGoal none s) := by
  have changed : none ≠ s.drive.goal := hg.symm
  rcases hs with hs | hs | hs | hs | hs
  · simp [takeGoal, withDriveGoal, hc, hs, changed, changeWhileWaiting]
  · exact takeGoal_warning hc changed hs
  all_goals simp [takeGoal, withDriveGoal, hc, hs, changed]

end

/-! ### DEMAND cleared -/

/-- DEMAND cleared with its target and its expiry, before the appointment (R90, R91). -/
def demandCleared (s : State) : State :=
  s.setLevels { s.levels with demand := .quiet, demandTarget := none, expiryDl := none }

theorem clearDemand_eq (s : State) : clearDemand s = appointFrom (acting s) (demandCleared s) := rfl

/-- Clearing DEMAND changes the choice only where DEMAND was chosen (R81). -/
theorem chosenLevel_demandCleared {s : State} (h : chosenLevel s ≠ some .demand) :
    chosenLevel (demandCleared s) = chosenLevel s := by
  by_cases may : mayAct s = true
  · by_cases storm : s.levels.storm = .quiet
    · by_cases rain : s.levels.rain = .quiet
      · have demand : s.levels.demand = .quiet := by
          by_contra raised
          exact h (chosenLevel_demand may storm rain raised)
        rw [chosenLevel_unraised storm rain demand, chosenLevel_unraised (s := demandCleared s) storm rain rfl]
      · rw [chosenLevel_rain may storm rain, chosenLevel_rain (s := demandCleared s) may storm rain]
    · rw [chosenLevel_storm may storm, chosenLevel_storm (s := demandCleared s) may storm]
  · have mayNot : mayAct s = false := by simpa using may
    rw [chosenLevel_not mayNot, chosenLevel_not (s := demandCleared s) mayNot]

section
variable {s : State} (hl : LevelsLawful s)
include hl

theorem chosen_not_demand (hd : s.levels.demand ≠ .acting) : chosenLevel s ≠ some .demand := by
  intro chosen
  obtain ⟨-, -, raised⟩ := chosenLevel_raised chosen
  obtain ⟨-, -, demand⟩ := hl
  exact hd (demand.trans ((appointed_acting _ _ _).2 ⟨raised rfl, chosen⟩))

/-- A DEMAND that did not act is cleared alone: no other level moves and nothing is handed (R81, R90). -/
theorem clearDemand_idle (hd : s.levels.demand ≠ .acting) : ∃ target, clearDemand s = s.setLevels { s.levels with
    demand := .quiet, demandTarget := none, expiryDl := none, rainTarget := target } := by
  have chosen := chosenLevel_demandCleared (chosen_not_demand hl hd)
  have led : chosenLevel (demandCleared s) = acting s := chosen.trans (acting_of_lawful hl).symm
  obtain ⟨storm, rain, -⟩ := hl
  refine ⟨(appointedLevels (demandCleared s)).rainTarget, ?_⟩
  rw [clearDemand_eq, appointFrom_same led]
  have states : appointedLevels (demandCleared s) = { (demandCleared s).levels with
      storm := appointed .storm (chosenLevel s) s.levels.storm
      rain := appointed .rain (chosenLevel s) s.levels.rain
      rainTarget := (appointedLevels (demandCleared s)).rainTarget } := by
    rw [← chosen]
    rfl
  rw [states, ← storm, ← rain]
  rfl

/-- A DEMAND that acted leaves no level to act: its goal is withdrawn (R81, R82, R90). -/
theorem clearDemand_acting (hd : s.levels.demand = .acting) : ∃ v : Levels,
    clearDemand s = takeGoal none (s.setLevels v) ∧ v.acting = none ∧ v.handed = none ∧ v.holdRef = none ∧
    v.storm = s.levels.storm ∧ v.rain = s.levels.rain := by
  obtain ⟨-, noStorm, noRain⟩ := demandLeads_of_acting hl hd
  have chosen : chosenLevel (demandCleared s) = none := chosenLevel_unraised noStorm noRain rfl
  have led : acting s = some .demand :=
    (acting_of_lawful hl).trans ((appointed_acting _ _ _).1 (hl.2.2.symm.trans hd)).2
  have unled := (acting_setAppointed (demandCleared s)).trans chosen
  have formed : formGoal ((demandCleared s).setLevels (appointedLevels (demandCleared s))) = none := by
    simp [formGoal, unled]
  refine ⟨(recordHanding ((demandCleared s).setLevels (appointedLevels (demandCleared s)))).levels, ?_, ?_, ?_, ?_,
    ?_, ?_⟩
  · rw [clearDemand_eq, appointFrom_other (by rw [chosen, led]; exact nofun), handGoal, formed]
    rfl
  · exact unled
  · exact formed
  · exact if_pos formed
  · exact ((appointed_quiet _ _ _).2 noStorm).trans noStorm.symm
  · exact ((appointed_quiet _ _ _).2 noRain).trans noRain.symm

/-- What clearing DEMAND leaves of the levels and the count. -/
theorem clearDemand_levels : let t := clearDemand s
    t.levels.demand = .quiet ∧ t.levels.demandTarget = none ∧ t.levels.expiryDl = none ∧
    t.levels.storm = s.levels.storm ∧ t.levels.rain = s.levels.rain ∧ t.pos.count = s.pos.count := by
  obtain ⟨turns, -, -, -, demand⟩ := appointFrom_spec (acting s) (demandCleared s)
  rw [← clearDemand_eq] at turns demand
  have weather : (clearDemand s).levels.storm = s.levels.storm ∧ (clearDemand s).levels.rain = s.levels.rain := by
    by_cases hd : s.levels.demand = .acting
    · obtain ⟨v, taken, unled, -, -, storm, rain⟩ := clearDemand_acting hl hd
      rw [taken, takeGoal_none_levels (by exact unled)]
      exact ⟨storm, rain⟩
    · obtain ⟨target, idle⟩ := clearDemand_idle hl hd
      rw [idle]
      exact ⟨rfl, rfl⟩
  exact ⟨demand.trans ((appointed_quiet _ _ _).2 rfl), turns.demandTarget, turns.expiryDl, weather.1, weather.2,
    turns.count⟩

/-- Clearing a DEMAND that did not act reports nothing. -/
theorem clearDemand_idle_reported (hd : s.levels.demand ≠ .acting) :
    (clearDemand s).occasion = s.occasion ∧ reportedFields (clearDemand s) = reportedFields s := by
  have acts : acting (clearDemand s) = acting s := by
    rw [clearDemand_eq, appointFrom_acting, chosenLevel_demandCleared (chosen_not_demand hl hd), acting_of_lawful hl]
  obtain ⟨target, idle⟩ := clearDemand_idle hl hd
  rw [idle] at acts ⊢
  exact ⟨rfl, congrArg (fun level => (motion s, level, suspect s, s.drive.state == .blocked, s.levels.serviceHold,
    s.supply.running)) acts⟩

end

/-! ### The commands -/

section
variable {bits : List Bool} {f : Frame} {s : State} (hp : s.power = true) (hs : s.safe = false)
  (hr : receive bits = some f) (hk : f.kind = Kind.request.code) (ho : f.source.toNat ≠ lineId s)
  (ha : requestAddressed f.payload s = true)
include hp hs hr hk ho ha

theorem exec_requestStop (hc : f.payload.getD 1 0 = 2) :
    exec (.requestStop bits) s = .next (commit s (clearDemand (hearOther s))) :=
  congrArg _ (live_request hp hs hr hk ho ha 2 (congrArg BitVec.toNat hc) _)

theorem exec_requestRelease (hc : f.payload.getD 1 0 = 3) :
    exec (.requestRelease bits) s = .next (commit s (clearDemand (hearOther s))) :=
  congrArg _ (live_request hp hs hr hk ho ha 3 (congrArg BitVec.toNat hc) _)

end

theorem exec_demandExpiry {s : State} (hp : s.power = true) (hd : due s.nt s.levels.expiryDl = true) :
    exec .demandExpiry s = .next (commit s (clearDemand s)) := congrArg _ (liveWhen_due _ hp hd)

/-- Settles O38: the three commands end alike, but for what the line has heard. -/
theorem demandIsCleared : Obligations.DemandIsCleared := by
  intro c s hr hl he hs hc
  obtain ⟨hp, noOccasion, -⟩ := hr
  obtain ⟨l, carried⟩ : ∃ l, exec c s = .next (commit s (clearDemand (s.setLine l))) := by
    rcases hc with ⟨rfl, expired⟩ | ⟨bits, f, ⟨rfl, action⟩ | ⟨rfl, action⟩, received, kind, source, addressed⟩
    · exact ⟨s.line, exec_demandExpiry hp expired⟩
    · exact ⟨_, exec_requestStop hp hs received kind source addressed action⟩
    · exact ⟨_, exec_requestRelease hp hs received kind source addressed action⟩
  have lawful : LevelsLawful (s.setLine l) := hl
  refine ⟨_, carried, ?_⟩
  obtain ⟨demand, target, expiry, storm, rain, count⟩ := clearDemand_levels lawful
  rw [commit_levels, commit_supply]
  refine ⟨demand, target, expiry, storm, rain, by rw [commit_pos]; exact count, fun hd => ?_, fun hd => ?_,
    fun hd hg hstop => ⟨fun moves => ?_, fun waits => ?_⟩⟩
  · obtain ⟨occasion, reported⟩ := clearDemand_idle_reported lawful hd
    obtain ⟨target, idle⟩ := clearDemand_idle lawful hd
    have unreported : reportedFields (clearDemand (s.setLine l)) = reportedFields s := reported
    rw [commit_drive_unreported (occasion.trans noOccasion) unreported, idle]
    exact ⟨rfl, rfl, rfl⟩
  all_goals
    obtain ⟨v, withdrawn, unled, handed, holdRef, -, -⟩ := clearDemand_acting lawful hd
    rw [commit_drive, withdrawn]
  · rw [takeGoal_none_levels (by exact unled)]
    exact ⟨handed, holdRef, takeGoal_none_goal (s := (s.setLine l).setLevels v) unled⟩
  · rw [takeGoal_none_brakes (by exact hstop) (by exact hg) (by exact moves), enterStopping_eq]
    exact ⟨rfl, rfl, rfl⟩
  · rw [takeGoal_none_rests (by exact hstop) (by exact hg) (by exact waits)]
    obtain ⟨retry, -, -, -, running, -, -, -, -, -, rests, -⟩ :=
      enterIdle_cameToRest (withDriveGoal none ((s.setLine l).setLevels v))
    obtain ⟨⟨idle, admission, -, -⟩, -, -⟩ := rests (.inr (.inr unled))
    exact ⟨idle, retry, admission, running he⟩

end Sys2Proof.Machine
end

section
/-! The end of LISTEN (R81, R95, R160, R163). -/

namespace Sys2Proof.Machine

/-- In the safe profile no STATE is placed, and the end of a command leaves the line as it is (R35). -/
theorem commit_line_safe {s t : State} (h : t.safe = true) : (commit s t).line = t.line := by
  simp only [commit, h, Bool.not_true, Bool.false_and, Bool.false_eq_true, if_false]
  rfl

/-- In LISTEN no level acts (R81, R95). -/
theorem acting_listen {s : State} (h : LevelsLawful s) (hl : s.listen = true) : acting s = none :=
  (acting_of_lawful h).trans (chosenLevel_not (by simp [mayAct, hl]))

/-- The level that acts once LISTEN is over, written out (R81). -/
theorem chosenLevel_listened {s : State} (h : s.safe = false) : chosenLevel (s.setListen false) =
    if s.levels.serviceHold = true then none
    else if s.levels.storm ≠ .quiet then some .storm
    else if s.levels.rain ≠ .quiet then some .rain
    else if s.levels.demand ≠ .quiet then some .demand else none := by
  have may : mayAct (s.setListen false) = !s.levels.serviceHold := by simp [mayAct, h]
  cases hold : s.levels.serviceHold with
  | true => exact chosenLevel_not (by rw [may, hold]; rfl)
  | false =>
    unfold chosenLevel
    rw [may, hold]
    rfl

/-- An appointment that makes STORM act hands its closed-seated goal (R82, R85), whatever a comparison finds. -/
theorem appointFrom_hands_storm {before : Option Level} {s : State} (hb : before ≠ some .storm)
    (chosen : chosenLevel s = some .storm) : (appointFrom before s).levels.handed = some ⟨.storm, .seat⟩ := by
  have led : acting (s.setLevels (appointedLevels s)) = some .storm := (acting_setAppointed s).trans chosen
  have formed : formGoal (s.setLevels (appointedLevels s)) = some ⟨.storm, .seat⟩ := by simp [formGoal, led]
  rw [appointFrom_other (by rw [chosen]; exact hb.symm)]
  rcases handGoal_handing led with ⟨-, kept⟩ | ⟨-, -, kept⟩
  · exact kept.trans formed
  · exact kept

/-- In the safe profile the end of LISTEN appoints no level and moves none (R81, R96). -/
theorem appoint_listened_safe {s : State} (h : LevelsLawful s) (hl : s.listen = true) (hs : s.safe = true) :
    ∃ v, appoint (s.setListen false) = (s.setListen false).setLevels v ∧ v.storm = s.levels.storm ∧
      v.serviceHold = s.levels.serviceHold := by
  have unled : chosenLevel (s.setListen false) = none := chosenLevel_not (mayAct_safe hs)
  have before : acting s = none := acting_listen h hl
  have silent : chosenLevel s = none := chosenLevel_not (mayAct_safe hs)
  obtain ⟨storm, -, -⟩ := h
  refine ⟨_, appointFrom_same (unled.trans before.symm), ?_, rfl⟩
  rw [silent] at storm
  exact (congrArg (appointed .storm · s.levels.storm) unled).trans storm.symm

theorem exec_listenEnd {s : State} (hp : s.power = true) (hl : s.listen = true) (hn : passed s.nt 2000#32 = true) :
    exec .listenEnd s = .next (commit s (beginSafeSeat (appoint (s.setListen false)))) :=
  congrArg _ (liveWhen_due _ hp (by simp [listenEnds, hl, hn]))

/-- Settles O59: the appointment made outside LISTEN acts, or the safe seat begins where no level may act. -/
theorem listenEndLetsALevelAct : Obligations.ListenEndLetsALevelAct := by
  intro s hr hl listening ended
  have turns : Turns (s.setListen false) (appoint (s.setListen false)) := (appoint_spec _).1
  have levels : (commit s (beginSafeSeat (appoint (s.setListen false)))).levels =
      (appoint (s.setListen false)).levels := by rw [commit_levels, beginSafeSeat_eq]
  refine ⟨_, exec_listenEnd hr.1 listening ended, ?_, fun hs => ?_, fun hs hold raised => ?_, fun hs => ?_,
    fun hs hold notBegun rests noStop => ?_⟩
  · rw [commit_frame, beginSafeSeat_eq]
    exact turns.listen
  · rw [acting, levels, ← chosenLevel_listened hs]
    exact appointFrom_acting _ _
  · have silent : acting s = none := acting_listen hl listening
    have chosen : chosenLevel (s.setListen false) = some .storm := by
      rw [chosenLevel_listened hs, if_neg (by simp [hold]), if_pos raised]
    rw [levels]
    exact appointFrom_hands_storm (before := acting s) (by rw [silent]; exact nofun) chosen
  · obtain ⟨v, quiet, storm, -⟩ := appoint_listened_safe hl listening hs
    rw [levels, commit_line_safe (by rw [beginSafeSeat_eq]; exact turns.safe.trans hs), beginSafeSeat_eq, quiet]
    exact ⟨rfl, storm⟩
  · obtain ⟨v, quiet, -, holds⟩ := appoint_listened_safe hl listening hs
    rw [commit_drive_safe (by rw [beginSafeSeat_eq]; exact turns.safe.trans hs), quiet,
      beginSafeSeat_begins (s := (s.setListen false).setLevels v) hs rfl (holds.trans hold) notBegun rests
        noStop]
    exact ⟨rfl, rfl, rfl, rfl⟩

end Sys2Proof.Machine
end

section
/-! A request for the supply (R105, R106, R120): the announcement of a goal, from IDLE and anew. -/

namespace Sys2Proof.Machine

/-! ### The own entry -/

/-- The own entry stored is the only own entry of the list (R105). -/
theorem eq_of_mem_storeOwn {x e : Entry} {l : List Entry} (h : e ∈ storeOwn x l) (ho : e.own = true) : e = x := by
  have peers : ∀ m : List Entry, m.Sublist (withoutOwn l) → e ∈ insertEntry x m → e = x := by
    intro m sub he
    rcases mem_insertEntry.1 he with he | he
    · exact he
    · rw [(mem_withoutOwn.1 (sub.subset he)).2] at ho
      cases ho
  unfold storeOwn at h
  dsimp only at h
  split at h
  · exact peers _ (List.Sublist.refl _) h
  · exact peers _ (evictLowest_sublist _) h

theorem Level.cls_code (l : Level) : l.cls.code = l.code := by cases l <;> rfl

/-- From `s` to `t` a level and direction are announced (R105): the own entry, its deadlines, and the INTENT where
placements are taken. -/
structure Announced (level : Level) (dir : Dir) (s t : State) : Prop where
  admission : t.supply.admission = .settling
  own : t.supply.own = some (level, dir)
  settleDl : t.supply.settleDl = some (after s.nt 250)
  refreshDl : t.supply.refreshDl = some (after s.nt 2000)
  running : t.supply.running = s.supply.running
  entry : ownEntry level dir s ∈ t.supply.entries
  only : ∀ e ∈ t.supply.entries, e.own = true → e = ownEntry level dir s
  refused : refusesPlacement .intent s = true → t.line = s.line
  placed : refusesPlacement .intent s = false → ∃ e ∈ t.line.queue, e.kind = .intent ∧ e.cls.code = level.code ∧
    e.payload = intentPayload level dir s.cfg.weight s.cfg.group

theorem announce_announced (level : Level) (dir : Dir) (s : State) : Announced level dir s (announce level dir s) where
  admission := rfl
  own := rfl
  settleDl := rfl
  refreshDl := rfl
  running := by
    show (placeIntent level dir s).supply.running = _
    rw [placeIntent_supply]
  entry := storeOwn_mem _ _
  only := fun _ => eq_of_mem_storeOwn
  refused := fun hr => by
    show (placeIntent level dir s).line = s.line
    rw [placeIntent, place, if_pos hr]
  placed := fun hr => by
    obtain ⟨e, he, kind, cls, payload⟩ := put_holds (s.line.drop .withdraw) s.nt .intent level.cls
      (intentPayload level dir s.cfg.weight s.cfg.group)
    refine ⟨e, ?_, kind, by rw [cls, Level.cls_code], payload⟩
    rw [← intentPlaced hr] at he
    exact he

theorem requestAdmission_announced {s : State} (hs : s.safe = false) (ha : s.supply.admission ≠ .admitted)
    (level : Level) (dir : Dir) : Announced level dir s (requestAdmission level dir s) := by
  unfold requestAdmission
  rw [if_neg (by simp [hs, ha])]
  exact announce_announced level dir s

/-! ### A goal asked for -/

/-- From `s` to `t` the drive has asked for the supply in the name of a goal (R105, R120, R121): it stands in WAIT_SLOT
with the goal in hand, and the goal's level and direction are announced. -/
def SupplyAsked (g : Goal) (s t : State) : Prop :=
  let dir := requestDir g s
  t.drive.state = .waitSlot ∧ t.drive.goal = some g ∧ t.drive.seatRecord = s.drive.seatRecord ∧
  t.levels = s.levels ∧ t.pos = { s.pos with crossCheckDl := t.pos.crossCheckDl } ∧
  t.supply.admission = .settling ∧ t.supply.own = some (g.level, dir) ∧
  t.supply.settleDl = some (after s.nt 250) ∧ t.supply.refreshDl = some (after s.nt 2000) ∧
  t.supply.running = s.supply.running ∧ ownEntry g.level dir s ∈ t.supply.entries ∧
  (∀ e ∈ t.supply.entries, e.own = true → e = ownEntry g.level dir s) ∧
  (refusesPlacement .intent s = true → t.line = s.line) ∧
  (refusesPlacement .intent s = false → ∃ e ∈ t.line.queue, e.kind = .intent ∧ e.cls.code = g.level.code ∧
    e.payload = intentPayload g.level dir s.cfg.weight s.cfg.group)

theorem Announced.supplyAsked {g : Goal} {s t : State} (h : Announced g.level (requestDir g s) s t)
    (state : t.drive.state = .waitSlot) (goal : t.drive.goal = some g)
    (seatRecord : t.drive.seatRecord = s.drive.seatRecord) (levels : t.levels = s.levels)
    (pos : t.pos = { s.pos with crossCheckDl := t.pos.crossCheckDl }) : SupplyAsked g s t :=
  ⟨state, goal, seatRecord, levels, pos, h.admission, h.own, h.settleDl, h.refreshDl, h.running, h.entry, h.only,
    h.refused, h.placed⟩

section
variable {s : State} {g : Goal} (hg : s.drive.goal = some g)
include hg

theorem enterWaitSlot_asked (hs : s.safe = false) (ha : s.supply.admission ≠ .admitted) :
    SupplyAsked g s (enterWaitSlot s) := by
  have announced : Announced g.level (requestDir g s) s (enterWaitSlot s) := by
    rw [enterWaitSlot_requests hg]
    obtain ⟨admission, own, settle, refresh, running, entry, only, refused, placed⟩ :=
      requestAdmission_announced (s := { s with
        drive := { s.drive.cleared.unmarked with state := .waitSlot }
        pos := { s.pos with crossCheckDl := none }, supply := { s.supply with sagTimer := none } })
        hs ha g.level (requestDir g s)
    exact ⟨admission, own, settle, refresh, running, entry, only, refused, placed⟩
  generalize hw : enterWaitSlot s = w at announced ⊢
  rw [enterWaitSlot_eq hg] at hw
  refine announced.supplyAsked ?_ ?_ ?_ ?_ ?_ <;> rw [← hw]
  · exact hg
  · rfl

theorem enterWaitSlot_retry : (enterWaitSlot s).drive.retry = s.drive.retry := by
  rw [enterWaitSlot_eq hg]
  rfl

theorem enterWaitSlot_crossCheck : (enterWaitSlot s).pos.crossCheckDl = none := by rw [enterWaitSlot_eq hg]

theorem waitOrIdle_asks (hm : needsMotion g s = true) : waitOrIdle s = enterWaitSlot s := by
  simp [waitOrIdle, hg, hm]

theorem waitOrIdle_rests (hm : needsMotion g s = false) : waitOrIdle s = enterIdle s := by
  simp [waitOrIdle, hg, hm]

end

end Sys2Proof.Machine
end

section
/-! What the drive makes of a handing in each of its states (R119 to R122, R127, R130 to R135, R137, R138). -/

namespace Sys2Proof.Machine

/-! ### At rest, under a controlled stop, and handed again -/

theorem takeGoal_controlled {s : State} (hc : s.drive.controlledStop = true) (g : Option Goal) :
    takeGoal g s = withDriveGoal g s := by simp [takeGoal, withDriveGoal, hc]

theorem takeGoal_idle {s : State} (hc : s.drive.controlledStop = false) (hs : s.drive.state = .idle)
    (g : Option Goal) : takeGoal g s = takeGoalAtRest g s := by simp [takeGoal, hc, hs]

/-- A goal that needs motion, handed in IDLE, makes the drive ask for the supply (R120). -/
theorem takeGoal_idle_asks {s : State} {g : Goal} (hc : s.drive.controlledStop = false) (hs : s.drive.state = .idle)
    (hm : needsMotion g s = true) : takeGoal (some g) s = enterWaitSlot (withDriveGoal (some g) s) := by
  rw [takeGoal_idle hc hs, takeGoalAtRest_some, if_pos (by simp [hc, hm])]
  rfl

/-- A handing in IDLE of no goal, or of one that needs no motion, only becomes the goal in hand (R120). -/
theorem takeGoal_idle_still {s : State} {g : Option Goal} (hs : s.drive.state = .idle)
    (hm : ∀ goal, g = some goal → needsMotion goal s = false) : takeGoal g s = withDriveGoal g s := by
  cases hc : s.drive.controlledStop with
  | true => exact takeGoal_controlled hc g
  | false =>
    rw [takeGoal_idle hc hs]
    cases g with
    | none => rfl
    | some goal =>
      rw [takeGoalAtRest_some, if_neg (by simp [hm goal rfl])]
      rfl

/-- Out of IDLE the goal in hand, handed again, changes nothing (R121, R122, R127, R133). -/
theorem takeGoal_again {s : State} (hn : s.drive.goal ≠ none) (hi : s.drive.state ≠ .idle) :
    takeGoal s.drive.goal s = s := by
  suffices kept : takeGoal s.drive.goal s = withDriveGoal s.drive.goal s from kept
  cases hc : s.drive.controlledStop with
  | true => exact takeGoal_controlled hc _
  | false =>
    cases hs : s.drive.state with
    | idle => exact absurd hs hi
    | sagWait => simp [takeGoal, withDriveGoal, hc, hs, hn]
    | _ => simp [takeGoal, withDriveGoal, hc, hs]

/-! ### In the states that wait -/

section
variable {s : State} (hc : s.drive.controlledStop = false)
include hc

theorem takeGoal_waitSlot {g : Option Goal} (hg : g ≠ s.drive.goal) (hs : s.drive.state = .waitSlot) :
    takeGoal g s = changeWhileWaiting g (withDriveGoal g s) := by
  simp [takeGoal, withDriveGoal, hc, hs, hg]

/-- RETRY_WAIT and BLOCKED are left with the retry count forgiven (R131, R132). -/
theorem takeGoal_forgives {g : Goal} (hg : some g ≠ s.drive.goal)
    (hs : s.drive.state = .retryWait ∨ s.drive.state = .blocked) :
    takeGoal (some g) s = forgiveAndGo (withDriveGoal (some g) s) := by
  rw [takeGoal_waits hc hs.symm, if_neg hg]

/-- A goal that needs no motion, or none, brings a drive that waits to rest (R121, R122, R131, R132). -/
theorem takeGoal_still_rests {g : Option Goal} (hg : g ≠ s.drive.goal)
    (hm : ∀ goal, g = some goal → needsMotion goal s = false)
    (hs : s.drive.state = .waitSlot ∨ s.drive.state = .warning ∨ s.drive.state = .retryWait ∨
      s.drive.state = .blocked) : CameToRest (withDriveGoal g s) (takeGoal g s) := by
  cases g with
  | none =>
    rw [takeGoal_none_rests hc hg.symm (by tauto)]
    exact enterIdle_cameToRest _
  | some new =>
    have still : needsMotion new (withDriveGoal (some new) s) = false := hm new rfl
    have forgiven := fun k => takeGoal_forgives hc hg k
    have rests : CameToRest (withDriveGoal (some new) s) (forgiveAndGo (withDriveGoal (some new) s)) := by
      unfold forgiveAndGo
      rw [waitOrIdle_rests (g := new) rfl (by exact still)]
      exact enterIdle_cameToRest ((withDriveGoal (some new) s).setDrive _)
    rcases hs with hs | hs | hs | hs
    · rw [takeGoal_waitSlot hc hg hs, changeWhileWaiting, if_neg (by simp [still])]
      exact enterIdle_cameToRest _
    · rw [takeGoal_warning hc hg hs, changeWhileWarning_reached still]
      exact enterIdle_cameToRest _
    · rw [forgiven (.inl hs)]
      exact rests
    · rw [forgiven (.inr hs)]
      exact rests

section
variable {new : Goal} (hg : some new ≠ s.drive.goal) (hm : needsMotion new s = true)
include hg hm

/-- In WAIT_SLOT a goal that needs motion is announced anew, and nothing of the drive moves (R106, R121). -/
theorem takeGoal_waitSlot_asks (hw : s.drive.state = .waitSlot) (hs : s.safe = false)
    (ha : s.supply.admission ≠ .admitted) : SupplyAsked new s (takeGoal (some new) s) ∧
      (takeGoal (some new) s).drive = (withDriveGoal (some new) s).drive := by
  have moves : needsMotion new (withDriveGoal (some new) s) = true := hm
  rw [takeGoal_waitSlot hc hg hw, changeWhileWaiting, if_pos moves]
  have announced := requestAdmission_announced (s := withDriveGoal (some new) s) hs ha new.level (requestDir new s)
  generalize hr : requestAdmission new.level (requestDir new (withDriveGoal (some new) s)) _ = r
  have frame := requestAdmission_eq new.level (requestDir new s) (withDriveGoal (some new) s)
  change requestAdmission new.level (requestDir new s) _ = r at hr
  rw [hr] at announced frame
  obtain ⟨admission, own, settle, refresh, running, entry, only, refused, placed⟩ := announced
  rw [frame]
  exact ⟨⟨hw, rfl, rfl, rfl, rfl, admission, own, settle, refresh, running, entry, only, refused, placed⟩, rfl⟩

/-- In RETRY_WAIT and BLOCKED it asks with the retry count forgiven (R131, R132). -/
theorem takeGoal_forgives_asks (hw : s.drive.state = .retryWait ∨ s.drive.state = .blocked) (hs : s.safe = false)
    (ha : s.supply.admission ≠ .admitted) : SupplyAsked new s (takeGoal (some new) s) ∧
      (takeGoal (some new) s).drive.retry = 0 := by
  have moves : needsMotion new (withDriveGoal (some new) s) = true := hm
  rw [takeGoal_forgives hc hg hw]
  unfold forgiveAndGo
  rw [waitOrIdle_asks (g := new) rfl (by exact moves), enterWaitSlot_retry (g := new) rfl]
  exact ⟨enterWaitSlot_asked (g := new)
    (s := (withDriveGoal (some new) s).setDrive { (withDriveGoal (some new) s).drive with retry := 0 }) rfl hs ha, rfl⟩

/-- The drive in WARNING with a goal in hand and a warning deadline. -/
def warningUntil (dl : Time) (s : State) : State := s.setDrive { s.drive with warningDl := some dl }

omit hc hg hm in
theorem warningTime_some (g : Goal) (s : State) : warningTime (some g) s =
    if g.level = .storm then min s.cfg.warnTime 10 else s.cfg.warnTime := by
  rcases g with ⟨_ | _ | _, _⟩ <;> rfl

/-- In WARNING the deadline is worked out again from the entry into it; passed by it the warning ends (R122). -/
theorem takeGoal_warning_again (hw : s.drive.state = .warning) :
    let dl := after s.drive.patternStart (100 * (if new.level = .storm then min s.cfg.warnTime 10 else s.cfg.warnTime))
    let waits := warningUntil dl (withDriveGoal (some new) s)
    (passed s.nt dl = false → takeGoal (some new) s = waits) ∧
    (passed s.nt dl = true → RampEntered new waits (takeGoal (some new) s)) := by
  have moves : (!needsMotion new (withDriveGoal (some new) s)) = false := by
    rw [show needsMotion new (withDriveGoal (some new) s) = true from hm]
    rfl
  intro dl waits
  have again : takeGoal (some new) s = if passed s.nt dl then enterRamp waits else waits := by
    have time : warningTime (some new) (withDriveGoal (some new) s) =
        if new.level = .storm then min s.cfg.warnTime 10 else s.cfg.warnTime := warningTime_some _ _
    rw [takeGoal_warning hc hg hw, changeWhileWarning, if_neg (by simp [moves]), time]
    rfl
  refine ⟨fun early => ?_, fun late => ?_⟩
  · rw [again, if_neg (by simp [early])]
  · rw [again, if_pos late]
    exact enterRamp_entered rfl

end

end

/-! ### In the states that move -/

/-- From `s` to `t` the drive has begun the braking for GOAL with a goal in hand, the admission kept (R127, R133). -/
def Braked (g : Option Goal) (s t : State) : Prop :=
  t.drive.state = .stopping ∧ t.drive.continuation = some .goal ∧ t.drive.stopDl = some (after s.nt 200) ∧
  t.drive.goal = g ∧ t.supply.admission = s.supply.admission

theorem enterStopping_braked (g : Option Goal) (s : State) : Braked g s (enterStopping .goal (withDriveGoal g s)) := by
  rw [enterStopping_stops]
  exact ⟨rfl, rfl, rfl, rfl, rfl⟩

theorem arrive_braked (g : Option Goal) (s : State) :
    Braked g s (arrive (withDriveGoal g s)) ∧ (arrive (withDriveGoal g s)).supply.sagCount = 0 := by
  rw [arrive_eq]
  exact ⟨⟨rfl, rfl, rfl, rfl, rfl⟩, rfl⟩

/-- Closed-seated comes in place of another goal while the position is suspect (R134). -/
def SeatInPlace (old : Option Goal) (new : Goal) (s : State) : Prop :=
  suspect s = true ∧ new.target = .seat ∧ ∃ o, old = some o ∧ o.target ≠ .seat

/-- A change to a goal that needs motion brakes where closed-seated comes in place of another while suspect, and where the
direction turns (R133, R134). -/
theorem changeWhileMoving_brakes {old : Option Goal} {new : Goal} {s : State} (hm : needsMotion new s = true)
    (h : SeatInPlace old new s ∨ s.drive.dir ≠ some (goalDir new s)) :
    changeWhileMoving old (some new) s = enterStopping .goal s := by
  rcases h with ⟨suspected, seat, o, rfl, other⟩ | turns
  · simp [changeWhileMoving, hm, suspected, seat, other]
  · simp [changeWhileMoving, hm, turns]

/-- Otherwise it goes on in the present direction by the tests of the position, out of SEATING in APPROACH (R133). -/
theorem changeWhileMoving_goes_on {old : Option Goal} {new : Goal} {s : State} (hm : needsMotion new s = true)
    (hr : ¬SeatInPlace old new s) (hd : s.drive.dir = some (goalDir new s)) :
    changeWhileMoving old (some new) s =
      if s.drive.state = .seating then if new.target = .seat then s else positionTests (enterApproach s)
      else positionTests s := by
  cases old with
  | none => simp [changeWhileMoving, hm, hd]
  | some o =>
    have kept : ¬(new.target = .seat && suspect s && o.target != .seat) = true := by
      simp only [Bool.and_eq_true, decide_eq_true_eq, bne_iff_ne]
      exact fun ⟨⟨seat, suspected⟩, other⟩ => hr ⟨suspected, seat, o, rfl, other⟩
    unfold changeWhileMoving
    dsimp only
    rw [hm, if_neg (by simp), if_neg kept, if_pos hd]

/-- The tests of the position leave the state of the drive only with a passage. -/
theorem positionTests_same {s : State} {g : Goal} {dir : Dir} (hg : s.drive.goal = some g)
    (hd : s.drive.dir = some dir) (hs : testsRun s) (h : (positionTests s).drive.state = s.drive.state) :
    positionTests s = s := by
  rcases positionTests_cases hg hd hs with ⟨-, ht⟩ | ⟨-, ht⟩ | ⟨-, -, ⟨-, early, ht⟩ | ⟨-, ht⟩⟩
  · rw [ht, enterSeating_eq] at h
    unfold testsRun at hs
    simp [← h] at hs
  · rw [ht, arrive_eq] at h
    unfold testsRun at hs
    simp [← h] at hs
  · rw [ht, enterApproach_eq] at h
    exact absurd h.symm early
  · exact ht

section
variable {s : State} (hc : s.drive.controlledStop = false)
include hc

/-- What a change of goal does in RAMP, TRAVEL, APPROACH and SEATING to a goal that needs motion in the present direction
(R124, R126, R133). -/
theorem takeGoal_goes_on {new : Goal} {dir : Dir} (hg : some new ≠ s.drive.goal)
    (hs : s.drive.state = .ramp ∨ s.drive.state = .travel ∨ s.drive.state = .approach ∨ s.drive.state = .seating)
    (hm : needsMotion new s = true) (hr : ¬SeatInPlace s.drive.goal new s) (hd : s.drive.dir = some dir)
    (hdir : goalDir new s = dir) :
    let held := withDriveGoal (some new) s
    let t := takeGoal (some new) s
    (s.drive.state ≠ .seating → PositionTested new dir s.pos.count s.drive.state held t ∧
      (t.drive.state = s.drive.state → t = held)) ∧
    (s.drive.state = .seating → new.target = .seat → t = held) ∧
    (s.drive.state = .seating → new.target ≠ .seat → PositionTested new dir s.pos.count .approach held t ∧
      (t.drive.state = .approach → t.drive.duty = s.cfg.creepDuty ∧ t.drive.seatTimeoutDl = none)) := by
  intro held t
  have goesOn : t = if s.drive.state = .seating then
      if new.target = .seat then held else positionTests (enterApproach held) else positionTests held :=
    (takeGoal_moving hc hg hs).trans
      (changeWhileMoving_goes_on (s := held) hm hr (hd.trans (congrArg some hdir.symm)))
  refine ⟨fun moving => ?_, fun seating seat => ?_, fun seating other => ?_⟩
  · have runs : testsRun held := by
      rcases hs with h | h | h | h
      · exact .inl h
      · exact .inr (.inl h)
      · exact .inr (.inr h)
      · exact absurd h moving
    rw [goesOn, if_neg moving]
    exact ⟨positionTests_tested (s := held) rfl hd runs, positionTests_same (s := held) rfl hd runs⟩
  · rw [goesOn, if_pos seating, if_pos seat]
  · rw [goesOn, if_pos seating, if_neg other, enterApproach_eq]
    generalize hu : ({ held with
      drive := { held.drive with
        state := .approach, duty := held.cfg.creepDuty, rampStepDl := none, seatTimeoutDl := none }
      pos := { held.pos with crossCheckDl := none } } : State) = u
    have goal : u.drive.goal = some new := by rw [← hu]; rfl
    have heading : u.drive.dir = some dir := by rw [← hu]; exact hd
    have near : u.drive.state = .approach := by rw [← hu]
    have tested := positionTests_tested goal heading (.inr (.inr near))
    refine ⟨?_, fun stays => ?_⟩
    · rw [near] at tested
      rw [← hu] at tested ⊢
      exact tested
    · rw [positionTests_same goal heading (.inr (.inr near)) (stays.trans near.symm), ← hu]
      exact ⟨rfl, rfl⟩

/-! ### In the states that hold or keep a goal -/

/-- A withdrawal in a braking only takes the goal out of hand (R127). -/
theorem takeGoal_none_stopping (hs : s.drive.state = .stopping) : takeGoal none s = withDriveGoal none s := by
  simp [takeGoal, withDriveGoal, hc, hs]

/-- In an obstruction's braking and in BACKOFF a change of goal is held (R127, R135). -/
theorem takeGoal_held {g : Goal} (hg : some g ≠ s.drive.goal) (hs : HoldsChange s.drive) :
    takeGoal (some g) s = s.setDrive { s.drive with goal := some g, heldChange := true } := by
  rw [takeGoal_holds hc hs, decide_eq_true hg, Bool.or_true]

end

/-! ### Whether a goal needs motion, and where to (R119) -/

theorem lt_gap_iff (n a b : Nat) : n < gap a b ↔ b + n < a ∨ a + n < b := by
  unfold gap
  split <;> omega

/-- A goal that is a position needs motion when it is more than 5 pm away. -/
theorem needsMotion_pm {g : Goal} {p : Nat} (hg : g.target = .pm p) (s : State) :
    needsMotion g s = true ↔ position s + 5 < p ∨ p + 5 < position s := by
  simp only [needsMotion, hg, decide_eq_true_eq]
  exact lt_gap_iff _ _ _

theorem goalDir_pm {g : Goal} {p : Nat} (hg : g.target = .pm p) (s : State) :
    goalDir g s = .closing ↔ ((p * s.cfg.stroke / 1000 : Nat) : Int) < s.pos.count := by
  unfold goalDir
  rw [hg]
  show (if ((p * s.cfg.stroke / 1000 : Nat) : Int) < s.pos.count then Dir.closing else .opening) = .closing ↔ _
  split <;> simp_all

/-- Closed-seated needs motion without a seat record, or more than 20 pm from it. -/
theorem needsMotion_seat {g : Goal} (hg : g.target = .seat) (s : State) : needsMotion g s = true ↔
    ∀ r, s.drive.seatRecord = some r → position s + 20 < r ∨ r + 20 < position s := by
  unfold needsMotion
  rw [hg]
  dsimp only
  cases s.drive.seatRecord with
  | none => simp
  | some r => simp only [decide_eq_true_eq, Option.some.injEq, forall_eq', lt_gap_iff, or_comm]

theorem goalDir_seat {g : Goal} (hg : g.target = .seat) (s : State) : goalDir g s = .closing := by
  simp [goalDir, hg]

/-! ### An OPEN_TO that may act -/

/-- A DEMAND that leads, handed in IDLE with the position trusted: the goal, and the reference of the hold (R85, R86). -/
theorem takeDemand_hands {s : State} (h : DemandLeads s) (hs : suspect s = false) (hi : s.drive.state = .idle)
    (target : Target) : ∃ v : Levels,
      takeDemand target s = restartExpiry (takeGoal (some ⟨.demand, target⟩) (s.setLevels v)) ∧
      v.handed = some ⟨.demand, target⟩ ∧ v.holdRef = some (position s) := by
  have formed : formGoal (asked target s) = some ⟨.demand, target⟩ := by
    rw [formGoal_asked h, hs]
    rfl
  refine ⟨(recordHanding (asked target s)).levels, ?_, formed, ?_⟩
  · rw [takeDemand_eq, demandHanded_leads h, handGoal, formed, ← recordHanding_asked]
  · show (if formGoal (asked target s) = none then none
      else if s.drive.state = .idle then some (position s) else s.levels.holdRef) = _
    rw [formed, if_neg nofun, if_pos hi]

theorem cls_of_demandCode {c : Class} (h : c.code = Level.demand.code) : c = .drive := by
  revert h
  cases c <;> decide

/-- What the drive makes of a change of goal out of IDLE, in every state. -/
theorem takeGoal_changed {g : Option Goal} {s : State} (hc : s.drive.controlledStop = false)
    (hg : g ≠ s.drive.goal) :
    let held := withDriveGoal g s
    let t := takeGoal g s
    (s.drive.state = .ramp ∨ s.drive.state = .travel ∨ s.drive.state = .approach ∨ s.drive.state = .seating →
      (g = none → Braked g s t) ∧
      (∀ new, g = some new →
        (needsMotion new s = false → Braked g s t ∧ t.supply.sagCount = 0) ∧
        (needsMotion new s = true → SeatInPlace s.drive.goal new s ∨ s.drive.dir ≠ some (goalDir new s) →
          Braked g s t))) ∧
    (s.drive.state = .stopping →
      (g = none ∨ (s.drive.continuation ≠ some .backoff ∧ s.drive.continuation ≠ some .verdict) → t = held) ∧
      (g ≠ none → s.drive.continuation = some .backoff ∨ s.drive.continuation = some .verdict →
        t = held.setDrive { held.drive with heldChange := true })) ∧
    (s.drive.state = .backoff → (g = none → Braked g s t) ∧
      (g ≠ none → t = held.setDrive { held.drive with heldChange := true })) ∧
    (s.drive.state = .sagWait → (g = none → CameToRest held t) ∧ (g ≠ none → t = held)) := by
  intro held t
  cases g with
  | none =>
    refine ⟨fun hs => ⟨fun _ => ?_, nofun⟩, fun hs => ⟨fun _ => takeGoal_none_stopping hc hs, fun k => absurd rfl k⟩,
      fun hs => ⟨fun _ => ?_, fun k => absurd rfl k⟩, fun hs => ⟨fun _ => ?_, fun k => absurd rfl k⟩⟩
    · rw [show t = _ from takeGoal_none_brakes hc hg.symm (by tauto)]
      exact enterStopping_braked none s
    · rw [show t = _ from takeGoal_none_brakes hc hg.symm (by tauto)]
      exact enterStopping_braked none s
    · rw [show t = _ from takeGoal_none_rests hc hg.symm (by tauto)]
      exact enterIdle_cameToRest held
  | some new =>
    refine ⟨fun hs => ⟨nofun, fun k hk => ?_⟩, fun hs => ⟨fun k => ?_, fun _ k => takeGoal_held hc hg (.inr ⟨hs, k⟩)⟩,
      fun hs => ⟨nofun, fun _ => takeGoal_held hc hg (.inl hs)⟩, fun hs => ⟨nofun, fun _ => takeGoal_keeps hc (.inl hs)⟩⟩
    · obtain rfl : new = k := Option.some.inj hk
      rw [show t = _ from takeGoal_moving hc hg hs]
      refine ⟨fun still => ?_, fun moves turns => ?_⟩
      · rw [changeWhileMoving_reached (by exact still)]
        exact arrive_braked (some new) s
      · rw [changeWhileMoving_brakes (s := held) moves turns]
        exact enterStopping_braked (some new) s
    · exact takeGoal_keeps hc (.inr ⟨hs, k.resolve_left nofun⟩)

/-- Settles O40, by the state of the drive the goal is handed in; an OPEN_TO that may act is such a handing in IDLE. -/
theorem handedGoalAsksForTheSupply : Obligations.HandedGoalAsksForTheSupply := by
  refine ⟨fun g s hs idle stop admission moves _ => ?_, fun g s idle still => takeGoal_idle_still idle still,
    fun g s => ⟨fun stop => takeGoal_controlled stop g, fun same some out => ?_⟩,
    fun g s stop changed => ⟨fun waits still => takeGoal_still_rests stop changed still waits, fun new hn moves => ?_,
      fun moving => ?_, ?_⟩,
    fun g s => ⟨fun p hp => ⟨needsMotion_pm hp s, goalDir_pm hp s⟩,
      fun seat => ⟨goalDir_seat seat s, needsMotion_seat seat s⟩⟩, ?_⟩
  · have free : s.supply.admission ≠ .admitted := by rw [admission]; exact nofun
    rw [takeGoal_idle_asks stop idle moves, enterWaitSlot_retry (g := g) rfl, enterWaitSlot_crossCheck (g := g) rfl]
    exact ⟨enterWaitSlot_asked (s := withDriveGoal (some g) s) rfl hs free, rfl, rfl⟩
  · rw [same] at some ⊢
    exact takeGoal_again some out
  · subst hn
    refine ⟨fun hw hs ha _ => takeGoal_waitSlot_asks stop changed moves hw hs ha,
      takeGoal_warning_again stop changed moves, fun hw hs ha _ => ?_⟩
    exact takeGoal_forgives_asks stop changed moves hw hs (by rw [ha]; exact nofun)
  · obtain ⟨brakes, -⟩ := takeGoal_changed stop changed
    obtain ⟨withdrawn, given⟩ := brakes moving
    refine ⟨withdrawn, fun new hn => ?_⟩
    obtain ⟨reached, turned⟩ := given new hn
    subst hn
    exact ⟨reached, turned, fun dir moves other heading => takeGoal_goes_on stop changed moving moves other heading⟩
  · obtain ⟨-, rest⟩ := takeGoal_changed stop changed
    exact rest
  · intro bits f s p hr hl he hs received kind source addressed action hp positive noStorm noRain may trusted idle stop
      admission far dir
    have lawful : LevelsLawful (hearOther s) := hl
    have target : demandAt (requestPosition f.payload) s = .pm p := by
      rw [demandAt_requestPosition, ← hp, if_neg positive]
    obtain ⟨v, taken, handed, holdRef⟩ :=
      takeDemand_hands (s := hearOther s) ⟨may, noStorm, noRain⟩ trusted idle (.pm p)
    have moves : needsMotion ⟨.demand, .pm p⟩ ((hearOther s).setLevels v) = true := decide_eq_true far
    have asks := takeGoal_idle_asks (s := (hearOther s).setLevels v) stop idle moves
    obtain ⟨state, goal, -, levels, -, settling, own, settle, refresh, running, entry, -, -, placed⟩ :=
      enterWaitSlot_asked (g := ⟨.demand, .pm p⟩)
        (s := withDriveGoal (some ⟨.demand, .pm p⟩) ((hearOther s).setLevels v)) rfl hs
        (by show s.supply.admission ≠ .admitted; rw [admission]; exact nofun)
    have crossCheck := enterWaitSlot_crossCheck (g := ⟨.demand, .pm p⟩)
      (s := withDriveGoal (some ⟨.demand, .pm p⟩) ((hearOther s).setLevels v)) rfl
    rw [← asks] at state goal levels settling own settle refresh running entry placed crossCheck
    have still : s.supply.running = false := by
      obtain ⟨-, -, -, -, -, admitted⟩ := he
      rw [admission] at admitted
      simpa using admitted
    refine ⟨_, exec_requestOpenTo hr.1 hs received kind source addressed action, ?_⟩
    rw [target, taken]
    simp only [commit_levels, commit_supply]
    generalize takeGoal (some ⟨.demand, .pm p⟩) ((hearOther s).setLevels v) = t at *
    refine ⟨(congrArg Levels.handed levels).trans handed, (congrArg Levels.holdRef levels).trans holdRef,
      by rw [commit_drive]; exact state, by rw [commit_drive]; exact goal, by rw [commit_pos]; exact crossCheck,
      settling, own, settle, refresh, running.trans still, entry, fun speaks => ?_, ?_⟩
    · have taken : refusesPlacement .intent s = false := by
        obtain ⟨-, listens, -⟩ := (mayAct_iff s).1 may
        simp [refusesPlacement, listens, speaks, hs]
      obtain ⟨e, queued, intent, cls, payload⟩ := placed taken
      exact ⟨e, mem_commit_queue (by exact queued) (by rw [intent]; exact nofun), intent, cls_of_demandCode cls, payload⟩
    · unfold energised
      rw [commit_drive]
      show (_ && t.drive.state.energised) = false
      rw [state]
      exact Bool.and_false _

end Sys2Proof.Machine
end

section
/-! A sag of an energised drive, and the INTENT announced again (R105, R113, R137). -/

namespace Sys2Proof.Machine

/-- The end of a command that mirrors nothing new: what it made, and what a STATE moves. -/
theorem commit_unmirrored {s t : State} (hr : Ready s) (ho : t.occasion = s.occasion)
    (hret : t.retained = s.retained) (hm : mirrored t = mirrored s) : commit s t = { t with
      line := { t.line with queue := (commit s t).line.queue }
      pos := { t.pos with lastReported := (commit s t).pos.lastReported }
      drive := { t.drive with refreshDl := (commit s t).drive.refreshDl } } := by
  obtain ⟨-, noOccasion, mirrors⟩ := hr
  conv_lhs => rw [commit_frame, commit_retained mirrors hret hm, ← hret, ← noOccasion, ← ho]

/-! ### A sag (R113, R137) -/

theorem inMotion_of_energised {d : DriveState} (h : d.energised = true) : d.inMotion = true := by
  unfold DriveState.inMotion
  split
  · rfl
  · exact h

theorem sagDue_of_timer {s : State} {since : Time} (hs : s.safe = false) (he : energised s = true)
    (ht : s.supply.sagTimer = some since) (h : 50 ≤ (s.nt - since).toNat) : sagDue s = true := by
  rw [sagDue, he, hs, ht]
  exact decide_eq_true h

/-- The sag count after one more sag (R113). -/
theorem sagCount_next (n : Nat) : min 6 (n + 1) = if n < 6 then n + 1 else 6 := by
  split <;> omega

theorem takeSag_stops (s : State) : takeSag s = { s with
    drive := { s.drive.cleared with
      state := .stopping, stopDl := some (after s.nt 200), continuation := some .sag
      holdoff := sagHoldoff (lineId s) (min 6 (s.supply.sagCount + 1))
      obstructionPending := s.drive.state == .backoff }
    pos := { s.pos with crossCheckDl := none }
    supply := { s.supply with sagCount := min 6 (s.supply.sagCount + 1), sagTimer := none } } := rfl

/-- An energised drive and one that brakes are both in motion, so the Retained Record stays (R153). -/
theorem mirrored_takeSag {s : State} (he : energised s = true) : mirrored (takeSag s) = mirrored s := by
  have moving : s.drive.state.inMotion = true := inMotion_of_energised (Bool.and_eq_true_iff.1 he).2
  rw [takeSag_stops, mirrored, mirrored, moving]
  rfl

/-- Settles O45: the sag through its effect; what the end of the command adds is the STATE alone. -/
theorem sagStopsTheDrive : Obligations.SagStopsTheDrive := by
  intro s since hr hs he ht h k
  have made : exec .sag s = .next (commit s (takeSag s)) :=
    congrArg Host.Outcome.next (liveWhen_due _ hr.1 (sagDue_of_timer hs he ht h))
  have ends := commit_unmirrored (t := takeSag s) hr (by rw [takeSag_stops]) (by rw [takeSag_stops])
    (mirrored_takeSag he)
  have supply := commit_supply s (takeSag s)
  have drive := commit_drive s (takeSag s)
  generalize commit s (takeSag s) = t at *
  have id : lineId s = s.cfg.id := by simp [lineId, hs]
  rw [takeSag_stops, sagCount_next, id] at ends supply drive
  refine ⟨t, made, supply, congrArg Drive.holdoff drive, congrArg Drive.state drive,
    congrArg Drive.continuation drive, congrArg Drive.stopDl drive, congrArg Drive.duty drive,
    (congrArg Drive.goal drive :), (congrArg Drive.retry drive :), congrArg Drive.obstructionPending drive, ?_⟩
  rw [supply, drive]
  exact ends

/-! ### The INTENT announced again (R105) -/

theorem intentRefreshDue_of_passed {s : State} {d : Time}
    (ha : s.supply.admission = .settling ∨ s.supply.admission = .waiting) (hd : s.supply.refreshDl = some d)
    (hp : passed s.nt d = true) : intentRefreshDue s = true := by
  simp [intentRefreshDue, due, ha, hd, hp]

theorem refreshIntent_eq {s : State} {level : Level} {dir : Dir} (ho : s.supply.own = some (level, dir)) :
    refreshIntent s = { s with
      line := (placeIntent level dir s).line
      supply := { s.supply with
        entries := renewOwn s.nt s.supply.entries, refreshDl := s.supply.refreshDl.map fun d => after d 2000 } } := by
  unfold refreshIntent
  dsimp only
  split
  · next none => rw [ho] at none; cases none
  · next own =>
    obtain ⟨rfl, rfl⟩ := Prod.mk.inj (Option.some.inj (ho.symm.trans own))
    obtain ⟨l, placed, -⟩ := place_line .intent level.cls (intentPayload level dir s.cfg.weight s.cfg.group) s
    rw [placeIntent, placed]
    rfl

/-- An INTENT placed is queued with its class and payload, and no WITHDRAW beside it (R33). -/
theorem placeIntent_queued {s : State} (hr : refusesPlacement .intent s = false) (level : Level) (dir : Dir) :
    (placeIntent level dir s).line.holds .withdraw = false ∧
    ∃ e ∈ (placeIntent level dir s).line.queue, e.kind = .intent ∧ e.cls.code = level.code ∧
      e.payload = intentPayload level dir s.cfg.weight s.cfg.group := by
  have apart : Kind.withdraw ≠ .intent := nofun
  rw [placeIntent, intentPlaced hr]
  obtain ⟨e, mem, kind, cls, payload⟩ := put_holds (s.line.drop .withdraw) s.nt .intent level.cls
    (intentPayload level dir s.cfg.weight s.cfg.group)
  exact ⟨by rw [put_holds_other _ _ apart, drop_holds], e, mem, kind, by rw [cls, Level.cls_code], payload⟩

/-- Settles O44: the refresh moves the INTENT and the own entry, which are neither reported nor mirrored. -/
theorem intentIsRefreshed : Obligations.IntentIsRefreshed := by
  intro s level dir d hr ha ho hd hp
  have refreshed := refreshIntent_eq ho
  have line : (placeIntent level dir s).line = { s.line with
      queue := (placeIntent level dir s).line.queue, inFlight := (placeIntent level dir s).line.inFlight } :=
    congrArg State.line (place_queue_inFlight .intent level.cls _ s)
  have still : refusesPlacement .intent s = true → (placeIntent level dir s).line = s.line := fun refused =>
    congrArg State.line (place_refused refused level.cls _)
  rw [hd] at refreshed
  refine ⟨_, congrArg Host.Outcome.next (liveWhen_quiet hr (intentRefreshDue_of_passed ha hd hp) refreshed
    rfl rfl rfl rfl), ?_, still, fun taken => placeIntent_queued taken level dir⟩
  dsimp only
  rw [← line]
  rfl

end Sys2Proof.Machine
end

section
/-! The end of the settle window (R107, R108, R121, R122): a request that has settled is evaluated. -/

namespace Sys2Proof.Machine

/-- An admission of a node that did not run is reported in every drive state (R38, R108). -/
theorem commit_granted_reported {s : State} (hs : s.safe = false) (hn : s.supply.running = false) :
    Reported s (commit s (driveAdmitted (granted s))) := by
  obtain ⟨_, _, _, _, _, moved⟩ := driveAdmitted_granted s
  have running : (driveAdmitted (granted s)).supply.running = true := by rw [moved]
  have changed : reportedFields s ≠ reportedFields (driveAdmitted (granted s)) := fun same => by
    have runs := congrArg (fun fields => fields.2.2.2.2.2) same
    exact absurd ((hn.symm.trans runs).trans running) nofun
  have reported := commit_reported s (driveAdmitted (granted s)) (by rw [moved]; exact hs) (.inr changed)
  exact reported.of_running (by rw [commit_supply]; exact running) (by rw [moved]) (by rw [moved]) (by rw [moved]; rfl)

/-- An admission moves the supply, the drive and its cross-check deadline; the rest is the STATE and the record. -/
theorem commit_granted_frame {s : State} (ho : s.occasion = false) :
    let t := commit s (driveAdmitted (granted s))
    t = { s with supply := t.supply, drive := t.drive, pos := t.pos, line := t.line, retained := t.retained } := by
  obtain ⟨_, _, _, _, _, moved⟩ := driveAdmitted_granted s
  intro t
  have frame : t = _ := commit_frame s (driveAdmitted (granted s))
  generalize t = t at *
  rw [moved] at frame
  rw [frame, ho]

/-- A goal in hand with a warning time is warned of first (R121, R122). -/
theorem enterWarning_warns {s : State} (h : warningTime s.drive.goal s ≠ 0) : enterWarning s = { s with
    drive := { s.drive.cleared with
      state := .warning, pattern := some .warn, patternStart := s.nt
      warningDl := some (after s.nt (100 * warningTime s.drive.goal s)) }
    pos := { s.pos with crossCheckDl := none }
    supply := { s.supply with sagTimer := none } } := if_neg h

theorem exec_settleDeadline {s : State} (hp : s.power = true) (ha : s.supply.admission = .settling)
    (hd : due s.nt s.supply.settleDl = true) : exec .settleDeadline s =
      .next (commit s (if loadOf s ≤ s.cfg.budget then driveAdmitted (granted s) else heldBack s)) := by
  have settled : settleDue s = true := by simp [settleDue, ha, hd]
  exact congrArg Host.Outcome.next (liveWhen_due _ hp settled)

/-- Settles O43: the load decides between the admission, whose drive part the states of the drive tell apart, and
WAITING. -/
theorem settleDeadlineAdmitsOrWaits : Obligations.SettleDeadlineAdmitsOrWaits := by
  intro s hr hs ha hd load
  have loadIs : load = loadOf s := by
    refine congrArg (fun w : List Nat => w.sum + _ + _) (List.map_congr_left fun r _ => ?_)
    rcases r with ⟨_, _, _, _, _ | _⟩ <;> rfl
  have made := exec_settleDeadline hr.1 ha hd
  obtain ⟨-, noOccasion, mirrors⟩ := hr
  rw [loadIs]
  refine ⟨fun above => ?_, fun within still => ⟨_, by rw [made, if_pos within], commit_granted_reported hs still,
    commit_granted_frame noOccasion, fun waits time => ?_, fun waits time g goal => ?_, fun other => ?_⟩⟩
  · rw [made, if_neg (Nat.not_le.2 above)]
    exact congrArg Host.Outcome.next (commit_quiet noOccasion rfl (mirrors.keep rfl rfl))
  · have warned : driveAdmitted (granted s) = _ := (if_pos waits).trans (enterWarning_warns (s := granted s) time)
    rw [commit_supply, commit_drive, warned]
    exact ⟨rfl, rfl, rfl, rfl, rfl, rfl⟩
  · have entered : driveAdmitted (granted s) = enterRamp (granted s) := (if_pos waits).trans (if_pos time)
    obtain ⟨_, _, _, _, _, moved⟩ := driveAdmitted_granted s
    have ramp : RampEntered g (granted s) (driveAdmitted (granted s)) := entered ▸ enterRamp_entered goal
    refine ⟨ramp.ends (commit_ends _ _), ?_⟩
    rw [commit_supply, moved]
    rfl
  · have stays : driveAdmitted (granted s) = granted s := if_neg other
    rw [commit_supply, commit_drive, stays]
    exact ⟨rfl, rfl⟩

end Sys2Proof.Machine
end

section
/-! An INTENT taken (R101, R108, R112): what it says, and the yield that it can order of an admitted node. -/

namespace Sys2Proof.Machine

/-! ### The fields of an INTENT (R101) -/

theorem payloadWeight_eq (p : List Byte) : payloadWeight p = max 1 (min 4 ((p.getD 1 0).toNat / 16)) :=
  congrArg PeerState.weight (peerStateOf_eq p 0)

theorem payloadGroup_eq (p : List Byte) : payloadGroup p = (p.getD 1 0).toNat % 16 :=
  congrArg PeerState.group (peerStateOf_eq p 0)

/-- A weather intent to open is held as a DEMAND (R101). -/
theorem intentLevel_eq (p : List Byte) : intentLevel p =
    let opens := (p.getD 0 0).toNat / 32 % 2 = 1
    (if (p.getD 0 0).toNat / 64 = 0 ∧ ¬opens then .storm else if (p.getD 0 0).toNat / 64 = 1 ∧ ¬opens then .rain
      else .demand, if opens then .opening else .closing) := by
  have zero : (0 : BitVec 2).toNat = 0 := rfl
  have one : (1 : BitVec 2).toNat = 1 := rfl
  have five : 2 ^ 5 = 32 := rfl
  unfold intentLevel byteAt
  simp only [← BitVec.toNat_inj, topTwoBits, getLsbD_byte, beq_iff_eq, zero, one, five]
  generalize (p.getD 0 0).toNat / 32 % 2 = bit
  by_cases opens : bit = 1 <;> rcases (p.getD 0 0).toNat / 64 with _ | _ | code <;> simp [opens]

/-- The levels that a yield is ordered for: a weather intent that says closing (R112). -/
theorem intentLevel_weather (p : List Byte) : (intentLevel p).1 ≠ .demand ↔
    (p.getD 0 0).toNat / 64 ≤ 1 ∧ (p.getD 0 0).toNat / 32 % 2 = 0 := by
  rw [intentLevel_eq]
  dsimp only
  generalize (p.getD 0 0).toNat / 64 = code
  by_cases storm : code = 0 ∧ ¬(p.getD 0 0).toNat / 32 % 2 = 1
  · rw [if_pos storm]
    exact iff_of_true nofun (by omega)
  · rw [if_neg storm]
    by_cases rain : code = 1 ∧ ¬(p.getD 0 0).toNat / 32 % 2 = 1
    · rw [if_pos rain]
      exact iff_of_true nofun (by omega)
    · rw [if_neg rain]
      exact iff_of_false (fun h => h rfl) (by omega)

/-! ### The yield (R112, R136) -/

theorem handedDemand_iff (s : State) : handedDemand s = true ↔ ∃ target, s.levels.handed = some ⟨.demand, target⟩ := by
  unfold handedDemand
  rcases s.levels.handed with _ | ⟨_ | _ | _, _⟩ <;> simp

theorem intentYields_iff (p : List Byte) (s : State) : intentYields p s = true ↔
    ((∃ target, s.levels.handed = some ⟨.demand, target⟩) ∧ (p.getD 1 0).toNat % 16 = s.cfg.group ∧
      (p.getD 0 0).toNat / 64 ≤ 1 ∧ (p.getD 0 0).toNat / 32 % 2 = 0) ∧
    s.cfg.budget < runningWeight s + s.cfg.weight + max 1 (min 4 ((p.getD 1 0).toNat / 16)) := by
  rw [intentYields, Bool.and_eq_true, Bool.and_eq_true, Bool.and_eq_true, handedDemand_iff, beq_iff_eq, bne_iff_ne,
    intentLevel_weather, decide_eq_true_eq, payloadGroup_eq, payloadWeight_eq]
  simp only [and_assoc]

theorem movingForPress_iff (d : DriveState) : d.movingForPress = true ↔
    d = .warning ∨ d = .ramp ∨ d = .travel ∨ d = .approach ∨ d = .seating := by
  cases d <;> simp [DriveState.movingForPress]

/-- A yield brakes a drive that warns or moves (R136). -/
theorem orderYield_brakes {s : State} (hc : s.drive.controlledStop = false)
    (hm : s.drive.state.movingForPress = true) : orderYield s = enterStopping .yield (releaseSupply s) := by
  rcases (movingForPress_iff _).1 hm with hd | hd | hd | hd | hd <;> simp [orderYield, releaseSupply, hc, hd]

/-- A yield lets any other drive go on as it was, but for the yield noted in BACKOFF and in the brakings that lead on to
a goal, to BACKOFF or to VERDICT (R136). -/
theorem orderYield_notes {s : State} (hc : s.drive.controlledStop = false)
    (hm : s.drive.state.movingForPress = false) :
    (s.drive.state = .stopping ∧ s.drive.continuation = some .goal ∧
      orderYield s = (releaseSupply s).setDrive { s.drive with continuation := some .yield }) ∨
    ((s.drive.state = .backoff ∨
        s.drive.state = .stopping ∧ (s.drive.continuation = some .backoff ∨ s.drive.continuation = some .verdict)) ∧
      orderYield s = (releaseSupply s).setDrive { s.drive with yieldMark := true }) ∨
    (s.drive.state ≠ .backoff ∧
      (s.drive.state = .stopping → s.drive.continuation ≠ some .goal ∧ s.drive.continuation ≠ some .verdict) ∧
      orderYield s = releaseSupply s) := by
  cases hd : s.drive.state with
  | warning | ramp | travel | approach | seating => rw [hd] at hm; cases hm
  | backoff => simp [orderYield, releaseSupply, hc, hd]
  | stopping => rcases hk : s.drive.continuation with _ | _ | _ <;> simp [orderYield, releaseSupply, hc, hd, hk]
  | idle | waitSlot | retryWait | sagWait | blocked => simp [orderYield, releaseSupply, hc, hd]

/-- Under a controlled stop a yield releases the supply alone (R138, notes/assumptions/49.md). -/
theorem orderYield_releases {s : State} (hc : s.drive.controlledStop = true) : orderYield s = releaseSupply s :=
  if_pos hc

theorem orderYield_moved (s : State) : DriveMoved (releaseSupply s) (orderYield s) := by
  cases hc : s.drive.controlledStop with
  | true => rw [orderYield_releases hc]; exact .refl _
  | false => cases hm : s.drive.state.movingForPress with
    | true => rw [orderYield_brakes hc hm]; exact moveDrive_moved _ _
    | false =>
      rcases orderYield_notes hc hm with ⟨-, -, h⟩ | ⟨-, h⟩ | ⟨-, -, h⟩ <;> rw [h]
      · exact .setDrive _ _
      · exact .setDrive _ _
      · exact .refl _

/-- What a yield makes of the supply and of the drive in each of its states (R112, R136). -/
theorem orderYield_released {s : State} (hc : s.drive.controlledStop = false) :
    let t := orderYield s
    t.supply.admission = .none ∧ t.supply.running = false ∧ t.drive.retry = s.drive.retry ∧
    t.supply.sagCount = s.supply.sagCount ∧ t.levels = s.levels ∧
    (s.drive.state = .warning ∨ s.drive.state = .ramp ∨ s.drive.state = .travel ∨ s.drive.state = .approach ∨
      s.drive.state = .seating → t.drive.state = .stopping ∧ t.drive.continuation = some .yield ∧
        t.drive.stopDl = some (after s.nt 200) ∧ t.drive.duty = 0) ∧
    (s.drive.state = .backoff → t.drive.state = .backoff ∧ t.drive.yieldMark = true) ∧
    (s.drive.state = .stopping → t.drive.state = .stopping ∧
      (s.drive.continuation = some .goal → t.drive.continuation = some .yield) ∧
      (s.drive.continuation = some .verdict → t.drive.continuation = some .verdict ∧ t.drive.yieldMark = true)) := by
  dsimp only
  cases hm : s.drive.state.movingForPress with
  | true =>
    rw [orderYield_brakes hc hm, enterStopping_stops]
    refine ⟨rfl, rfl, rfl, rfl, rfl, fun _ => ⟨rfl, rfl, rfl, rfl⟩, fun k => ?_, fun k => ?_⟩ <;>
    · rw [k] at hm
      cases hm
  | false =>
    have still := fun k => Bool.eq_false_iff.1 hm ((movingForPress_iff _).2 k)
    rcases orderYield_notes hc hm with ⟨brakes, goal, h⟩ | ⟨notes, h⟩ | ⟨plain, other, h⟩ <;> rw [h]
    · refine ⟨rfl, rfl, rfl, rfl, rfl, fun k => absurd k still, fun k => absurd (brakes.symm.trans k) nofun,
        fun k => ⟨k, fun _ => rfl, fun verdict => absurd (goal.symm.trans verdict) nofun⟩⟩
    · refine ⟨rfl, rfl, rfl, rfl, rfl, fun k => absurd k still, fun k => ⟨k, rfl⟩,
        fun k => ⟨k, fun goal => ?_, fun verdict => ⟨verdict, rfl⟩⟩⟩
      simp [k, goal] at notes
    · exact ⟨rfl, rfl, rfl, rfl, rfl, fun k => absurd k still, fun k => absurd k plain,
        fun k => ⟨k, fun goal => absurd goal (other k).1, fun verdict => absurd verdict (other k).2⟩⟩

/-! ### The command (R101, R49, R51) -/

/-- The node that has heard a telegram of a source (R41, R49), with the Intent List that it leaves. -/
def heardFrom (src : Nat) (l : List Entry) (s : State) : State := withEntries l (hearPeer src (hearOther s))

theorem heardFrom_tables (src : Nat) (l : List Entry) (s : State) :
    heardFrom src l s = withTables (hearOther s).line (hearPeer src s).peers l s := rfl

/-- Outside ADMITTED an INTENT is an occasion to evaluate (R108). -/
theorem takeIntent_unadmitted {src : Nat} {p : List Byte} {s : State} (ha : s.supply.admission ≠ .admitted) :
    takeIntent src p s = occasionToEvaluate (withEntries (listAfterIntent src p s) s) := by
  unfold takeIntent
  dsimp only
  split
  case h_1 waits => exact (if_pos waits).symm
  case h_2 admitted => exact absurd admitted ha
  case h_3 settles => exact (occasionToEvaluate_waits_not fun waits => nomatch settles.symm.trans waits).symm
  case h_4 free => exact (occasionToEvaluate_waits_not fun waits => nomatch free.symm.trans waits).symm

/-- In ADMITTED it may order a yield (R112). -/
theorem takeIntent_admitted {src : Nat} {p : List Byte} {s : State} (ha : s.supply.admission = .admitted) :
    takeIntent src p s = if intentYields p (withEntries (listAfterIntent src p s) s) = true
      then orderYield (withEntries (listAfterIntent src p s) s) else withEntries (listAfterIntent src p s) s := by
  unfold takeIntent
  dsimp only
  split
  case h_2 => rfl
  case h_1 other | h_3 other | h_4 other => exact nomatch ha.symm.trans other

theorem runningWeight_heardFrom (src : Nat) (l : List Entry) (s : State) :
    runningWeight (heardFrom src l s) = runningWeight s := by
  show ((updatePeer src _ s.peers).map (memberWeight s)).sum = _
  rw [updatePeer, List.map_map]
  refine congrArg List.sum (List.map_congr_left fun r _ => ?_)
  rw [Function.comp_apply]
  split
  · rw [memberWeight_eq, memberWeight_eq]
  · rfl

theorem intentYields_heardFrom (p : List Byte) (src : Nat) (l : List Entry) (s : State) :
    intentYields p (heardFrom src l s) = intentYields p s := by
  unfold intentYields
  rw [runningWeight_heardFrom]
  rfl

theorem takeIntent_heard {src : Nat} {p : List Byte} {s : State} (ha : s.supply.admission = .admitted) :
    takeIntent src p (hearPeer src (hearOther s)) = if intentYields p s = true
      then orderYield (heardFrom src (listAfterIntent src p s) s) else heardFrom src (listAfterIntent src p s) s := by
  have list : listAfterIntent src p (hearPeer src (hearOther s)) = listAfterIntent src p s := rfl
  have heard := takeIntent_admitted (src := src) (p := p) (s := hearPeer src (hearOther s)) ha
  rw [list, ← heardFrom, intentYields_heardFrom] at heard
  exact heard

section
variable {bits : List Bool} {f : Frame} {s : State} (hr : Ready s) (hrec : receive bits = some f)
  (hk : f.kind = Kind.intent.code) (hs : f.source.toNat ≠ lineId s)
include hr hrec hk hs

theorem exec_intentArrival : exec (.intentArrival bits) s = .next (commit s
    (takeIntent f.source.toNat f.payload (hearPeer f.source.toNat (hearOther s)))) := by
  have taken := arrival_taken (mine := ofKind .intent) (take := fun f s =>
    takeIntent f.source.toNat f.payload (hearPeer f.source.toNat s)) hrec (beq_iff_eq.2 hk) hs
  exact congrArg Host.Outcome.next ((if_pos hr.1).trans (congrArg (commit s) taken))

theorem exec_intentArrival_unadmitted (ha : s.supply.admission ≠ .admitted) : exec (.intentArrival bits) s =
    .next (commit s (occasionToEvaluate
      (heardFrom f.source.toNat (listAfterIntent f.source.toNat f.payload s) s))) :=
  (exec_intentArrival hr hrec hk hs).trans
    (congrArg (fun t => Host.Outcome.next (commit s t)) (takeIntent_unadmitted ha))

theorem exec_intentArrival_yields (ha : s.supply.admission = .admitted) (hy : intentYields f.payload s = true) :
    exec (.intentArrival bits) s = .next (commit s (orderYield
      (heardFrom f.source.toNat (listAfterIntent f.source.toNat f.payload s) s))) := by
  rw [exec_intentArrival hr hrec hk hs, takeIntent_heard ha, if_pos hy]

theorem exec_intentArrival_stands (ha : s.supply.admission = .admitted) (hy : intentYields f.payload s = false) :
    exec (.intentArrival bits) s =
      .next (heardFrom f.source.toNat (listAfterIntent f.source.toNat f.payload s) s) := by
  rw [exec_intentArrival hr hrec hk hs, takeIntent_heard ha, if_neg (Bool.eq_false_iff.1 hy), heardFrom_tables,
    commit_withTables hr]

end

/-- A node that does not run has no running refresh, so the end of a command leaves its drive as it is (R38). -/
theorem commit_drive_unrunning {s t : State} (h : t.supply.running = false) : (commit s t).drive = t.drive := by
  by_cases placed : t.safe = false ∧ (t.occasion = true ∨ reportedFields s ≠ reportedFields t)
  · obtain ⟨safe, occasion⟩ := placed
    obtain ⟨-, refresh, -⟩ := commit_reported s t safe occasion
    rw [commit_supply, h, if_neg Bool.false_ne_true] at refresh
    rw [commit_drive, refresh]
  · have none : (!t.safe && (t.occasion || decide (reportedFields s ≠ reportedFields t))) = false := by
      simpa using placed
    rw [commit, none]
    rfl

/-- Settles O42: the yield through its effect on a released supply, in the drive's three ways of taking it; every other
INTENT changes the tables alone. -/
theorem admittedDemandYieldsToWeather : Obligations.AdmittedDemandYieldsToWeather := by
  intro bits f s hr hs hrec hk hsrc ha budgeted tested
  have load : budgeted = runningWeight s + s.cfg.weight + max 1 (min 4 ((f.payload.getD 1 0).toNat / 16)) := by
    refine congrArg (fun w : List Nat => w.sum + _ + _) (List.map_congr_left fun r _ => ?_)
    rcases r with ⟨_, _, _, _, _ | _⟩ <;> rfl
  have yields : intentYields f.payload s = true ↔ tested ∧ s.cfg.budget < budgeted := by
    rw [load]
    exact intentYields_iff _ _
  refine ⟨fun test above goes => ⟨_, exec_intentArrival_yields hr hrec hk hsrc ha (yields.2 ⟨test, above⟩), ?_⟩,
    fun test above stops => ⟨_, exec_intentArrival_yields hr hrec hk hsrc ha (yields.2 ⟨test, above⟩), ?_⟩,
    fun other => ?_⟩
  · rw [commit_supply, commit_levels, commit_drive]
    exact orderYield_released (s := heardFrom _ _ s) goes
  · rw [commit_drive_unrunning, commit_supply, orderYield_releases (s := heardFrom _ _ s) stops]
    · exact ⟨rfl, rfl, rfl⟩
    · rw [orderYield_releases (s := heardFrom _ _ s) stops]
      rfl
  · have stands : intentYields f.payload s = false := by
      rw [← Bool.not_eq_true, yields]
      rintro ⟨test, above⟩
      exact other.elim (fun no => no test) (Nat.not_le.2 above)
    exact ⟨_, exec_intentArrival_stands hr hrec hk hsrc ha stands, rfl, rfl⟩

end Sys2Proof.Machine
end

section
/-! The Intent List after an INTENT, a WITHDRAW and an age (R100 to R104), and what they bring a node (R108, R112). -/

namespace Sys2Proof.Machine

/-! ### A peer's entry stored (R101, R102) -/

theorem outranks_asymm {a b : Entry} (h : a.outranks b = true) : b.outranks a = false := by
  rw [← Bool.not_eq_true]
  simp only [Entry.outranks, Bool.or_eq_true, decide_eq_true_eq, Bool.and_eq_true, beq_iff_eq] at *
  rintro (lower | ⟨same, lower⟩) <;> rcases h with h | ⟨level, h⟩
  · omega
  · rw [level] at lower
    omega
  · rw [same] at h
    omega
  · omega

theorem ListLawful.source_inj {id : Nat} {l : List Entry} (h : ListLawful id l) {a b : Entry} (ha : a ∈ l)
    (hb : b ∈ l) (hs : a.source = b.source) : a = b := by
  have apart : (l.map Entry.source).Nodup := List.pairwise_map.2 (h.sorted.imp And.right)
  exact List.inj_on_of_nodup_map apart ha hb hs

/-- `a` is a peer's entry of the list that all its other peer entries outrank (R102). -/
def LowestPeer (l : List Entry) (a : Entry) : Prop :=
  a ∈ l ∧ a.own = false ∧ ∀ e ∈ l, e.own = false → e = a ∨ e.outranks a = true

/-- In a list in rank order the lowest peer entry is the last one (R100, R102). -/
theorem lowestPeer_of_lowest {id : Nat} {l : List Entry} {a : Entry} (h : ListLawful id l) (ha : LowestPeer l a) :
    lowestPeer l = some a := by
  obtain ⟨mem, peer, lowest⟩ := ha
  have listed : a ∈ withoutOwn l := mem_withoutOwn.2 ⟨mem, peer⟩
  cases found : lowestPeer l with
  | none => rw [List.getLast?_eq_none_iff.1 found] at listed; cases listed
  | some b =>
    obtain ⟨memB, peerB⟩ := lowestPeer_mem found
    obtain ⟨front, ends⟩ := List.getLast?_eq_some_iff.1 found
    rcases lowest b memB peerB with same | before
    · rw [same]
    · have sorted := h.withoutOwn.sorted
      rw [ends] at sorted listed
      obtain ⟨-, -, below⟩ := List.pairwise_append.1 sorted
      rcases List.mem_append.1 listed with first | last
      · exact absurd before (Bool.eq_false_iff.1 (outranks_asymm (below a first b (List.mem_singleton.2 rfl)).1))
      · rw [List.mem_singleton.1 last]

theorem storeEntry_room {x : Entry} {l : List Entry} (h : (withoutSource x.source l).length < 8) :
    storeEntry x l = insertEntry x (withoutSource x.source l) := if_pos h

theorem storeEntry_full {x low : Entry} {l : List Entry} (h : 8 ≤ (withoutSource x.source l).length)
    (hl : lowestPeer (withoutSource x.source l) = some low) : storeEntry x l =
      if x.outranks low = true then insertEntry x (withoutSource low.source (withoutSource x.source l))
      else withoutSource x.source l := by
  simp only [storeEntry, evictLowest, if_neg (Nat.not_lt.2 h), hl]

/-- The list after an eviction: the newcomer in the place of the entry evicted (R102). -/
theorem mem_storeEvicted {id : Nat} {l : List Entry} {low : Entry} (h : ListLawful id l) (hm : low ∈ l)
    (hp : low.own = false) (x e : Entry) :
    e ∈ insertEntry x (withoutSource low.source l) ↔ (e ∈ l ∧ e ≠ low) ∨ e = x := by
  have left : e ∈ withoutSource low.source l ↔ e ∈ l ∧ e ≠ low := by
    rw [mem_withoutSource]
    refine and_congr_right fun he => ⟨?_, fun other => .inl fun same => other (h.source_inj he hm same)⟩
    rintro (other | own) rfl
    · exact other rfl
    · exact nomatch hp.symm.trans own
  rw [mem_insertEntry, left, or_comm]

/-! ### The list after an INTENT -/

/-- The entry that an INTENT leaves of its sender (R101). -/
def intentEntry (src : Nat) (p : List Byte) (nt : Time) : Entry :=
  ⟨src, (intentLevel p).1, (intentLevel p).2, payloadWeight p, nt, false⟩

section
variable {src : Nat} {p : List Byte} {s : State}

theorem listAfterIntent_unrecorded (h : src = 0 ∨ src = 63) : listAfterIntent src p s = s.supply.entries := by
  refine if_pos ?_
  rcases h with rfl | rfl <;> simp [recordable]

theorem listAfterIntent_elsewhere (hs : s.safe = false) (h0 : src ≠ 0) (h63 : src ≠ 63)
    (hg : (p.getD 1 0).toNat % 16 ≠ s.cfg.group) :
    listAfterIntent src p s = withoutSource src s.supply.entries := by
  unfold listAfterIntent
  rw [if_neg (by simp [hs, recordable_of h0 h63]), payloadGroup_eq, if_neg hg]

theorem listAfterIntent_stored (hs : s.safe = false) (h0 : src ≠ 0) (h63 : src ≠ 63)
    (hg : (p.getD 1 0).toNat % 16 = s.cfg.group) :
    listAfterIntent src p s = storeEntry (intentEntry src p s.nt) s.supply.entries := by
  unfold listAfterIntent
  rw [if_neg (by simp [hs, recordable_of h0 h63]), payloadGroup_eq, if_pos hg]
  rfl

end

/-! ### The commands -/

theorem exec_withdrawArrival {bits : List Bool} {f : Frame} {s : State} (hp : s.power = true)
    (hrec : receive bits = some f) (hk : f.kind = Kind.withdraw.code) (hs : f.source.toNat ≠ lineId s) :
    exec (.withdrawArrival bits) s = .next (commit s (occasionToEvaluate
      (heardFrom f.source.toNat (withoutSource f.source.toNat s.supply.entries) s))) := by
  have taken := arrival_taken (mine := ofKind .withdraw) (take := fun f s =>
    dropAndEvaluate f.source.toNat (hearPeer f.source.toNat s)) hrec (beq_iff_eq.2 hk) hs
  exact congrArg Host.Outcome.next ((if_pos hp).trans (congrArg (commit s) taken))

theorem exec_intentEntryAged {src : BitVec 6} {s : State} (hp : s.power = true)
    (h : ∃ e ∈ s.supply.entries, e.own = false ∧ e.source = src.toNat ∧
      passed s.nt (after e.heardAt 5001) = true) :
    exec (.intentEntryAged src) s = .next (commit s (occasionToEvaluate (dropEntry src.toNat s))) := by
  refine congrArg Host.Outcome.next (liveWhen_due _ hp ?_)
  obtain ⟨e, mem, peer, source, old⟩ := h
  exact List.any_eq_true.2 ⟨e, mem, by simp [entryAged, source, peer, old]⟩

/-- Settles O41: each command brings the list that stands after it to one evaluation occasion; what an INTENT orders of
an admitted node leaves the list, the Peer Table and the levels. -/
theorem peerIntentsAreKept : Obligations.PeerIntentsAreKept := by
  intro s hr hs others brings
  refine ⟨fun bits f hrec hsrc => ?_, fun src aged => exec_evaluates (line := s.line) (peers := s.peers)
    (entries := others src.toNat) rfl hr (exec_intentEntryAged hr.1 aged)⟩
  intro src heard
  refine ⟨fun hk => ?_, fun hk => ?_⟩
  · exact exec_evaluates (heardFrom_tables src (others src) s) hr (exec_withdrawArrival hr.1 hrec hk hsrc)
  · intro b0 opening entry ours keeps
    have kept : ∀ {l}, listAfterIntent src f.payload s = l → keeps l := by
      rintro _ rfl
      refine ⟨fun ha => exec_evaluates (heardFrom_tables src _ s) hr
        (exec_intentArrival_unadmitted hr hrec hk hsrc ha), fun ha => ?_⟩
      cases hy : intentYields f.payload s with
      | true =>
        refine ⟨_, exec_intentArrival_yields hr hrec hk hsrc ha hy, ?_⟩
        obtain ⟨_, _, _, _, _, moved⟩ := orderYield_moved
          (heardFrom f.source.toNat (listAfterIntent f.source.toNat f.payload s) s)
        rw [commit_frame, moved]
        exact ⟨rfl, rfl, rfl⟩
      | false => exact ⟨_, exec_intentArrival_stands hr hrec hk hsrc ha hy, rfl, rfl, rfl⟩
    have isEntry : intentEntry src f.payload s.nt = entry := by
      rw [intentEntry, intentLevel_eq, payloadWeight_eq]
    have stored : src ≠ 0 → src ≠ 63 → ours → ∀ {l}, storeEntry entry s.supply.entries = l → keeps l :=
      fun h0 h63 group l hl => kept ((listAfterIntent_stored hs h0 h63 group).trans (isEntry ▸ hl))
    have sorted : EntriesLawful s → (storeEntry entry s.supply.entries).Pairwise fun a b => a.outranks b = true :=
      fun lawful => (((entriesLawful_iff s).1 lawful).1.storeEntry hsrc rfl).sorted.imp And.left
    refine ⟨fun h => kept (listAfterIntent_unrecorded h),
      fun h0 h63 other => kept (listAfterIntent_elsewhere hs h0 h63 other),
      fun h0 h63 group lawful room => ⟨_, stored h0 h63 group rfl, sorted lawful, fun e => ?_⟩,
      fun h0 h63 group lawful full low mem peer lowest => ?_⟩
    · rw [storeEntry_room (x := entry) room]
      exact mem_insertEntry.trans or_comm
    · have rest : ListLawful (lineId s) (others src) := ((entriesLawful_iff s).1 lawful).1.withoutSource src
      have replaced := storeEntry_full (x := entry) (l := s.supply.entries) full
        (lowestPeer_of_lowest rest ⟨mem, peer, lowest⟩)
      refine ⟨fun lower => stored h0 h63 group (replaced.trans (if_neg (Bool.eq_false_iff.1 lower))),
        fun higher => ⟨_, stored h0 h63 group rfl, sorted lawful, ?_⟩⟩
      rw [replaced, if_pos higher]
      exact mem_storeEvicted rest mem peer entry

end Sys2Proof.Machine
end

section
/-! How an operation of the drive can steer it: what becomes of a bridge under power, of a braking, and out of
which states motion begins (R118, R122, R127, R133). -/

namespace Sys2Proof.Machine

/-- From `s` to `t` the drive is steered without a passage that only an admission, the end of a warning's time or the
end of a braking makes: a bridge under power keeps its direction or brakes, a braking goes on, and motion begins out of
a warning alone. -/
structure Steered (s t : State) : Prop where
  moving : s.drive.state.energised = true →
    (t.drive.state.energised = true ∧ t.drive.dir = s.drive.dir) ∨ t.drive.state = .stopping
  braking : s.drive.state = .stopping → t.drive.state = .stopping
  begun : t.drive.state.energised = true → s.drive.state.energised = true ∨ s.drive.state = .warning
  warned : t.drive.state = .warning → s.drive.state = .warning

section
variable {s t u : State}

theorem energised_not {d e : DriveState} (h : d = e) (he : e.energised = false) : ¬d.energised = true := by
  rw [h, he]
  nofun

theorem Steered.trans (h : Steered s t) (k : Steered t u) : Steered s u where
  moving := fun on => by
    rcases h.moving on with ⟨still, dir⟩ | stops
    · exact (k.moving still).imp_left fun ⟨on, dir'⟩ => ⟨on, dir'.trans dir⟩
    · exact .inr (k.braking stops)
  braking := k.braking ∘ h.braking
  begun := fun on => (k.begun on).elim h.begun fun warns => .inr (h.warned warns)
  warned := h.warned ∘ k.warned

/-- The state and the direction stand. -/
theorem Steered.still (state : t.drive.state = s.drive.state) (dir : t.drive.dir = s.drive.dir) : Steered s t where
  moving := fun on => .inl ⟨state ▸ on, dir⟩
  braking := fun stops => state.trans stops
  begun := fun on => .inl (state ▸ on)
  warned := fun warns => state ▸ warns

theorem Steered.of_drive (h : t.drive = s.drive) : Steered s t :=
  .still (congrArg Drive.state h) (congrArg Drive.dir h)

/-- What is steered from a state is steered from one with the same drive. -/
theorem Steered.after (k : Steered t u) (h : t.drive = s.drive) : Steered s u := (Steered.of_drive h).trans k

/-- Or from one whose drive is in the same state and direction. -/
theorem Steered.afterStill (k : Steered t u) (state : t.drive.state = s.drive.state)
    (dir : t.drive.dir = s.drive.dir) : Steered s u := (Steered.still state dir).trans k

theorem Steered.refl (s : State) : Steered s s := .of_drive rfl

/-- Into STOPPING a drive may go from anywhere. -/
theorem Steered.brakes (h : t.drive.state = .stopping) : Steered s t where
  moving := fun _ => .inr h
  braking := fun _ => h
  begun := fun on => absurd on (energised_not h rfl)
  warned := fun warns => nomatch h.symm.trans warns

/-- A bridge under power goes on so in its direction. -/
theorem Steered.goesOn (from_ : s.drive.state.energised = true) (on : t.drive.state.energised = true)
    (dir : t.drive.dir = s.drive.dir) : Steered s t where
  moving := fun _ => .inl ⟨on, dir⟩
  braking := fun stops => absurd from_ (energised_not stops rfl)
  begun := fun _ => .inl from_
  warned := fun warns => absurd on (energised_not warns rfl)

/-- A drive that waits or rests comes to rest, or waits for the supply. -/
theorem Steered.rests (from_ : s.drive.state.inMotion = false)
    (h : t.drive.state = .idle ∨ t.drive.state = .waitSlot) : Steered s t where
  moving := fun on => absurd (from_.symm.trans (inMotion_of_energised on)) nofun
  braking := fun stops => by rw [stops] at from_; cases from_
  begun := fun on => absurd on (h.elim (energised_not · rfl) (energised_not · rfl))
  warned := fun warns => h.elim (fun k => nomatch k.symm.trans warns) fun k => nomatch k.symm.trans warns

/-- Out of a warning every passage is open. -/
theorem Steered.ofWarning (h : s.drive.state = .warning) : Steered s t where
  moving := fun on => absurd on (energised_not h rfl)
  braking := fun stops => nomatch h.symm.trans stops
  begun := fun _ => .inr h
  warned := fun _ => h

theorem Steered.ite {c : Prop} [Decidable c] (h : c → Steered s t) (k : ¬c → Steered s u) :
    Steered s (if c then t else u) := by
  split
  · exact h ‹_›
  · exact k ‹_›

end

/-! ### Passages -/

theorem enterStopping_steered (c : Continuation) (s : State) : Steered s (enterStopping c s) := .brakes rfl

theorem positionTests_steered (s : State) : Steered s (positionTests s) := by
  cases hg : s.drive.goal with
  | none => simpa [positionTests, hg] using Steered.refl s
  | some g => cases hd : s.drive.dir with
    | none => simpa [positionTests, hg, hd] using Steered.refl s
    | some dir =>
      by_cases runs : testsRun s
      · have on : s.drive.state.energised = true := by rcases runs with h | h | h <;> rw [h] <;> rfl
        rcases positionTests_cases hg hd runs with ⟨-, h⟩ | ⟨-, h⟩ | ⟨-, -, ⟨-, -, h⟩ | ⟨-, h⟩⟩ <;> rw [h]
        · exact .goesOn on (by rw [enterSeating_eq]; rfl) (by rw [enterSeating_eq])
        · exact .brakes (by rw [arrive_eq])
        · exact .goesOn on (by rw [enterApproach_eq]; rfl) (by rw [enterApproach_eq])
        · exact .refl s
      · have stays : positionTests s = s := by simp [positionTests, hg, hd, show ¬(_ ∨ _ ∨ _) from runs]
        rw [stays]
        exact .refl s

theorem rampToTravel_steered (s : State) : Steered s (rampToTravel s) := by
  rcases rampToTravel_cases s with ⟨ramp, -, h⟩ | ⟨-, h⟩ <;> rw [h]
  · exact (Steered.goesOn (t := travelBegun s) (congrArg DriveState.energised ramp) rfl rfl).trans
      (positionTests_steered _)
  · exact .refl s

theorem backoffTest_steered (s : State) : Steered s (backoffTest s) :=
  .ite (fun _ => enterStopping_steered _ s) fun _ => .refl s

/-- The state with a goal in hand is steered as the one before. -/
theorem withDriveGoal_steered (g : Option Goal) (s : State) : Steered s (withDriveGoal g s) := .still rfl rfl

section
variable {s : State} (h : s.drive.state.inMotion = false)
include h

theorem enterIdle_steered : Steered s (enterIdle s) := .rests h (enterIdle_cameToRest s).state

theorem waitOrIdle_steered : Steered s (waitOrIdle s) := .rests h (waitOrIdle_state s)

theorem forgiveAndGo_steered : Steered s (forgiveAndGo s) := .rests h (forgiveAndGo_state s).1

theorem takeGoalAtRest_steered (g : Option Goal) : Steered s (takeGoalAtRest g s) := by
  cases g with
  | none => exact withDriveGoal_steered none s
  | some g =>
    rw [takeGoalAtRest_some]
    refine .ite (fun _ => .rests h (.inr ?_)) fun _ => withDriveGoal_steered (some g) s
    rw [enterWaitSlot_eq (g := g) rfl]

theorem compareAtRest_steered : Steered s (compareAtRest s) := by
  have put : Steered s (putReason .mismatch s) := .of_drive rfl
  have handed : Steered s (handGoalAtRest (putReason .mismatch s)) :=
    (takeGoalAtRest_steered (s := recordHanding (putReason .mismatch s)) (by exact h) _).after rfl
  exact .ite (fun _ => .ite (fun _ => put) fun _ => handed) fun _ => .refl s

theorem changeWhileWaiting_steered (g : Option Goal) : Steered s (changeWhileWaiting g s) := by
  cases g with
  | none => exact enterIdle_steered h
  | some new =>
    exact .ite (fun _ => .of_drive (by rw [requestAdmission_eq])) fun _ => enterIdle_steered h

end

/-- A change of goal under power goes on in the direction of the move, or brakes (R133). -/
theorem changeWhileMoving_steered (old g : Option Goal) (s : State) : Steered s (changeWhileMoving old g s) := by
  have stops : Steered s (enterStopping .goal s) := enterStopping_steered _ s
  cases g with
  | none => exact stops
  | some new =>
    refine .ite (fun _ => .brakes (by rw [arrive_eq])) fun _ => .ite (fun _ => stops) fun _ =>
      .ite (fun _ => .ite (fun seating => .ite (fun _ => .refl s) fun _ => ?_) fun _ => positionTests_steered s)
        fun _ => stops
    have approaches : Steered s (enterApproach s) :=
      .goesOn (by rw [seating]; rfl) (by rw [enterApproach_eq]; rfl) (by rw [enterApproach_eq])
    exact approaches.trans (positionTests_steered _)

/-! ### Handings and notices -/

/-- A goal taken in any state of the drive. -/
theorem takeGoal_steered (g : Option Goal) (s : State) : Steered s (takeGoal g s) := by
  have given : Steered s (withDriveGoal g s) := withDriveGoal_steered g s
  have held : Steered s ((withDriveGoal g s).setDrive { s.drive with goal := g, heldChange := true }) := .still rfl rfl
  have stops : Steered s (enterStopping .goal (withDriveGoal g s)) := .brakes rfl
  have moves : Steered s (changeWhileMoving s.drive.goal g (withDriveGoal g s)) :=
    given.trans (changeWhileMoving_steered _ _ _)
  unfold takeGoal
  refine .ite (fun _ => given) fun _ => ?_
  dsimp only
  split
  case h_1 h => exact takeGoalAtRest_steered (by rw [h]; rfl) g
  case h_2 h =>
    exact .ite (fun _ => given) fun _ =>
      given.trans (changeWhileWaiting_steered (s := withDriveGoal g s) (congrArg DriveState.inMotion h) g)
  case h_3 h => exact .ite (fun _ => given) fun _ => .ofWarning h
  case h_4 | h_5 | h_6 | h_7 => exact .ite (fun _ => given) fun _ => moves
  case h_8 => exact .ite (fun _ => given) fun _ => .ite (fun _ => held) fun _ => given
  case h_9 => exact .ite (fun _ => given) fun _ => .ite (fun _ => stops) fun _ => held
  case h_10 h | h_12 h =>
    have waits : (withDriveGoal g s).drive.state.inMotion = false := congrArg DriveState.inMotion h
    exact .ite (fun _ => given) fun _ => .ite (fun _ => given.trans (enterIdle_steered waits)) fun _ =>
      given.trans (forgiveAndGo_steered waits)
  case h_11 h =>
    have waits : (withDriveGoal g s).drive.state.inMotion = false := congrArg DriveState.inMotion h
    exact .ite (fun _ => given.trans (enterIdle_steered waits)) fun _ => given

theorem takeCloseNotice_steered (s : State) : Steered s (takeCloseNotice s) := by
  have held : Steered s (s.setDrive { s.drive with heldClose := true }) := .still rfl rfl
  unfold takeCloseNotice
  refine .ite (fun _ => .refl s) fun _ => ?_
  split
  case h_1 h => exact waitOrIdle_steered (by rw [h]; rfl)
  case h_2 h => exact forgiveAndGo_steered (by rw [h]; rfl)
  case h_3 => exact held
  case h_4 => exact .ite (fun _ => held) fun _ => .refl s
  case h_5 => exact .refl s

theorem handGoal_steered (s : State) : Steered s (handGoal s) :=
  (takeGoal_steered _ (recordHanding s)).after rfl

theorem driveOnset_steered (s : State) : Steered s (driveOnset s) := by
  unfold driveOnset
  split
  · exact .refl s
  · exact .ite (fun _ => enterStopping_steered _ s) fun _ => .refl s

theorem addReason_steered (r : Reason) (s : State) : Steered s (addReason r s) := by
  have put : Steered s (putReason r s) := .of_drive rfl
  have onset : Steered s (driveOnset (putReason r s)) := put.trans (driveOnset_steered _)
  exact .ite (fun _ => put) fun _ => .ite (fun _ => onset) fun _ => onset.trans (handGoal_steered _)

theorem endSuspect_steered (s : State) : Steered s (endSuspect s) := by
  unfold endSuspect
  split
  · exact .refl s
  · exact (handGoal_steered _).after rfl
  · exact handGoal_steered s

theorem appointFrom_steered (before : Option Level) (s : State) : Steered s (appointFrom before s) := by
  have appointed : Steered s (s.setLevels (appointedLevels s)) := .of_drive rfl
  exact .ite (fun _ => appointed) fun _ => appointed.trans (handGoal_steered _)

theorem takeDemand_steered (t : Target) (s : State) : Steered s (takeDemand t s) := by
  have asked : Steered s (appoint (raiseDemand t s)) :=
    (appointFrom_steered _ (raiseDemand t s)).after rfl
  have handed : Steered s (demandHanded t s) := .ite (fun _ => asked.trans (handGoal_steered _)) fun _ => asked
  exact handed.trans (.of_drive rfl)

theorem takePress_steered (closes : Bool) (s : State) : Steered s (takePress closes s) := by
  have demand := takeDemand_steered (pressTarget closes s) s
  have noted : Steered s (pressNoted closes s) :=
    .ite (fun _ => demand.trans (takeCloseNotice_steered _)) fun _ => demand
  exact .ite (fun _ => .refl s) fun _ =>
    .ite (fun _ => noted.trans (.still rfl rfl)) fun _ => noted

theorem takeResult_steered (a b c d : Bool) (s : State) : Steered s (takeResult a b c d s) :=
  (appointFrom_steered _ _).after rfl

/-! ### Counts, seats and detections -/

theorem driftTest_steered (s : State) : Steered s (driftTest s) := by
  unfold driftTest
  split
  · exact .refl s
  · exact .ite (fun _ => handGoal_steered s) fun _ => .refl s

theorem countChanged_steered (before : Nat) (s : State) : Steered s (countChanged before s) := by
  have tested := (positionTests_steered s).trans (backoffTest_steered _)
  have drifted := tested.trans (driftTest_steered _)
  exact .ite (fun _ => tested) fun _ => .ite (fun _ => drifted.trans (.of_drive rfl)) fun _ => drifted

theorem recogniseSeat_steered (s : State) : Steered s (recogniseSeat s) := by
  have braked : ∀ u : State, Steered s (enterStopping .goal u) := fun _ => .brakes rfl
  exact .ite (fun _ => (braked _).trans (endSuspect_steered _)) fun _ =>
    .ite (fun _ => (braked _).trans (handGoal_steered _)) fun _ => braked _

theorem recogniseObstruction_steered (s : State) : Steered s (recogniseObstruction s) := by
  unfold recogniseObstruction
  dsimp only
  split <;> exact .brakes rfl

theorem detection_steered (s : State) : Steered s (detection s) := by
  have moving : Steered s (detection.movingDetection s) :=
    .ite (fun _ => recogniseSeat_steered s) fun _ => recogniseObstruction_steered s
  unfold detection
  split
  case h_1 => exact recogniseSeat_steered s
  case h_2 => exact enterStopping_steered _ s
  case h_3 | h_4 | h_5 => exact moving
  case h_6 => exact .refl s

theorem readSupply_steered (s : State) : Steered s (readSupply s) := by
  rw [readSupply_eq]
  exact .still rfl rfl

/-- The Hall pair read, before the count moves (R142). -/
def hallRead (pair : HallPair) (s : State) : State :=
  (s.setPins { s.pins with hall := pair }).setPos { s.pos with hall := pair }

/-- The count that a step gives, before what follows from it (R142, R144). -/
def stepCounted (pair : HallPair) (s : State) : State :=
  (hallRead pair s).setPos { (hallRead pair s).pos with count := steppedCount s.pos.hall pair s.pos.count }

theorem takeStep_eq (pair : HallPair) (s : State) : takeStep pair s =
    let n := steppedCount s.pos.hall pair s.pos.count
    let moved := countChanged (position s) (stepCounted pair s)
    if n < -1024 ∨ (s.cfg.stroke : Int) + 1024 < n then addReason .overrange (hallRead pair s)
    else if n = -1024 ∨ n = (s.cfg.stroke : Int) + 1024 then addReason .overrange moved else moved := rfl

theorem takeStep_steered (pair : HallPair) (s : State) : Steered s (takeStep pair s) := by
  have moved : Steered s (countChanged (position s) (stepCounted pair s)) := (countChanged_steered _ _).after rfl
  rw [takeStep_eq]
  exact .ite (fun _ => (addReason_steered _ _).after rfl) fun _ =>
    .ite (fun _ => moved.trans (addReason_steered _ _)) fun _ => moved

theorem takeSkip_steered (pair : HallPair) (s : State) : Steered s (takeSkip pair s) :=
  (addReason_steered _ _).after rfl

theorem takeVelocity_steered (s : State) : Steered s (takeVelocity s) :=
  .ite (fun _ => (detection_steered _).afterStill rfl rfl) fun _ => .still rfl rfl

theorem takeRampStep_steered (s : State) : Steered s (takeRampStep s) :=
  (rampToTravel_steered _).afterStill rfl rfl

/-! ### Stops -/

theorem orderYield_steered (s : State) : Steered s (orderYield s) := by
  cases hc : s.drive.controlledStop with
  | true => rw [orderYield_releases hc]; exact .of_drive rfl
  | false => cases hm : s.drive.state.movingForPress with
    | true => rw [orderYield_brakes hc hm]; exact .brakes rfl
    | false =>
      rcases orderYield_notes hc hm with ⟨-, -, h⟩ | ⟨-, h⟩ | ⟨-, -, h⟩ <;> rw [h]
      · exact .still rfl rfl
      · exact .still rfl rfl
      · exact .of_drive rfl

/-- A controlled stop brakes a bridge under power and brings a drive that waits to rest (R138). -/
theorem controlledStop_steered (s : State) : Steered s (controlledStop s) := by
  have rests : ∀ u : State, s.drive.state.inMotion = false → Steered s (enterIdle u) := fun u h =>
    .rests h (enterIdle_cameToRest u).state
  unfold controlledStop
  dsimp only
  split
  case h_1 | h_2 | h_3 | h_4 | h_5 => exact .brakes rfl
  case h_6 | h_12 => exact .still rfl rfl
  case h_7 h | h_8 h | h_9 h | h_10 h | h_11 h => exact rests _ (by rw [h]; rfl)

theorem takeRestart_steered (s : State) : Steered s (takeRestart s) :=
  .ite (fun _ => .refl s) fun _ => controlledStop_steered s

end Sys2Proof.Machine
end

section
/-! What leaves the drive as it is (R118), and how a command can steer it: evaluations, starts of the safe seat, and the
commands themselves. -/

namespace Sys2Proof.Machine

/-! ### Operations that leave the drive alone -/

theorem drive_ite {c : Prop} [Decidable c] {d : Drive} {t u : State} (h : t.drive = d) (k : u.drive = d) :
    (if c then t else u).drive = d := by
  split
  · exact h
  · exact k

section
variable (s : State)

theorem place_drive (k : Kind) (cls : Class) (p : List Byte) : (place k cls p s).drive = s.drive := by rw [place_eq]

theorem reply_drive (index value : Nat) (status : Status) : (reply index value status s).drive = s.drive :=
  place_drive s _ _ _

theorem closeWindow_drive : (closeWindow s).drive = s.drive := drive_ite rfl rfl

theorem endWindow_drive : (endWindow s).drive = s.drive := by rw [endWindow_eq]

theorem openWindow_drive (index : Nat) : (openWindow index s).drive = s.drive :=
  drive_ite (reply_drive _ _ _ _) (reply_drive _ _ _ _)

theorem beginWrite_drive (value index : Nat) : (beginWrite value index s).drive = s.drive := by
  unfold beginWrite
  split
  · exact reply_drive s _ _ _
  · exact drive_ite rfl (reply_drive s _ _ _)

theorem readField_drive (index : Nat) : (readField index s).drive = s.drive := by
  unfold readField
  split <;> exact reply_drive s _ _ _

theorem completeWrite_drive (read : StoredField) : (completeWrite read s).drive = s.drive := by
  unfold completeWrite
  split
  · rfl
  · exact drive_ite ((closeWindow_drive _).trans (reply_drive _ _ _ _)) (reply_drive _ _ _ _)

theorem takeConfigure_drive {closed perform : Nat → State → State} (hc : ∀ i t, (closed i t).drive = t.drive)
    (hp : ∀ i t, (perform i t).drive = t.drive) (index : Nat) :
    (takeConfigure closed perform index s).drive = s.drive :=
  drive_ite (hc _ s) (drive_ite (reply_drive _ _ _ _) (hp _ _))

theorem startTransmission_drive : (startTransmission s).drive = s.drive := by
  unfold startTransmission
  split
  · rfl
  · exact drive_ite rfl rfl

theorem endTransmission_drive (outcome : ReadBack) (read : List Bool) :
    (endTransmission outcome read s).drive = s.drive := by
  unfold endTransmission
  split
  · rfl
  · refine drive_ite rfl ?_
    cases outcome <;> rfl

theorem placeImmediate_drive (cls : Class) : (placeImmediate cls s).drive = s.drive := place_drive s _ _ _

theorem takeEdge_drive : (takeEdge s).drive = s.drive := drive_ite rfl (drive_ite rfl rfl)

theorem takeGridSample_drive (v : BitVec 12) : (takeGridSample v s).drive = s.drive := by rw [takeGridSample_eq]

theorem gustTrigger_drive : (gustTrigger s).drive = s.drive := by rw [gustTrigger_eq]

theorem takePeriodic_drive : (takePeriodic s).drive = s.drive := by rw [takePeriodic_eq]

theorem refreshIntent_drive : (refreshIntent s).drive = s.drive := by
  unfold refreshIntent
  dsimp only
  split
  · rfl
  · exact place_drive s _ _ _

theorem beginPulses_drive : (beginPulses s).drive = s.drive := by rw [beginPulses_eq]

end

theorem assessmentTick_steered (s : State) : Steered s (assessmentTick s) := by
  rw [assessmentTick_eq]
  have result : Steered s (resultTaken s) := (takeResult_steered _ _ _ _ _).after rfl
  exact result.trans (.of_drive (gustTrigger_drive _))

theorem takeWindowEnd_steered (vane : BitVec 4) (s : State) : Steered s (takeWindowEnd vane s) := by
  cases hs : s.safe with
  | true => rw [takeWindowEnd_safe vane hs]; exact .of_drive rfl
  | false => rw [takeWindowEnd_assesses vane hs]; exact (assessmentTick_steered _).after rfl

theorem clearDemand_steered (s : State) : Steered s (clearDemand s) := by
  rw [clearDemand_eq]
  exact (appointFrom_steered _ (demandCleared s)).after rfl

theorem takeOpenLatch_steered (s : State) : Steered s (takeOpenLatch s) :=
  .ite (fun _ => (takePress_steered _ _).after rfl) fun _ => .refl s

theorem takeCloseLatch_steered (s : State) : Steered s (takeCloseLatch s) :=
  .ite (fun _ => (takePress_steered _ _).after rfl) fun _ => .refl s

theorem takeButtonSample_steered (o c : Bool) (s : State) : Steered s (takeButtonSample o c s) := by
  have opened : Steered s (takeOpenLatch (withButtons o c s)) := (takeOpenLatch_steered _).after rfl
  rw [takeButtonSample_eq]
  exact opened.trans (takeCloseLatch_steered _)

/-! ### Evaluations (R107, R108, R121) -/

theorem enterRamp_inMotion (s : State) : (enterRamp s).drive.state.inMotion = true := by
  cases hg : s.drive.goal with
  | none => simp [enterRamp, hg, enterStopping_stops, DriveState.inMotion]
  | some g =>
    by_cases h : suspect s = true ∧ g.target ≠ .seat
    · rw [enterRamp_brakes hg h, enterStopping_stops]
      rfl
    · obtain ⟨u, runs, -, -, ht, -⟩ := rampBegun_goesOn g hg
      have on : u.drive.state.energised = true := by rcases runs with h | h | h <;> rw [h] <;> rfl
      rw [enterRamp_begins hg h, ht]
      rcases (positionTests_steered u).moving on with ⟨still, -⟩ | stops
      · exact inMotion_of_energised still
      · rw [stops]
        rfl

/-- From `s` to `t` the drive stands, or an admission took it out of WAIT_SLOT: under power at once just with a warning
time of 0. -/
structure Admitted (s t : State) : Prop where
  cfg : t.cfg = s.cfg
  drive : t.drive = s.drive ∨ (s.drive.state = .waitSlot ∧ t.drive.state ≠ .waitSlot ∧
    (t.drive.state.energised = true → warningTime s.drive.goal s = 0))

theorem warningTime_congr {s t : State} (h : t.cfg = s.cfg) (g : Option Goal) :
    warningTime g t = warningTime g s := by
  unfold warningTime
  rw [h]

theorem Admitted.trans {s t u : State} (h : Admitted s t) (k : Admitted t u) : Admitted s u where
  cfg := k.cfg.trans h.cfg
  drive := by
    rcases h.drive with still | left
    · rcases k.drive with still' | ⟨waits, left, time⟩
      · exact .inl (still'.trans still)
      · rw [still] at waits time
        rw [warningTime_congr h.cfg] at time
        exact .inr ⟨waits, left, time⟩
    · rcases k.drive with still' | ⟨waits, -⟩
      · rw [still']
        exact .inr left
      · exact absurd waits left.2.1

theorem Admitted.still {s t : State} (cfg : t.cfg = s.cfg) (drive : t.drive = s.drive) : Admitted s t :=
  ⟨cfg, .inl drive⟩

theorem Admitted.after {s t u : State} (k : Admitted t u) (cfg : t.cfg = s.cfg) (drive : t.drive = s.drive) :
    Admitted s u := (Admitted.still cfg drive).trans k

theorem driveAdmitted_admitted (s : State) : Admitted s (driveAdmitted s) where
  cfg := by
    obtain ⟨_, _, _, _, _, h⟩ := driveAdmitted_moved s
    rw [h]
  drive := by
    by_cases waits : s.drive.state = .waitSlot
    · have takes : driveAdmitted s = enterWarning s := if_pos waits
      rw [takes]
      by_cases time : warningTime s.drive.goal s = 0
      · have ramps : enterWarning s = enterRamp s := if_pos time
        have moves := enterRamp_inMotion s
        rw [ramps]
        exact .inr ⟨waits, (fun k => nomatch (congrArg DriveState.inMotion k).symm.trans moves), fun _ => time⟩
      · rw [enterWarning_warns time]
        exact .inr ⟨waits, nofun, nofun⟩
    · exact .inl (congrArg State.drive (if_neg waits))

theorem evaluate_admitted (s : State) : Admitted s (evaluate s) := by
  unfold evaluate
  split
  · exact (driveAdmitted_admitted (granted s)).after rfl rfl
  · exact .still rfl rfl

theorem occasionToEvaluate_admitted (s : State) : Admitted s (occasionToEvaluate s) := by
  unfold occasionToEvaluate
  split
  · exact evaluate_admitted s
  · exact .still rfl rfl

theorem dropAndEvaluate_admitted (src : Nat) (s : State) : Admitted s (dropAndEvaluate src s) :=
  (occasionToEvaluate_admitted (dropEntry src s)).after rfl rfl

theorem takeNotice_admitted (s : State) (n : Notice) : Admitted s (takeNotice s n) := by
  cases n with
  | removed src => exact dropAndEvaluate_admitted src s
  | runningCleared src => exact occasionToEvaluate_admitted s

theorem takeNotices_admitted (ns : List Notice) (s : State) : Admitted s (ns.foldl takeNotice s) := by
  induction ns generalizing s with
  | nil => exact .still rfl rfl
  | cons n ns ih => exact (takeNotice_admitted s n).trans (ih _)

theorem takeScan_admitted (s : State) : Admitted s (takeScan s) :=
  (takeNotices_admitted _ (s.setPeers (scanTable s.nt s.peers))).after rfl rfl

theorem notePeer_admitted (src : Nat) (obs : Option Observation) (st : Option PeerState) (s : State) :
    Admitted s (notePeer src obs st s) := by
  have peers : ∀ l, Admitted s (s.setPeers l) := fun _ => .still rfl rfl
  unfold notePeer
  split
  · exact .still rfl rfl
  · split
    · exact peers _
    · dsimp only
      split
      · exact peers _
      · exact (peers _).trans (takeNotice_admitted _ _)

/-! ### What a command makes of the motion -/

/-- From `s` to `t` the drive has passed as O11 allows: a bridge under power keeps its direction or brakes, and one that
was not under power comes to it out of a warning, a braking, or an admission with a warning time of 0. -/
structure Passed (s t : State) : Prop where
  heading : s.drive.state.energised = true → t.drive.state.energised = true → t.drive.dir = s.drive.dir
  brakes : SafeSeatLawful s → s.drive.state.energised = true →
    t.drive.state.energised = true ∨ t.drive.state = .stopping
  begun : t.drive.state.energised = true → s.drive.state.energised = true ∨ s.drive.state = .warning ∨
    s.drive.state = .stopping ∨ (s.drive.state = .waitSlot ∧ warningTime s.drive.goal s = 0)

section
variable {s t : State}

theorem Steered.passed (h : Steered s t) : Passed s t where
  heading := fun on still => by
    rcases h.moving on with ⟨-, dir⟩ | stops
    · exact dir
    · exact absurd still (energised_not stops rfl)
  brakes := fun _ on => (h.moving on).imp_left And.left
  begun := fun on => (h.begun on).imp_right .inl

theorem Admitted.passed (h : Admitted s t) : Passed s t := by
  rcases h.drive with still | ⟨waits, -, time⟩
  · exact (Steered.of_drive still).passed
  · have off := energised_not waits rfl
    exact ⟨fun on => absurd on off, fun _ on => absurd on off, fun on => .inr (.inr (.inr ⟨waits, time on⟩))⟩

/-- Out of a warning and at the end of a braking every passage is allowed. -/
theorem Passed.begins (h : s.drive.state = .warning ∨ s.drive.state = .stopping) : Passed s t where
  heading := fun on => absurd on (h.elim (energised_not · rfl) (energised_not · rfl))
  brakes := fun _ on => absurd on (h.elim (energised_not · rfl) (energised_not · rfl))
  begun := fun _ => .inr (h.imp_right .inl)

/-- What the end of a command leaves of the drive is the running refresh deadline. -/
theorem Passed.commit (h : Passed s t) : Passed s (commit s t) := by
  obtain ⟨heading, brakes, begun⟩ := h
  have drive := commit_drive s t
  generalize (Machine.commit s t).drive.refreshDl = r at drive
  refine ⟨?_, ?_, ?_⟩ <;> rw [drive]
  · exact heading
  · exact brakes
  · exact begun

theorem live_passed {f : State → State} (h : Passed s (f s)) : Passed s (live f s) := by
  unfold live
  split
  · exact h.commit
  · exact (Steered.refl s).passed

theorem liveWhen_passed {test : State → Bool} {f : State → State} (h : test s = true → Passed s (f s)) :
    Passed s (liveWhen test f s) := by
  unfold liveWhen
  split
  · next due => exact (h (Bool.and_eq_true_iff.1 due).2).commit
  · exact (Steered.refl s).passed

/-- An arrival passes as what the command makes of the telegram does. -/
theorem arrival_passed {take : Frame → State → State} (h : ∀ f t, Passed t (take f t)) (mine : Frame → Bool)
    (bits : List Bool) (s : State) : Passed s (arrival mine bits take s) := by
  unfold arrival
  split
  · exact (Steered.refl s).passed
  · next f _ =>
    split
    · obtain ⟨heading, brakes, begun⟩ := h f (hearOther s)
      exact ⟨heading, brakes, begun⟩
    · exact (Steered.refl s).passed

theorem Steered.arrives {take : Frame → State → State} (h : ∀ f t, Steered t (take f t)) (mine : Frame → Bool)
    (bits : List Bool) (s : State) : Passed s (arrival mine bits take s) :=
  arrival_passed (fun f t => (h f t).passed) mine bits s

theorem requestArrival_passed {take : Frame → State → State} (h : ∀ f t, Steered t (take f t)) (action : Nat)
    (bits : List Bool) (s : State) : Passed s (requestArrival action bits take s) :=
  Steered.arrives (fun f t => .ite (fun _ => h f t) fun _ => .refl t) _ bits s

theorem configureArrival_passed {take : Frame → State → State} (h : ∀ f t, (take f t).drive = t.drive)
    (operation : Nat) (bits : List Bool) (s : State) : Passed s (configureArrival operation bits take s) :=
  Steered.arrives (fun f t => .of_drive (drive_ite (h f t) rfl)) _ bits s

end

/-! ### Intents, the safe seat and the key -/

/-- A STATE is noted, and evaluates a node that waits (R46, R103). -/
theorem stateArrival_passed (f : Frame) (s : State) :
    let st := peerStateOf f.payload s.nt
    let noted := notePeer f.source.toNat none (some st) s
    Passed s (if st.running then dropAndEvaluate f.source.toNat noted else occasionToEvaluate noted) := by
  dsimp only
  split
  · exact ((notePeer_admitted _ _ _ s).trans (dropAndEvaluate_admitted _ _)).passed
  · exact ((notePeer_admitted _ _ _ s).trans (occasionToEvaluate_admitted _)).passed

/-- An INTENT evaluates a node that waits and can brake one that is admitted (R101, R108, R112). -/
theorem takeIntent_passed (src : Nat) (p : List Byte) (s : State) : Passed s (takeIntent src p s) := by
  have listed : Admitted s (s.setSupply { s.supply with entries := listAfterIntent src p s }) := .still rfl rfl
  unfold takeIntent
  dsimp only
  split
  case h_1 => exact (listed.trans (evaluate_admitted _)).passed
  case h_2 =>
    refine Steered.passed (.ite (fun _ => ?_) fun _ => .of_drive rfl)
    exact (orderYield_steered _).after rfl
  case h_3 | h_4 => exact listed.passed

/-- The safe seat begins at rest, where a bridge that was under power does not stand (R163). -/
theorem Steered.beginsSafeSeat {s m : State} (h : Steered s m) : Passed s (beginSafeSeat m) := by
  unfold beginSafeSeat
  split
  · next begins =>
    simp only [Bool.and_eq_true, beq_iff_eq] at begins
    have idle : m.drive.state = .idle := begins.1.2
    have warns : ∀ d : Drive, d.state = .warning → (moveDrive d m).drive.state.energised = false := fun d hd => by
      rw [moveDrive_eq]
      exact congrArg DriveState.energised hd
    refine ⟨fun _ on => absurd (on.symm.trans (warns _ rfl)) nofun, fun _ on => ?_,
      fun on => absurd (on.symm.trans (warns _ rfl)) nofun⟩
    rcases h.moving on with ⟨still, -⟩ | stops
    · exact absurd still (energised_not idle rfl)
    · exact nomatch idle.symm.trans stops
  · exact h.passed

theorem takeKeyOff_passed (s : State) : Passed s (takeKeyOff s) := by
  have held : Steered s (appointFrom (acting s) (withHold false s)) := (appointFrom_steered _ _).after rfl
  exact (held.trans (.of_drive (endWindow_drive _))).beginsSafeSeat

/-- A handing while no level acts keeps the phase of the safe seat. -/
theorem handGoal_unled_phase {s : State} (h : acting s = none) : (handGoal s).drive.safePhase = s.drive.safePhase := by
  have unled : acting (recordHanding s) = none := h
  unfold handGoal
  rw [show formGoal s = none by simp [formGoal, h]]
  rcases takeGoal_none (recordHanding s) with k | k | k <;> rw [k]
  · rfl
  · rw [enterIdle_unled (by exact unled)]
    rfl
  · rw [enterStopping_stops]
    rfl

theorem appointFrom_hold_phase (s : State) :
    (appointFrom (acting s) (withHold true s)).drive.safePhase = s.drive.safePhase := by
  have unled : acting ((withHold true s).setLevels (appointedLevels (withHold true s))) = none :=
    (acting_setAppointed _).trans (chosenLevel_not (mayAct_withHold s))
  unfold appointFrom
  dsimp only
  split
  · rfl
  · exact handGoal_unled_phase unled

/-- A key-on ends the safe seat: its warning at rest, its seating in a braking (R163). -/
theorem takeKeyOn_passed (s : State) : Passed s (takeKeyOn s) := by
  have held : Steered s (appointFrom (acting s) (withHold true s)) := (appointFrom_steered _ _).after rfl
  have phase := appointFrom_hold_phase s
  have safe : (appointFrom (acting s) (withHold true s)).safe = s.safe := (appointFrom_spec _ _).1.safe
  rw [takeKeyOn_eq]
  generalize appointFrom (acting s) (withHold true s) = m at *
  dsimp only
  split
  · next isSafe =>
    rw [safe] at isSafe
    unfold interruptSafeSeat
    split
    · next warns =>
      have off := (enterIdle_cameToRest (m.setDrive { m.drive with safePhase := .notBegun })).state
      have still := off.elim (energised_not · rfl) (energised_not · rfl)
      refine ⟨fun _ on => absurd on still, fun ⟨_, lawful⟩ on => ?_, fun on => absurd on still⟩
      exact absurd on (energised_not ((lawful isSafe).2 (phase.symm.trans warns)) rfl)
    · exact Steered.passed (.brakes rfl)
    · exact held.passed
  · exact held.passed

theorem takeKeySample_passed (on : Bool) (s : State) : Passed s (takeKeySample on s) := by
  let r := settleContact 20 on s.sensor.keySettled s.sensor.keyRun
  let u := withKeySample on r.1 r.2 s
  have sampled : ∀ {t}, Passed u t → Passed s t := fun ⟨heading, brakes, begun⟩ => ⟨heading, brakes, begun⟩
  show Passed s (if r.1 = some true ∧ s.sensor.keySettled ≠ some true then takeKeyOn u
    else if r.1 = some false ∧ s.sensor.keySettled = some true then takeKeyOff u else u)
  split
  · exact sampled (takeKeyOn_passed u)
  · split
    · exact sampled (takeKeyOff_passed u)
    · exact sampled (Steered.refl u).passed

end Sys2Proof.Machine
end

section
/-! No motion without a warning or a braking (R118, R121, R122, R127): the commands, the clock, and the step. -/

namespace Sys2Proof.Machine

/-! ### The commands -/

theorem inMotion_of_stops {d : DriveState} (h : d = .idle ∨ d = .retryWait ∨ d = .sagWait) : d.inMotion = false := by
  rcases h with rfl | rfl | rfl <;> rfl

/-- Every command but a start on a rise of the supply passes the drive on as O11 allows. -/
theorem exec_passed {c : Instr} (hc : c ≠ .powerUp) (s : State) : ∃ t, exec c s = .next t ∧ Passed s t := by
  have still : ∀ {t : State}, t.drive = s.drive → Passed s t := fun h => (Steered.of_drive h).passed
  cases c with
  | powerUp => exact absurd rfl hc
  | restartStart =>
    refine ⟨_, rfl, ?_⟩
    split
    · next ready =>
      have idle : s.drive.state = .idle := by
        simp only [restartReady, Bool.and_eq_true, decide_eq_true_eq] at ready
        exact ready.2.2
      exact (Steered.rests (inMotion_of_stops (.inl idle)) (.inl rfl)).passed
    · exact still rfl
  | logicSupplyLoss torn => exact ⟨_, rfl, still (drive_ite (by rw [losePower_eq]) rfl)⟩
  | backupRailLoss => exact ⟨_, rfl, still rfl⟩
  | listenEnd =>
    refine ⟨_, rfl, liveWhen_passed fun _ => ?_⟩
    have heard : Steered s (appoint (s.setListen false)) := (appointFrom_steered _ _).after rfl
    exact heard.beginsSafeSeat
  | safeSeatDeadline =>
    refine ⟨_, rfl, liveWhen_passed fun _ => ?_⟩
    have brakes : Steered s (enterStopping .goal (s.setDrive { s.drive with safePhase := .ended })) := .brakes rfl
    exact (brakes.trans (addReason_steered _ _)).passed
  | anemometerEdge => exact ⟨_, rfl, live_passed (still (takeEdge_drive s))⟩
  | windowEnd vane => exact ⟨_, rfl, liveWhen_passed fun _ => (takeWindowEnd_steered vane s).passed⟩
  | startWindowEnd => exact ⟨_, rfl, liveWhen_passed fun _ => still rfl⟩
  | stormExpiry | rainExpiry =>
    exact ⟨_, rfl, liveWhen_passed fun _ => Steered.passed ((takeResult_steered _ _ _ _ _).after rfl)⟩
  | gridSample v => exact ⟨_, rfl, liveWhen_passed fun _ => still (takeGridSample_drive s v)⟩
  | buttonSample o c => exact ⟨_, rfl, liveWhen_passed fun _ => (takeButtonSample_steered o c s).passed⟩
  | keySample on => exact ⟨_, rfl, liveWhen_passed fun _ => takeKeySample_passed on s⟩
  | demandExpiry => exact ⟨_, rfl, liveWhen_passed fun _ => (clearDemand_steered s).passed⟩
  | transmissionStart => exact ⟨_, rfl, live_passed (still (startTransmission_drive s))⟩
  | transmissionLost read | identityClash read | transmissionComplete read =>
    exact ⟨_, rfl, live_passed (still (endTransmission_drive s _ read))⟩
  | observeArrival bits =>
    exact ⟨_, rfl, live_passed (arrival_passed (fun f t => (notePeer_admitted _ _ _ t).passed) _ bits s)⟩
  | stateArrival bits => exact ⟨_, rfl, live_passed (arrival_passed stateArrival_passed _ bits s)⟩
  | intentArrival bits =>
    refine ⟨_, rfl, live_passed (arrival_passed (fun f t => ?_) _ bits s)⟩
    obtain ⟨heading, brakes, begun⟩ := takeIntent_passed f.source.toNat f.payload (hearPeer f.source.toNat t)
    exact ⟨heading, brakes, begun⟩
  | withdrawArrival bits =>
    refine ⟨_, rfl, live_passed (arrival_passed (fun f t => ?_) _ bits s)⟩
    exact Admitted.passed ((dropAndEvaluate_admitted _ (hearPeer f.source.toNat t)).after rfl rfl)
  | requestOpenTo bits =>
    exact ⟨_, rfl, live_passed (requestArrival_passed (fun f t => takeDemand_steered _ t) 0 bits s)⟩
  | requestClose bits =>
    exact ⟨_, rfl, live_passed (requestArrival_passed
      (fun f t => (takeDemand_steered .seat t).trans (takeCloseNotice_steered _)) 1 bits s)⟩
  | requestStop bits =>
    exact ⟨_, rfl, live_passed (requestArrival_passed (fun f t => clearDemand_steered t) 2 bits s)⟩
  | requestRelease bits =>
    exact ⟨_, rfl, live_passed (requestArrival_passed (fun f t => clearDemand_steered t) 3 bits s)⟩
  | requestRestart bits =>
    exact ⟨_, rfl, live_passed (Steered.arrives
      (fun f t => .ite (fun _ => takeRestart_steered t) fun _ => .refl t) _ bits s)⟩
  | configureOpen bits =>
    exact ⟨_, rfl, live_passed (configureArrival_passed (fun f t => takeConfigure_drive t
      (fun i t => openWindow_drive t i) (fun _ t => reply_drive t _ _ _) _) 0 bits s)⟩
  | configureWrite bits =>
    exact ⟨_, rfl, live_passed (configureArrival_passed (fun f t => takeConfigure_drive t
      (fun _ t => reply_drive t _ _ _) (fun i t => beginWrite_drive t _ i) _) 1 bits s)⟩
  | configureRead bits =>
    exact ⟨_, rfl, live_passed (configureArrival_passed (fun f t => takeConfigure_drive t
      (fun _ t => reply_drive t _ _ _) (fun i t => readField_drive t i) _) 2 bits s)⟩
  | recordArrival bits => exact ⟨_, rfl, live_passed (Steered.arrives (fun _ t => .refl t) _ bits s)⟩
  | arrivalNotHandedOn bits => exact ⟨_, rfl, live_passed (Steered.arrives (fun _ t => .refl t) _ bits s)⟩
  | writeComplete v ch => exact ⟨_, rfl, liveWhen_passed fun _ => still (completeWrite_drive s _)⟩
  | commissioningWindowDeadline => exact ⟨_, rfl, liveWhen_passed fun _ => still (endWindow_drive s)⟩
  | isolationDeadline => exact ⟨_, rfl, liveWhen_passed fun _ => still rfl⟩
  | periodicObserveDeadline => exact ⟨_, rfl, liveWhen_passed fun _ => still (takePeriodic_drive s)⟩
  | immediateHoldoffExpiry =>
    refine ⟨_, rfl, liveWhen_passed fun _ => still ?_⟩
    split
    · rfl
    · exact drive_ite rfl (placeImmediate_drive s _)
  | runningRefreshDeadline => exact ⟨_, rfl, liveWhen_passed fun _ => still rfl⟩
  | peerScan => exact ⟨_, rfl, liveWhen_passed fun _ => (takeScan_admitted s).passed⟩
  | settleDeadline =>
    exact ⟨_, rfl, liveWhen_passed fun _ =>
      Admitted.passed ((evaluate_admitted _).after rfl rfl)⟩
  | intentRefreshDeadline => exact ⟨_, rfl, liveWhen_passed fun _ => still (refreshIntent_drive s)⟩
  | intentEntryAged src => exact ⟨_, rfl, liveWhen_passed fun _ => (dropAndEvaluate_admitted _ s).passed⟩
  | sag => exact ⟨_, rfl, liveWhen_passed fun _ => Steered.passed (.brakes rfl)⟩
  | supplyBelowHallFloor v =>
    refine ⟨_, rfl, liveWhen_passed fun _ => ?_⟩
    have read : Steered s (readSupply (s.setPins { s.pins with supply := v })) := (readSupply_steered _).after rfl
    exact (read.trans (addReason_steered _ _)).passed
  | overCurrent => exact ⟨_, rfl, liveWhen_passed fun _ => (detection_steered s).passed⟩
  | velocityWindowEnd => exact ⟨_, rfl, liveWhen_passed fun _ => (takeVelocity_steered s).passed⟩
  | warningDeadline => exact ⟨_, rfl, liveWhen_passed fun h => .begins (.inl (decide_and_due.1 h).1)⟩
  | rampStep => exact ⟨_, rfl, liveWhen_passed fun _ => (takeRampStep_steered s).passed⟩
  | stopDeadline => exact ⟨_, rfl, liveWhen_passed fun h => .begins (.inr (decide_and_due.1 h).1)⟩
  | seatTimeout => exact ⟨_, rfl, liveWhen_passed fun _ => Steered.passed (.brakes rfl)⟩
  | backoffDeadline => exact ⟨_, rfl, liveWhen_passed fun _ => (enterStopping_steered _ s).passed⟩
  | retryDeadline =>
    exact ⟨_, rfl, liveWhen_passed fun h =>
      (waitOrIdle_steered (inMotion_of_stops (.inr (.inl (decide_and_due.1 h).1)))).passed⟩
  | sagHoldoffDeadline =>
    exact ⟨_, rfl, liveWhen_passed fun h =>
      (waitOrIdle_steered (inMotion_of_stops (.inr (.inr (decide_and_due.1 h).1)))).passed⟩
  | refuseEnd => exact ⟨_, rfl, liveWhen_passed fun _ => Steered.passed (.still rfl rfl)⟩
  | hallStep pair =>
    refine ⟨_, rfl, ?_⟩
    split
    · exact liveWhen_passed fun _ => (takeStep_steered pair s).passed
    · exact still rfl
  | hallSkip pair =>
    refine ⟨_, rfl, ?_⟩
    split
    · exact liveWhen_passed fun _ => (takeSkip_steered pair s).passed
    · exact still rfl
  | crossCheckDeadline v =>
    refine ⟨_, rfl, liveWhen_passed fun h => ?_⟩
    obtain ⟨-, idle, -⟩ := (crossCheckDue_iff s).1 h
    exact Steered.passed ((compareAtRest_steered (by exact inMotion_of_stops (.inl idle))).after rfl)

/-- A bridge under power after a command had its supply before it: a start leaves the drive in IDLE. -/
theorem Ends.powered {c : Instr} {s t : State} (h : Ends c s t) (on : energised t = true) : s.power = true := by
  obtain ⟨power, moves⟩ := Bool.and_eq_true_iff.1 on
  cases h with
  | none => exact power
  | carried supplied _ => exact supplied
  | started => exact nomatch moves
  | lost torn => rw [losePower_eq] at power; cases power
  | latched => exact power
  | coasted => exact power

/-! ### The clock -/

theorem happen_drive (e : LineEvent) (s : State) : (happen e s).drive = s.drive := by
  cases e with
  | stop => rfl
  | sample => rfl
  | begin => exact beginPulses_drive s

theorem millisecond_steered (s : State) : Steered s (millisecond s) := by
  rw [millisecond_eq]
  exact (readSupply_steered (risen s)).after rfl

theorem runLine_steered (s : State) : Steered s (runLine s) := by
  unfold runLine
  split
  · exact millisecond_steered s
  · exact .ite (fun _ => .of_drive (happen_drive _ _)) fun _ => millisecond_steered s

/-- The clock steers nothing: it runs the over-current timer alone. -/
theorem tick_steered (s : State) : Steered s (tick s) :=
  .ite (fun _ => .of_drive rfl) fun _ => .ite (fun _ => .of_drive rfl) fun _ =>
    .ite (fun _ => .of_drive rfl) fun _ => .ite (fun _ => .of_drive rfl) fun _ => runLine_steered s

theorem tick_powered {s : State} (on : energised (tick s) = true) : s.power = true := by
  cases hp : s.power with
  | true => rfl
  | false =>
    rw [tick_dark hp] at on
    have dark : (s.power && s.drive.state.energised) = true := on
    rw [hp] at dark
    cases dark

/-! ### The step -/

/-- How a step passes the drive on: as O11 allows, but for a start on a rise of the supply, which leaves it in IDLE. -/
theorem step_passed {s t : State} (h : step s = .next t) :
    (Passed s t ∨ ((∃ rest, s.pending = .powerUp :: rest) ∧ t.drive.state = .idle)) ∧
    (energised t = true → s.power = true) := by
  unfold step at h
  split at h
  · next c rest hp =>
    obtain ⟨u, hu, ends⟩ := exec_ends c (s.setPending rest)
    have powered : energised u = true → s.power = true := fun on => ends.powered on
    by_cases hc : c = .powerUp
    · subst hc
      cases h
      exact ⟨.inr ⟨⟨rest, hp⟩, rfl⟩, by cases hu; exact powered⟩
    · obtain ⟨v, hv, heading, brakes, begun⟩ := exec_passed hc (s.setPending rest)
      rw [h] at hu hv
      cases hu
      cases hv
      exact ⟨.inl ⟨heading, brakes, begun⟩, powered⟩
  · cases h
    exact ⟨.inl (tick_steered s).passed, tick_powered⟩

/-- Settles O11: every step passes the drive on as a braking, a warning or an admission without one allows. -/
theorem noMotionWithoutWarningOrBraking : Obligations.NoMotionWithoutWarningOrBraking := by
  have moves : ∀ {s : State}, energised s = true → s.drive.state.energised = true := fun on =>
    (Bool.and_eq_true_iff.1 on).2
  refine ⟨fun s t h on still => ?_, fun s t lawful h on off power noStart => ?_, fun s t h off on => ?_⟩
  · obtain ⟨passed | ⟨-, idle⟩, -⟩ := step_passed h
    · exact passed.heading (moves on) (moves still)
    · exact absurd (moves still) (energised_not idle rfl)
  · obtain ⟨passed | ⟨⟨rest, start⟩, -⟩, -⟩ := step_passed h
    · have stops : t.drive.state = .stopping := by
        rcases passed.brakes lawful (moves on) with still | stops
        · simp [energised, power, still] at off
        · exact stops
      exact ⟨stops, by simp [gates, off, power, stops]⟩
    · exact absurd start (noStart rest)
  · obtain ⟨passed | ⟨-, idle⟩, powered⟩ := step_passed h
    · rcases passed.begun (moves on) with was | begun
      · simp [energised, powered on, was] at off
      · exact begun
    · exact absurd (moves on) (energised_not idle rfl)

end Sys2Proof.Machine
end

section
/-! The four gates of the bridge (R118, R165). -/

namespace Sys2Proof.Machine

section
variable {s : State}

theorem gates_energised (h : energised s = true) : gates s = Gates.energised s.drive.dir s.drive.duty := if_pos h

theorem gates_braking (hp : s.power = true) (hs : s.drive.state = .stopping) : gates s = ⟨.off, .on, .off, .on⟩ := by
  have off : energised s = false := by simp [energised, hs, DriveState.energised]
  simp [gates, off, hp, hs]

theorem gates_off (he : energised s = false) (hs : s.power = false ∨ s.drive.state ≠ .stopping) :
    gates s = ⟨.off, .off, .off, .off⟩ := by
  have still : ¬(s.power && s.drive.state == .stopping) = true := by
    rcases hs with h | h <;> simp [h]
  rw [gates, if_neg (by simp [he]), if_neg still]
  rfl

/-- At rest, and while the drive waits, the four gates are off. -/
theorem gates_at_rest (h : s.drive.state.inMotion = false) : gates s = ⟨.off, .off, .off, .off⟩ := by
  refine gates_off (Bool.eq_false_iff.2 fun on => ?_) (.inr fun stops => ?_)
  · rw [inMotion_of_energised (Bool.and_eq_true_iff.1 on).2] at h
    cases h
  · rw [stops] at h
    cases h

end

/-- What an energised bridge can show: all off, or the diagonal of its direction. -/
theorem gatesEnergised_legs (dir : Option Dir) (duty : Nat) :
    ((Gates.energised dir duty).gh1 = .off ∨ (Gates.energised dir duty).gl1 = .off) ∧
    ((Gates.energised dir duty).gh2 = .off ∨ (Gates.energised dir duty).gl2 = .off) := by
  rcases dir with _ | _ | _
  · exact ⟨.inl rfl, .inl rfl⟩
  · exact ⟨.inr rfl, .inl rfl⟩
  · exact ⟨.inl rfl, .inr rfl⟩

/-- Settles O10: the bridge is energised, brakes, or is off. -/
theorem bridgeNeverShootsThrough : Obligations.BridgeNeverShootsThrough := by
  intro s
  have dark : s.power = false → energised s = false := fun h => by simp [energised, h]
  have high : energised s = false → (gates s = ⟨.off, .on, .off, .on⟩ ∨ gates s = ⟨.off, .off, .off, .off⟩) :=
    fun off => by
      by_cases brakes : s.power = true ∧ s.drive.state = .stopping
      · exact .inl (gates_braking brakes.1 brakes.2)
      · exact .inr (gates_off off ((not_and_or.1 brakes).imp_left Bool.eq_false_iff.2))
  have legs : ((gates s).gh1 = .off ∨ (gates s).gl1 = .off) ∧ ((gates s).gh2 = .off ∨ (gates s).gl2 = .off) := by
    by_cases on : energised s = true
    · rw [gates_energised on]
      exact gatesEnergised_legs _ _
    · rcases high (Bool.eq_false_iff.2 on) with h | h <;> rw [h] <;> exact ⟨.inl rfl, .inl rfl⟩
  refine ⟨legs.1, legs.2, fun off => ?_, fun h => gates_off (dark h) (.inl h), fun on dir => ?_, fun on dir => ?_,
    gates_braking, fun off other => gates_off off (.inr other)⟩
  · rcases high off with h | h <;> rw [h] <;> exact ⟨rfl, rfl⟩
  · rw [gates_energised on, dir]
    rfl
  · rw [gates_energised on, dir]
    rfl

end Sys2Proof.Machine
end

section
/-! REFUSE, the running refresh, the sounder with its tone, and the status lamp (R38, R139, R163, R164). -/

namespace Sys2Proof.Machine

/-! ### The end of REFUSE and the running refresh -/

theorem refuseSounds_iff (s : State) :
    refuseSounds s = true ↔ ∃ d, s.drive.refuseUntil = some d ∧ passed s.nt d = false := by
  unfold refuseSounds
  cases s.drive.refuseUntil <;> simp

theorem refuseEnds_of {s : State} {d : Time} (h : s.drive.refuseUntil = some d) : refuseEnds s = passed s.nt d := by
  simp [refuseEnds, due, h]

/-- A command that notes an occasion and nothing else ends with a STATE, and with what that moves (R38). -/
theorem commit_noteOccasion {s : State} (hr : Ready s) (hs : s.safe = false) :
    let t := commit s (noteOccasion s)
    Reported s t ∧ t.drive = { s.drive with refreshDl := t.drive.refreshDl } ∧
    t = { s with drive := t.drive, line := t.line, pos := { s.pos with lastReported := position s } } := by
  obtain ⟨-, noOccasion, mirrors⟩ := hr
  intro t
  have reported : Reported (noteOccasion s) t := commit_reported s _ hs (.inl rfl)
  have drive : t.drive = { s.drive with refreshDl := t.drive.refreshDl } := commit_drive s _
  have frame : t = _ := commit_frame s (noteOccasion s)
  have retained : t.retained = s.retained := commit_retained mirrors rfl rfl
  have last : t.pos.lastReported = position s := by
    have there := reported.1
    have same : position t = position s := by rw [frame]; rfl
    exact there.trans same
  refine ⟨reported, drive, ?_⟩
  change t = { s with
    line := { s.line with queue := t.line.queue }, pos := { s.pos with lastReported := t.pos.lastReported }
    drive := { s.drive with refreshDl := t.drive.refreshDl }, occasion := false, retained := t.retained } at frame
  rw [retained, last, ← drive, ← noOccasion] at frame
  have line : t.line = { s.line with queue := t.line.queue } := congrArg State.line frame
  rw [← line] at frame
  exact frame

/-! ### The outputs -/

/-- The sounder, by REFUSE and by each pattern (R139). -/
theorem sounderOn_iff {s : State} (hp : s.power = true) :
    let since := age s.nt s.drive.patternStart
    sounderOn s = true ↔ (∃ d, s.drive.refuseUntil = some d ∧ passed s.nt d = false) ∨
      (s.drive.pattern = some .warn ∧ since % 500 < 250) ∨ (s.drive.pattern = some .moving ∧ since % 1000 < 100) ∨
      (s.drive.pattern = some .fault ∧ (since % 10000 < 100 ∨ (200 ≤ since % 10000 ∧ since % 10000 < 300) ∨
        (400 ≤ since % 10000 ∧ since % 10000 < 500))) := by
  intro since
  rw [← refuseSounds_iff, sounderOn, hp]
  rcases hpat : s.drive.pattern with _ | _ | _ | _ <;> simp [Pattern.sounds, since, or_assoc]

theorem toneOf_safe {s : State} (h : s.safe = true) : toneOf s = 20 := by simp [toneOf, h]

theorem toneOf_field {s : State} (h : s.safe = false) : toneOf s =
    if s.cfg.tone = 0 then 20 else if s.cfg.tone = 1 then 25 else if s.cfg.tone = 2 then 31 else 40 := by
  simp [toneOf, h]

theorem lampOn_flashes {s : State} (hp : s.power = true) (h : s.safe = true ∨ s.line.listenOnly = true) :
    lampOn s = true ↔ s.nt.toNat % 2000 < 150 ∨ (300 ≤ s.nt.toNat % 2000 ∧ s.nt.toNat % 2000 < 450) := by
  have flashes : (s.safe || s.line.listenOnly) = true := by simpa using h
  simp [lampOn, hp, flashes]

theorem lampOn_blinks {s : State} (hp : s.power = true) (hs : s.safe = false) (hl : s.line.listenOnly = false) :
    lampOn s = if s.drive.state = .blocked then decide (s.nt.toNat % 250 < 125)
      else if suspect s then decide (s.nt.toNat % 1000 < 500) else true := by
  simp [lampOn, hp, hs, hl]

/-- Settles O51: REFUSE and the refresh through the end of their commands, then sounder, tone and lamp. -/
theorem refuseEndsAndRunningIsRefreshed : Obligations.RefuseEndsAndRunningIsRefreshed := by
  refine ⟨fun s d hr hd => ⟨fun late => ?_, fun early => ⟨?_, ?_⟩⟩, fun s hr hs running hd => ?_, fun s hp => ?_⟩
  · exact congrArg Host.Outcome.next (liveWhen_quiet hr ((refuseEnds_of hd).trans late) rfl rfl rfl rfl rfl)
  · exact congrArg Host.Outcome.next (liveWhen_idle _ ((refuseEnds_of hd).trans early))
  · exact (sounderOn_iff hr.1).2 (.inl ⟨d, hd, early⟩)
  · have runs : runningRefreshDue s = true := by simp [runningRefreshDue, running, hd]
    obtain ⟨reported, drive, frame⟩ := commit_noteOccasion hr hs
    refine ⟨_, congrArg Host.Outcome.next (liveWhen_due _ hr.1 runs), reported, ?_, frame⟩
    have refresh := reported.2.1
    rw [if_pos (by rw [commit_supply]; exact running)] at refresh
    rw [refresh] at drive
    exact drive
  · refine ⟨sounderOn_iff hp, toneOf_safe, fun hs => ?_, lampOn_flashes hp, fun hs hl => ?_⟩
    · rw [toneOf_field hs]
      refine ⟨fun h => ?_, fun h => ?_, fun h => ?_, fun h => ?_⟩ <;> rw [h] <;> rfl
    · rw [lampOn_blinks hp hs hl]
      refine ⟨fun h => ?_, fun h suspected => ?_, fun h clear => ?_⟩
      · rw [if_pos h, decide_eq_true_eq]
      · rw [if_neg h, if_pos suspected, decide_eq_true_eq]
      · rw [if_neg h, if_neg (by simp [clear])]

end Sys2Proof.Machine
end

section
/-! The ends of SEATING without a seat, of the safe seat's warning and seating, and of the waits (R119, R120, R126,
R130, R131, R137, R145, R163). -/

namespace Sys2Proof.Machine

/-! ### A reason added where no move is handed -/

theorem any_add (r : Reason) (reasons : Reasons) : (reasons.add r).any = true := by
  cases r <;> simp [Reasons.add, Reasons.any]

theorem suspect_putReason (r : Reason) (s : State) : suspect (putReason r s) = true := any_add r _

/-- A handed goal that needs no motion only comes to hand of a moving drive, or ends its move (R133). -/
theorem takeGoal_reached {s : State} {g : Goal} (hm : needsMotion g s = false)
    (hs : s.drive.state = .ramp ∨ s.drive.state = .travel ∨ s.drive.state = .approach ∨ s.drive.state = .seating) :
    takeGoal (some g) s = withDriveGoal (some g) s ∨ takeGoal (some g) s = arrive (withDriveGoal (some g) s) := by
  cases hc : s.drive.controlledStop with
  | true => exact .inl (takeGoal_controlled hc _)
  | false =>
    by_cases hg : some g = s.drive.goal
    · rcases hs with h | h | h | h <;> exact .inl (by simp [takeGoal, withDriveGoal, hc, h, hg])
    · rw [takeGoal_moving hc hg hs]
      exact .inr (changeWhileMoving_reached (by exact hm) _)

/-- The drive takes no notice of the onset of suspect but in RAMP, TRAVEL and APPROACH (R134). -/
theorem driveOnset_still {s : State} (h : ¬testsRun s) : driveOnset s = s := by
  simp only [testsRun, not_or] at h
  unfold driveOnset
  split
  · rfl
  · simp [h]

/-- In SEATING with its seat record made, a reason leaves the record, and is added (R126, R145). -/
theorem addReason_seated {s : State} (hs : s.drive.state = .seating) (hr : s.drive.seatRecord = some (position s))
    (r : Reason) : let t := addReason r s
    t.drive.seatRecord = some (position s) ∧ t.pos.reasons = s.pos.reasons.add r ∧
    t.pos.referenced = (s.pos.referenced && !r.losesZero) := by
  dsimp only
  unfold addReason
  dsimp only
  split
  · exact ⟨hr, rfl, rfl⟩
  · have seating : (putReason r s).drive.state = .seating := hs
    rw [driveOnset_still (s := putReason r s) (by simp [testsRun, seating])]
    split
    · exact ⟨hr, rfl, rfl⟩
    · next ha =>
      obtain ⟨l, hl⟩ := Option.ne_none_iff_exists'.1 ha
      have still : needsMotion ⟨l, .seat⟩ (recordHanding (putReason r s)) = false := by
        have record : (recordHanding (putReason r s)).drive.seatRecord = some (position s) := hr
        simp only [needsMotion, record, decide_eq_false_iff_not]
        show ¬20 < gap (position s) (position s)
        simp [gap]
      unfold handGoal
      rw [formGoal_suspect hl (suspect_putReason r s)]
      rcases takeGoal_reached still (.inr (.inr (.inr hs))) with h | h <;> rw [h]
      · exact ⟨hr, rfl, rfl⟩
      · rw [arrive_eq]
        exact ⟨hr, rfl, rfl⟩

/-- In a braking while no level acts a reason is only added (R145). -/
theorem addReason_braked {s : State} (hs : s.drive.state = .stopping) (ha : acting s = none) (r : Reason) :
    addReason r s = putReason r s := by
  have stopping : (putReason r s).drive.state = .stopping := hs
  have unled : acting (putReason r s) = none := ha
  unfold addReason
  dsimp only
  rw [driveOnset_still (s := putReason r s) (by simp [testsRun, stopping]), if_pos unled, ite_self]

/-! ### The deadlines of SEATING and of the safe seat -/

theorem decide_due {p : Prop} [Decidable p] {b : Bool} (h : p) (hb : b = true) : (decide p && b) = true :=
  decide_and_due.2 ⟨h, hb⟩

/-- The node that has found no seat, before the braking (R126). -/
def seatMissed (s : State) : State :=
  addReason .seatUnconfirmed (s.setDrive { s.drive with seatRecord := some (position s) })

theorem exec_seatTimeout {s : State} (hp : s.power = true) (hs : s.drive.state = .seating)
    (hd : due s.nt s.drive.seatTimeoutDl = true) : exec .seatTimeout s = .next (commit s (arrive (seatMissed s))) :=
  congrArg Host.Outcome.next (liveWhen_due _ hp (decide_due hs hd))

/-- The node whose safe seat has passed its deadline (R163). -/
def safeSeatMissed (s : State) : State :=
  enterStopping .goal (s.setDrive { s.drive with safePhase := .ended })

theorem exec_safeSeatDeadline {s : State} (hp : s.power = true) (hs : s.drive.state = .seating)
    (hph : s.drive.safePhase = .seating) (hd : due s.nt s.drive.safeSeatDl = true) :
    exec .safeSeatDeadline s = .next (commit s (addReason .seatUnconfirmed (safeSeatMissed s))) :=
  congrArg Host.Outcome.next (liveWhen_due _ hp ((safeSeatDue_iff s).2 ⟨hs, hph, hd⟩))

theorem exec_warningDeadline {s : State} (hp : s.power = true) (hs : s.drive.state = .warning)
    (hd : due s.nt s.drive.warningDl = true) : exec .warningDeadline s =
      .next (commit s (if s.drive.safePhase = .warning then enterSafeSeating s else enterRamp s)) :=
  congrArg Host.Outcome.next (liveWhen_due _ hp (decide_due hs hd))

theorem enterSafeSeating_eq (s : State) : enterSafeSeating s = { s with
    drive := { s.drive.cleared with
      state := .seating, safePhase := .seating, dir := some .closing, duty := 90
      checkStart := some (after s.nt 300), safeSeatDl := some (after s.nt 120000)
      pattern := movingPattern s, patternStart := s.nt }
    pos := { s.pos with crossCheckDl := none } } := moveDrive_energised rfl s

/-- Settles O48: a seat timeout, the safe seat's deadline, and the end of the safe seat's warning. -/
theorem seatingEndsUnconfirmed : Obligations.SeatingEndsUnconfirmed := by
  refine ⟨fun s hr _ hs hd _ => ?_, fun s hr hl safe hs hph hd => ?_, fun s hr safe hs hph hd => ?_⟩
  · obtain ⟨record, reasons, referenced⟩ := addReason_seated
      (s := s.setDrive { s.drive with seatRecord := some (position s) }) hs rfl .seatUnconfirmed
    have moved : Moves _ (seatMissed s) := addReason_moves .seatUnconfirmed
      (s.setDrive { s.drive with seatRecord := some (position s) })
    have nt : (seatMissed s).nt = s.nt := moved.nt
    have count : (seatMissed s).pos.count = s.pos.count := moved.count
    have unconfirmed : (seatMissed s).pos.reasons.seatUnconfirmed = true := by
      rw [show (seatMissed s).pos.reasons = s.pos.reasons.add .seatUnconfirmed from reasons]
      rfl
    have zero : (seatMissed s).pos.referenced = s.pos.referenced := referenced.trans (Bool.and_true _)
    refine ⟨_, exec_seatTimeout hr.1 hs hd, ?_⟩
    change (seatMissed s).drive.seatRecord = some (position s) at record
    clear reasons referenced moved
    generalize seatMissed s = u at *
    rw [commit_drive, commit_pos, commit_supply, arrive_eq, nt]
    exact ⟨rfl, rfl, rfl, record, unconfirmed, zero, count, rfl⟩
  · have unled : acting (safeSeatMissed s) = none := by
      rw [acting, safeSeatMissed, enterStopping_stops]
      exact acting_safe hl safe
    refine ⟨_, exec_safeSeatDeadline hr.1 hs hph hd, ?_⟩
    rw [addReason_braked rfl unled, commit_drive, commit_pos, commit_supply]
    exact ⟨rfl, rfl, rfl, rfl, rfl, rfl, rfl⟩
  · refine ⟨_, exec_warningDeadline hr.1 hs hd, ?_⟩
    rw [if_pos hph, commit_drive, commit_supply, commit_line_safe (by rw [enterSafeSeating_eq]; exact safe),
      enterSafeSeating_eq]
    exact ⟨rfl, rfl, rfl, rfl, rfl, rfl, rfl, rfl⟩

/-! ### The waits -/

/-- Settles O49: the end of a backoff brakes; that of a wait goes on by the goal in hand. -/
theorem waitsEndInARequestOrRest : Obligations.WaitsEndInARequestOrRest := by
  refine ⟨fun s hr _ hs hd => ?_, fun c s hr _ hc adm => ?_⟩
  · refine ⟨_, congrArg Host.Outcome.next (liveWhen_due _ hr.1 (decide_due hs hd)), ?_⟩
    rw [commit_drive, commit_pos, commit_levels, enterStopping_stops]
    exact ⟨rfl, rfl, rfl, rfl, rfl, rfl, rfl⟩
  · have went := (waitOrIdle_wentOn adm).ends (commit_ends s (waitOrIdle s))
    rcases hc with ⟨rfl, hs, hd⟩ | ⟨rfl, hs, hd⟩
    · exact ⟨_, congrArg Host.Outcome.next (liveWhen_due _ hr.1 (decide_due hs hd)), went⟩
    · exact ⟨_, congrArg Host.Outcome.next (liveWhen_due _ hr.1 (decide_due hs hd)), went⟩

end Sys2Proof.Machine
end

section
/-! An over-current classified by where the drive stands (R125, R128 to R130, R145, R148). -/

namespace Sys2Proof.Machine

/-! ### The notices of a seat -/

/-- In a braking for GOAL a handed goal only comes to hand (R127). -/
theorem handGoal_braking {s : State} {g : Goal} (hs : s.drive.state = .stopping)
    (hc : s.drive.continuation = some .goal) (hg : formGoal s = some g) :
    handGoal s = withDriveGoal (some g) (recordHanding s) := by
  unfold handGoal
  rw [hg]
  cases hh : s.drive.controlledStop with
  | true => exact takeGoal_controlled (s := recordHanding s) hh _
  | false => exact takeGoal_keeps (s := recordHanding s) hh (.inr ⟨hs, by simp [recordHanding, hc]⟩)

/-- What a seat makes the node notice, from a position suspect before or not (R145, notes/assumptions/18.md). -/
def seatNotices (before : Bool) (s : State) : State :=
  if before && !suspect s then endSuspect s
  else if !before && suspect s && acting s != none then handGoal s
  else s

/-- The goal that the end of suspect hands at a seat (R83, R85). -/
def seatedGoal (l : Level) (s : State) : Goal := ⟨l, if l = .demand then s.levels.demandTarget.getD .seat else .seat⟩

/-- At the seat RAIN's ceiling is the seat (R83). -/
theorem rainFormed_seated {s : State} (h : position s = 0) : (rainFormed s).getD .seat = .seat := by
  rw [rainFormed_getD, rainGoal, h]
  simp

theorem formGoal_seated {s : State} {l : Level} (hl : acting s = some l) (hs : suspect s = false) (hr : l ≠ .rain) :
    formGoal s = some (seatedGoal l s) := by
  cases l with
  | rain => exact absurd rfl hr
  | storm => simp [formGoal, hl, seatedGoal]
  | demand => simp [formGoal, hl, seatedGoal, hs]

theorem formGoal_seated_rain {s : State} (hl : acting s = some .rain) (hs : suspect s = false) (hp : position s = 0) :
    formGoal (s.setLevels { s.levels with rainTarget := rainFormed s }) = some (seatedGoal .rain s) := by
  have led : acting (s.setLevels { s.levels with rainTarget := rainFormed s }) = some .rain := hl
  have clear : suspect (s.setLevels { s.levels with rainTarget := rainFormed s }) = false := hs
  simp only [formGoal, led, clear, seatedGoal]
  exact congrArg (fun t => some (Goal.mk .rain t)) (rainFormed_seated hp)

/-- The node at a seat, led by a level, with a goal handed and in hand. -/
def SeatHanded (g : Goal) (s t : State) : Prop :=
  t.levels.handed = some g ∧ t.drive.goal = some g ∧
  t = { s with levels := t.levels, drive := { s.drive with goal := some g } }

section
variable {s : State} (hs : s.drive.state = .stopping) (hc : s.drive.continuation = some .goal)
include hs hc

theorem handGoal_seatHanded {g : Goal} (hg : formGoal s = some g) : SeatHanded g s (handGoal s) := by
  rw [handGoal_braking hs hc hg]
  exact ⟨hg, rfl, rfl⟩

/-- The end of suspect at a seat hands the acting level's own goal (R145, R83, R85). -/
theorem endSuspect_seatHanded {l : Level} (hl : acting s = some l) (clear : suspect s = false) (hp : position s = 0) :
    SeatHanded (seatedGoal l s) s (endSuspect s) := by
  unfold endSuspect
  rw [hl]
  cases l with
  | storm => exact handGoal_seatHanded hs hc (formGoal_seated hl clear nofun)
  | demand => exact handGoal_seatHanded hs hc (formGoal_seated hl clear nofun)
  | rain =>
    exact handGoal_seatHanded (s := s.setLevels { s.levels with rainTarget := rainFormed s }) hs hc
      (formGoal_seated_rain hl clear hp)

/-- The notices of a seat: of the end of suspect, of the onset of one, or none. -/
theorem seatNotices_cases (before : Bool) (hp : position s = 0) :
    (before = suspect s ∨ acting s = none → seatNotices before s = s) ∧
    ∀ l, acting s = some l →
      (before = true → suspect s = false → SeatHanded (seatedGoal l s) s (seatNotices before s)) ∧
      (before = false → suspect s = true → SeatHanded ⟨l, .seat⟩ s (seatNotices before s)) := by
  refine ⟨fun h => ?_, fun l hl => ⟨fun hb clear => ?_, fun hb suspected => ?_⟩⟩
  · unfold seatNotices
    rcases h with rfl | h
    · simp
    · simp [h, endSuspect]
  · simp only [seatNotices, hb, clear, Bool.not_false, Bool.and_true, if_true]
    exact endSuspect_seatHanded hs hc hl clear hp
  · simp only [seatNotices, hb, suspected, hl, Bool.false_and, Bool.not_false, Bool.true_and, Bool.false_eq_true,
      if_false]
    exact handGoal_seatHanded hs hc (formGoal_suspect hl suspected)

theorem seatNotices_frame (before : Bool) (hp : position s = 0) : ∃ levels goal,
    seatNotices before s = { s with levels := levels, drive := { s.drive with goal := goal } } := by
  obtain ⟨quiet, led⟩ := seatNotices_cases hs hc before hp
  by_cases still : before = suspect s ∨ acting s = none
  · exact ⟨_, _, quiet still⟩
  · simp only [not_or] at still
    obtain ⟨turned, acts⟩ := still
    obtain ⟨l, hl⟩ := Option.ne_none_iff_exists'.1 acts
    obtain ⟨ended, begun⟩ := led l hl
    cases hn : suspect s with
    | false =>
      obtain ⟨-, -, frame⟩ := ended (by simpa [hn] using turned) hn
      exact ⟨_, _, frame⟩
    | true =>
      obtain ⟨-, -, frame⟩ := begun (by simpa [hn] using turned) hn
      exact ⟨_, _, frame⟩

end

/-! ### A seat (R125, R148) -/

/-- The sensor is apart from a node at its seat (R151). -/
def apartAtSeat (s : State) : Prop := s.cfg.strokeFitted = true ∧
  s.cfg.mismatch < strokePosition s.pins.stroke.toNat s.cfg.closedReading s.cfg.openReading

/-- The node at a recognised seat, braking, before the notices. -/
def seatFound (reasons : Reasons) (phase : SafePhase) (occasion : Bool) (s : State) : State := { s with
  drive := { s.drive.cleared with
    state := .stopping, stopDl := some (after s.nt 200), continuation := some .goal
    seatRecord := some 0, safePhase := phase }
  pos := { s.pos with
    count := 0, windowStart := s.pos.windowStart - s.pos.count, referenced := true, reasons := reasons
    crossCheckDl := none }
  supply := { s.supply with sagCount := 0, sagTimer := none }, occasion := occasion }

theorem position_zero {s : State} (h : s.pos.count = 0) : position s = 0 := by
  simp [position, h, positionOf, clampInt]

theorem gap_zero_right (a : Nat) : gap a 0 = a := by
  simp only [gap, Nat.le_zero_eq]
  split <;> omega

theorem strokeDisagrees_atSeat {s : State} (hc : s.pos.count = 0) (hr : s.pos.referenced = true) :
    strokeDisagrees s = true ↔ apartAtSeat s := by
  simp [strokeDisagrees_iff, apartAtSeat, position_zero hc, gap_zero_right, hr]

theorem referenceAtSeat_eq (s : State) : ∃ reasons,
    (apartAtSeat s → reasons = Reasons.empty.add .mismatch) ∧ (¬apartAtSeat s → reasons = Reasons.empty) ∧
    referenceAtSeat s = s.setPos { s.pos with
      count := 0, windowStart := s.pos.windowStart - s.pos.count, referenced := true, reasons := reasons } := by
  unfold referenceAtSeat
  dsimp only
  have apart : _ ↔ apartAtSeat s := strokeDisagrees_atSeat (s := s.setPos { s.pos with
    count := 0, windowStart := s.pos.windowStart - s.pos.count, referenced := true, reasons := Reasons.empty }) rfl rfl
  split
  · next h => exact ⟨_, fun _ => rfl, fun k => absurd (apart.1 h) k, rfl⟩
  · next h => exact ⟨_, fun k => absurd (apart.2 k) h, fun _ => rfl, rfl⟩

/-- The Position Tracker at a seat, with the occasion of a reported position far from the last (R144, R148). -/
def seatReached (s : State) : State :=
  if position (referenceAtSeat s) ≠ position s ∧
    20 ≤ gap (position (referenceAtSeat s)) (referenceAtSeat s).pos.lastReported
  then noteOccasion (referenceAtSeat s) else referenceAtSeat s

/-- The drive of a seat brakes (R125). -/
def seatBraked (s : State) : State :=
  enterStopping .goal (moveEnded (s.setDrive { s.drive with
    seatRecord := some (position s)
    safePhase := if s.drive.safePhase = .seating then .ended else s.drive.safePhase }))

theorem recogniseSeat_notices (s : State) :
    recogniseSeat s = seatNotices (suspect s) (seatBraked (seatReached s)) := by
  unfold recogniseSeat seatNotices
  rfl

theorem seatBraked_eq {s : State} (h : s.pos.count = 0) : ∃ phase, seatBraked s = { s with
    drive := { s.drive.cleared with
      state := .stopping, stopDl := some (after s.nt 200), continuation := some .goal
      seatRecord := some 0, safePhase := phase }
    pos := { s.pos with crossCheckDl := none }
    supply := { s.supply with sagCount := 0, sagTimer := none } } := by
  unfold seatBraked
  rw [position_zero h, enterStopping_stops]
  generalize (if s.drive.safePhase = .seating then SafePhase.ended else s.drive.safePhase) = phase
  exact ⟨phase, rfl⟩

theorem recogniseSeat_eq (s : State) : ∃ reasons phase occasion,
    (apartAtSeat s → reasons = Reasons.empty.add .mismatch) ∧ (¬apartAtSeat s → reasons = Reasons.empty) ∧
    recogniseSeat s = seatNotices (suspect s) (seatFound reasons phase occasion s) := by
  obtain ⟨reasons, apart, agrees, referenced⟩ := referenceAtSeat_eq s
  have reached : ∃ occasion, seatReached s = { s with
      pos := { s.pos with
        count := 0, windowStart := s.pos.windowStart - s.pos.count, referenced := true, reasons := reasons }
      occasion := occasion } := by
    unfold seatReached
    rw [referenced]
    split <;> exact ⟨_, rfl⟩
  obtain ⟨occasion, reached⟩ := reached
  obtain ⟨phase, braked⟩ := seatBraked_eq (s := seatReached s) (by rw [reached])
  refine ⟨reasons, phase, occasion, apart, agrees, ?_⟩
  rw [recogniseSeat_notices, braked, reached]
  rfl

/-- In the state of a seat neither an obstruction nor the end of a backoff is recognised (R128). -/
theorem Detected.ofSeat {s t : State} (h : s.drive.state = .seating ∨ (s.drive.state ≠ .backoff ∧
      s.drive.dir = some .closing ∧ s.pos.count ≤ (s.cfg.seatBand : Int)))
    (stops : t.drive.state = .stopping ∧ t.drive.stopDl = some (after s.nt 200))
    (seat : t.drive.continuation = some .goal ∧ t.drive.seatRecord = some 0 ∧ t.supply.sagCount = 0 ∧
      t.pos.count = 0 ∧ t.pos.windowStart = s.pos.windowStart - s.pos.count ∧ t.pos.referenced = true ∧
      (¬apartAtSeat s → suspect t = false) ∧ (apartAtSeat s → t.pos.reasons = Reasons.empty.add .mismatch) ∧
      t.drive.retry = s.drive.retry ∧
      ((suspect s = true ↔ apartAtSeat s) ∨ acting s = none → t.levels = s.levels ∧ t.drive.goal = s.drive.goal) ∧
      (∀ l, acting s = some l →
        (suspect s = true → ¬apartAtSeat s →
          t.levels.handed = some (seatedGoal l s) ∧ t.drive.goal = some (seatedGoal l s)) ∧
        (suspect s = false → apartAtSeat s → t.levels.handed = some ⟨l, .seat⟩ ∧ t.drive.goal = some ⟨l, .seat⟩))) :
    Detected s t := by
  obtain ⟨stopping, deadline⟩ := stops
  refine ⟨stopping, deadline, fun _ => seat, fun moves => ?_, fun backs => ?_⟩
  · rcases h with h | ⟨-, closing, near⟩
    · simp [h] at moves
    · exact ⟨fun _ far => absurd near (Int.not_le.2 far), fun opens => by simp [closing] at opens⟩
  · simp [backs] at h

/-- A seat is what R125 and R148 say. -/
theorem recogniseSeat_detected {s : State} (h : s.drive.state = .seating ∨ (s.drive.state ≠ .backoff ∧
    s.drive.dir = some .closing ∧ s.pos.count ≤ (s.cfg.seatBand : Int))) : Detected s (recogniseSeat s) := by
  obtain ⟨reasons, phase, occasion, apart, agrees, ht⟩ := recogniseSeat_eq s
  rw [ht]
  have suspected : suspect (seatFound reasons phase occasion s) = true ↔ apartAtSeat s := by
    change reasons.any = true ↔ _
    refine ⟨fun k => ?_, fun k => by rw [apart k]; rfl⟩
    by_contra agree
    rw [agrees agree] at k
    cases k
  have clear : suspect (seatFound reasons phase occasion s) = false ↔ ¬apartAtSeat s := by
    rw [← suspected, Bool.not_eq_true]
  obtain ⟨quiet, led⟩ := seatNotices_cases (s := seatFound reasons phase occasion s) rfl rfl (suspect s)
    (position_zero rfl)
  obtain ⟨levels, goal, kept⟩ := seatNotices_frame (s := seatFound reasons phase occasion s) rfl rfl (suspect s)
    (position_zero rfl)
  rw [kept] at quiet led ⊢
  refine .ofSeat h ⟨rfl, rfl⟩ ⟨rfl, rfl, rfl, rfl, rfl, rfl, clear.2, apart, rfl, fun still => ?_, fun l hl => ?_⟩
  · have same := quiet (still.imp_left fun k => Bool.eq_iff_iff.2 (k.trans suspected.symm))
    exact ⟨(congrArg State.levels same :), (congrArg (fun u => u.drive.goal) same :)⟩
  · obtain ⟨ended, begun⟩ := led l hl
    refine ⟨fun k agree => ?_, fun k noticed => ?_⟩
    · obtain ⟨handed, inHand, -⟩ := ended k (clear.2 agree)
      exact ⟨handed, inHand⟩
    · obtain ⟨handed, inHand, -⟩ := begun k (suspected.2 noticed)
      exact ⟨handed, inHand⟩

/-! ### The classification (R128 to R130) -/

theorem Detected.committed {s n : State} (h : Detected s n) : Detected s (commit s n) := by
  rw [commit_frame]
  exact h

theorem recogniseObstruction_eq {s : State} (h : s.drive.retry ≤ s.cfg.retryLimit) : recogniseObstruction s =
    enterStopping (if s.drive.dir = some .opening then .verdict else .backoff)
      (s.setDrive { s.drive with retry := s.drive.retry + 1 }) := by
  unfold recogniseObstruction
  rw [Nat.min_eq_right (Nat.succ_le_succ h)]
  rcases s.drive.dir with _ | _ | _ <;> rfl

/-- An obstruction is what R129 says. -/
theorem recogniseObstruction_detected {s : State} (hr : s.drive.retry ≤ s.cfg.retryLimit) (hs : testsRun s)
    (far : ¬(s.drive.dir = some .closing ∧ s.pos.count ≤ (s.cfg.seatBand : Int))) :
    Detected s (recogniseObstruction s) := by
  rw [recogniseObstruction_eq hr, enterStopping_stops]
  refine ⟨rfl, rfl, fun seat => ?_, fun _ => ⟨fun closing _ => ⟨?_, rfl, rfl⟩, fun opening => ⟨?_, rfl, rfl⟩⟩,
    fun backs => ?_⟩
  · rcases seat with seating | ⟨-, near⟩
    · simp [testsRun, seating] at hs
    · exact absurd near far
  · simp [closing]
  · simp [opening]
  · simp [testsRun, backs] at hs

theorem movingDetection_detected {s : State} (hr : s.drive.retry ≤ s.cfg.retryLimit) (hs : testsRun s) :
    Detected s (detection.movingDetection s) := by
  unfold detection.movingDetection
  split
  · next near =>
    refine recogniseSeat_detected (.inr ⟨fun backs => ?_, near⟩)
    simp [testsRun, backs] at hs
  · next far => exact recogniseObstruction_detected hr hs far

/-- A detection in an energised state (R128). -/
theorem detection_detected {s : State} (he : s.drive.state.energised = true)
    (hr : s.drive.retry ≤ s.cfg.retryLimit) : Detected s (detection s) := by
  unfold detection
  split
  · next h => exact recogniseSeat_detected (.inl h)
  · next h =>
    rw [enterStopping_stops]
    exact ⟨rfl, rfl, fun k => by simp [h] at k, fun k => by simp [h] at k, fun _ => ⟨rfl, rfl, rfl⟩⟩
  · next h => exact movingDetection_detected hr (.inl h)
  · next h => exact movingDetection_detected hr (.inr (.inl h))
  · next h => exact movingDetection_detected hr (.inr (.inr h))
  · next seating backoff ramp travel approach =>
    cases hs : s.drive.state with
    | seating => exact absurd hs seating
    | backoff => exact absurd hs backoff
    | ramp => exact absurd hs ramp
    | travel => exact absurd hs travel
    | approach => exact absurd hs approach
    | _ => rw [hs] at he; cases he

/-- Settles O50. -/
theorem overCurrentIsClassified : Obligations.OverCurrentIsClassified := by
  intro s since hr he ht hage hretry
  have dueNow : overCurrentDue s = true := (overCurrentDue_iff s).2 ⟨he, since, ht, hage⟩
  have energised : s.drive.state.energised = true := by
    simp only [Sys2Proof.Machine.energised, Bool.and_eq_true] at he
    exact he.2
  exact ⟨_, congrArg Host.Outcome.next (liveWhen_due _ hr.1 dueNow), (detection_detected energised hretry).committed⟩

end Sys2Proof.Machine
end

section
/-! The end of a warning, the ramp steps, and the tests of the position at a change of the count (R122 to R124, R126,
R134, R144). -/

namespace Sys2Proof.Machine

/-! ### What the tests of the position leave -/

theorem PositionTested.ends {g : Goal} {dir : Dir} {count : Int} {on : DriveState} {s n t : State}
    (h : PositionTested g dir count on s n) (e : EndsAs n t) : PositionTested g dir count on s t := by
  obtain ⟨r, f, hd⟩ := e.drive
  obtain ⟨p, hp⟩ := e.pos
  show PositionTested g dir count on s { n with drive := t.drive, pos := t.pos, supply := t.supply }
  rw [hd, hp, e.supply]
  exact h

section
variable {s : State} {g : Goal} {dir : Dir} (hg : s.drive.goal = some g) (hd : s.drive.dir = some dir)
  (hs : testsRun s)
include hg hd hs

theorem positionTests_reports : (positionTests s).occasion = s.occasion ∧
    (positionTests s).drive.refreshDl = s.drive.refreshDl := by
  rcases positionTests_cases hg hd hs with ⟨-, ht⟩ | ⟨-, ht⟩ | ⟨-, -, ⟨-, -, ht⟩ | ⟨-, ht⟩⟩ <;> rw [ht]
  · rw [enterSeating_eq]; exact ⟨rfl, rfl⟩
  · rw [arrive_eq]; exact ⟨rfl, rfl⟩
  · rw [enterApproach_eq]; exact ⟨rfl, rfl⟩
  · exact ⟨rfl, rfl⟩

/-- Tests that leave the drive's state change nothing. -/
theorem positionTests_stays (h : (positionTests s).drive.state = s.drive.state) : positionTests s = s := by
  rcases positionTests_cases hg hd hs with ⟨-, ht⟩ | ⟨-, ht⟩ | ⟨-, -, ⟨-, early, ht⟩ | ⟨-, ht⟩⟩ <;> rw [ht] at h
  · have seating : s.drive.state = .seating := h.symm
    simp [testsRun, seating] at hs
  · have stopping : s.drive.state = .stopping := h.symm
    simp [testsRun, stopping] at hs
  · exact absurd (show s.drive.state = .approach from h.symm) early
  · exact ht

/-- The tests of the position lead to no rest and to no backoff. -/
theorem positionTests_moves_on : (positionTests s).drive.state ≠ .backoff ∧ (positionTests s).drive.state ≠ .idle := by
  rcases positionTests_cases hg hd hs with ⟨-, ht⟩ | ⟨-, ht⟩ | ⟨-, -, ⟨-, -, ht⟩ | ⟨-, ht⟩⟩ <;> rw [ht]
  · rw [enterSeating_eq]; exact ⟨nofun, nofun⟩
  · rw [arrive_eq]; exact ⟨nofun, nofun⟩
  · rw [enterApproach_eq]; exact ⟨nofun, nofun⟩
  · constructor <;> intro h <;> simp [testsRun, h] at hs

/-- In a drive that tests its position a change of the count brings these tests and no others (R144). -/
theorem countChanged_tests (before : Nat) :
    ∃ occasion, countChanged before s = { positionTests s with occasion := occasion } := by
  obtain ⟨noBackoff, noRest⟩ := positionTests_moves_on hg hd hs
  have goesOn : backoffTest (positionTests s) = positionTests s := if_neg fun h => noBackoff h.1
  have noDrift : driftTest (positionTests s) = positionTests s := by
    unfold driftTest
    split
    · rfl
    · simp [noRest]
  unfold countChanged
  dsimp only
  rw [goesOn, noDrift]
  split
  · exact ⟨_, rfl⟩
  · split <;> exact ⟨_, rfl⟩

end

/-! ### The end of a warning -/

/-- An entry into RAMP that moves is an occasion for a STATE (R38), and leaves the running refresh. -/
theorem enterRamp_reports {s : State} {g : Goal} (hg : s.drive.goal = some g)
    (h : suspect s = true → g.target = .seat) :
    (enterRamp s).occasion = true ∧ (enterRamp s).drive.refreshDl = s.drive.refreshDl := by
  rw [enterRamp_begins hg fun ⟨suspected, opens⟩ => opens (h suspected)]
  obtain ⟨u, runs, goal, dir, ht, hu⟩ := rampBegun_goesOn g hg
  obtain ⟨occasion, refresh⟩ := positionTests_reports goal dir runs
  rw [ht, occasion, refresh]
  rcases hu with ⟨rfl, -⟩ | ⟨rfl, -⟩ <;> exact ⟨rfl, rfl⟩

/-- A report of what a command made of `s` is one of `s`, where the command left what the report reads. -/
theorem Reported.of_made {s u t : State} (h : Reported u t) (hn : u.nt = s.nt) (hl : u.line = s.line)
    (hr : u.drive.refreshDl = s.drive.refreshDl)
    (hp : refusesPlacement .state u = refusesPlacement .state s) : Reported s t := by
  obtain ⟨last, refresh, line, others, placed⟩ := h
  rw [hn, hr] at refresh
  rw [hl] at line others placed
  rw [hp] at placed
  exact ⟨last, refresh, line, others, placed⟩

theorem commit_enterRamp_reported {s : State} {g : Goal} (hs : s.safe = false) (hg : s.drive.goal = some g)
    (h : suspect s = true → g.target = .seat) : Reported s (commit s (enterRamp s)) := by
  obtain ⟨occasion, refresh⟩ := enterRamp_reports hg h
  obtain ⟨d, check, timer, count, o, moved⟩ := enterRamp_moved s
  have reported : Reported (enterRamp s) _ := commit_reported s _ (by rw [moved]; exact hs) (.inl occasion)
  exact reported.of_made (by rw [moved]) (by rw [moved]) refresh (by rw [moved]; rfl)

/-! ### The ramp steps -/

theorem takeRampStep_ramps {s : State} {d : Time} (hd : s.drive.rampStepDl = some d)
    (h : s.drive.duty + s.cfg.rampStep < s.cfg.travelDuty) : takeRampStep s = { s with
      drive := { s.drive with duty := s.drive.duty + s.cfg.rampStep, rampStepDl := some (after d 20) } } := by
  unfold takeRampStep rampToTravel
  rw [Nat.min_eq_right (Nat.le_of_lt h), hd]
  exact if_neg fun k => absurd h (Nat.not_lt.2 k.2)

theorem takeRampStep_travels {s : State} (hs : s.drive.state = .ramp)
    (h : s.cfg.travelDuty ≤ s.drive.duty + s.cfg.rampStep) : takeRampStep s = positionTests (travelBegun s) := by
  unfold takeRampStep rampToTravel
  rw [Nat.min_eq_left h]
  exact if_pos ⟨hs, Nat.le_refl _⟩

/-- TRAVEL begun out of RAMP is neither reported nor mirrored. -/
theorem commit_travelBegun {s : State} (hr : Ready s) (hs : s.drive.state = .ramp) :
    commit s (travelBegun s) = travelBegun s := by
  obtain ⟨-, noOccasion, mirrors⟩ := hr
  refine commit_quiet noOccasion ?_ (mirrors.keep rfl ?_)
  · simp [reportedFields, motion, travelBegun, acting, suspect, hs]
  · simp [mirrored, travelBegun, hs, DriveState.inMotion, DriveState.energised]

/-- Settles O46: the end of the warning, the ramp steps below and at the travel duty, and the change of the count. -/
theorem warningEndsInRampAndTravel : Obligations.WarningEndsInRampAndTravel := by
  intro s g hr safe hg
  refine ⟨fun hs phase late => ?_, fun d hs hd late => ⟨fun slow => ?_, fun fast dir hdir => ?_⟩,
    fun pair dir one => ?_⟩
  · refine ⟨_, (exec_warningDeadline hr.1 hs late).trans (by rw [if_neg phase]),
      (enterRamp_entered hg).ends (commit_ends _ _), ?_, commit_enterRamp_reported safe hg, fun on => ?_⟩
    · obtain ⟨d, check, timer, count, o, moved⟩ := enterRamp_moved s
      rw [commit_levels, moved]
    · obtain ⟨d, check, timer, count, o, moved⟩ := enterRamp_moved s
      have power : (commit s (enterRamp s)).power = true := by
        rw [commit_frame, moved]
        exact hr.1
      rw [energised, power, on]
      rfl
  · have stepDue : rampStepDue s = true := decide_due hs (by simpa [due, hd] using late)
    exact congrArg Host.Outcome.next (liveWhen_quiet hr stepDue (takeRampStep_ramps hd slow) rfl rfl rfl rfl)
  · have stepDue : rampStepDue s = true := decide_due hs (by simpa [due, hd] using late)
    have runs : testsRun (travelBegun s) := .inr (.inl rfl)
    have tested : PositionTested g dir s.pos.count .travel s (positionTests (travelBegun s)) :=
      positionTests_tested (s := travelBegun s) hg hdir runs
    refine ⟨_, congrArg Host.Outcome.next ((liveWhen_due _ hr.1 stepDue).trans
      (congrArg (commit s) (takeRampStep_travels hs fast))), tested.ends (commit_ends _ _), fun on noCheck => ?_⟩
    rw [commit_drive] at on
    rw [positionTests_stays (s := travelBegun s) hg hdir runs on, commit_travelBegun hr hs, travelBegun, ← noCheck]
  · intro n below above hdir hs
    have steps : oneChannel s.pos.hall pair = true := (oneChannel_iff _ _).2 one
    have inside : takeStep pair s = countChanged (position s) (stepCounted pair s) := by
      have counted : steppedCount s.pos.hall pair s.pos.count = n := rfl
      rw [takeStep_eq]
      dsimp only
      rw [counted, if_neg (by omega), if_neg (by omega)]
    have runs : testsRun (stepCounted pair s) := hs
    obtain ⟨o, changed⟩ := countChanged_tests (s := stepCounted pair s) hg hdir runs (position s)
    have tested : PositionTested g dir n s.drive.state s (takeStep pair s) := by
      rw [inside, changed]
      exact positionTests_tested (s := stepCounted pair s) hg hdir runs
    refine ⟨_, congrArg Host.Outcome.next ((if_pos hr.1).trans (liveWhen_due _ hr.1 steps)),
      tested.ends (commit_ends _ _), fun still => ?_⟩
    have same : (takeStep pair s).drive = s.drive := by
      rw [commit_drive, inside, changed] at still
      rw [inside, changed]
      exact (congrArg State.drive (positionTests_stays (s := stepCounted pair s) hg hdir runs still) :)
    rw [commit_drive, same]

end Sys2Proof.Machine
end

section
/-! The end of a braking, by the continuation, the goal in hand, the marks and the held notices (R127, Figure 7-3), and
the one in the safe profile (R163). -/

namespace Sys2Proof.Machine

/-! ### Where the continuation leads -/

/-- In the states of these cases of Figure 7-3 a braking ends in IDLE. -/
def Rests (c : Continuation) (s : State) : Prop := s.drive.goal = none ∨ c = .halt ∨
  ((c = .goal ∨ c = .yield ∨ (c = .verdict ∧ s.drive.retry ≤ s.cfg.retryLimit ∧ s.drive.yieldMark = true)) ∧
    ∃ g, s.drive.goal = some g ∧ needsMotion g s = false)

section
variable {s : State}

theorem endBraking_rests {c : Continuation} (hc : s.drive.continuation = some c) (h : Rests c s) :
    endBraking s = enterIdle s := by
  rcases h with hg | rfl | ⟨hc', g, hg, hm⟩
  · cases c <;> simp [endBraking, afterBraking, verdict, afterSag, hc, hg]
  · simp [endBraking, hc]
  · rcases hc' with rfl | rfl | ⟨rfl, within, yields⟩
    · simp [endBraking, afterBraking, hc, hg, hm]
    · simp [endBraking, afterBraking, hc, hg, hm]
    · simp [endBraking, verdict, waitOrIdle, hc, hg, hm, yields, Nat.not_lt.2 within]

variable {g : Goal} (hg : s.drive.goal = some g)
include hg

theorem endBraking_ramps (hc : s.drive.continuation = some .goal) (hm : needsMotion g s = true) :
    endBraking s = enterRamp s := by
  simp [endBraking, afterBraking, hc, hg, hm]

theorem endBraking_yields (hc : s.drive.continuation = some .yield) (hm : needsMotion g s = true) :
    endBraking s = enterWaitSlot s := by
  simp [endBraking, afterBraking, hc, hg, hm]

theorem endBraking_backs (hc : s.drive.continuation = some .backoff) : endBraking s = enterBackoff s := by
  simp [endBraking, hc, hg]

theorem endBraking_asks (hc : s.drive.continuation = some .verdict) (within : s.drive.retry ≤ s.cfg.retryLimit)
    (yields : s.drive.yieldMark = true) (hm : needsMotion g s = true) : endBraking s = enterWaitSlot s := by
  simp [endBraking, verdict, hc, hg, yields, Nat.not_lt.2 within, waitOrIdle_asks hg hm]

theorem endBraking_sags (hc : s.drive.continuation = some .sag)
    (h : s.drive.obstructionPending = false ∨ s.drive.retry ≤ s.cfg.retryLimit) : endBraking s = enterSagWait s := by
  have goesOn : ¬(s.drive.obstructionPending && decide (s.cfg.retryLimit < s.drive.retry)) = true := by
    rcases h with h | h <;> simp [h]
  simp [endBraking, afterSag, hc, hg, goesOn]

/-- A VERDICT blocks or waits, a sag with an obstruction pending above the limit blocks (R136, R137). -/
theorem endBraking_waits (h : (s.drive.continuation = some .verdict ∧
      (s.cfg.retryLimit < s.drive.retry ∨ s.drive.yieldMark = false)) ∨
      (s.drive.continuation = some .sag ∧ s.drive.obstructionPending = true ∧ s.cfg.retryLimit < s.drive.retry)) :
    endBraking s = if s.cfg.retryLimit < s.drive.retry then enterBlocked s else enterRetryWait s := by
  rcases h with ⟨hc, above | unmarked⟩ | ⟨hc, pending, above⟩
  · simp [endBraking, verdict, hc, hg, above]
  · simp [endBraking, verdict, hc, hg, unmarked]
  · simp [endBraking, afterSag, hc, hg, pending, above]

end

/-! ### The states entered -/

theorem enterBackoff_eq {s : State} (h : 0 < s.cfg.backoff) : enterBackoff s = { s with
    drive := { s.drive.cleared with
      state := .backoff, dir := some .opening, duty := s.cfg.creepDuty, backoffOrigin := s.pos.count
      backoffDl := some (after s.nt 3000), checkStart := some (after s.nt 300), seatRecord := none
      pattern := movingPattern s, patternStart := s.nt }
    pos := { s.pos with crossCheckDl := none }, occasion := true } := by
  unfold enterBackoff
  dsimp only
  rw [moveDrive_energised rfl]
  exact if_neg fun k => absurd (show s.pos.count + (s.cfg.backoff : Int) ≤ s.pos.count from k.2) (by omega)

/-- The node in a wait that a braking led to, the supply left (R110, R111). -/
def waiting (d : Drive) (occasion : Bool) (s : State) : State := { s with
  drive := d, line := (leaveSupply s).line, supply := { (leaveSupply s).supply with sagTimer := none }
  pos := { s.pos with crossCheckDl := none }, occasion := occasion }

theorem moveDrive_waits {d : Drive} (h1 : d.state.energised = false) (h2 : d.state ≠ .idle) (s : State) :
    moveDrive d (leaveSupply s) = waiting d s.occasion s := by
  rw [leaveSupply_eq]
  simp only [moveDrive, h1, h2, if_false, Bool.false_eq_true]
  rfl

/-- The drive in RETRY_WAIT (R131). -/
def retryDrive (s : State) : Drive := { s.drive.cleared.unmarked with
  state := .retryWait, retryDl := some (after s.nt (1000 * s.cfg.retryDelay)) }

/-- The drive in BLOCKED (R132). -/
def blockedDrive (s : State) : Drive := { s.drive.cleared.unmarked with
  state := .blocked, pattern := some .fault, patternStart := s.nt }

theorem enterSagWait_eq (s : State) : enterSagWait s = waiting { s.drive.cleared.unmarked with
    state := .sagWait, holdoffDl := some (after s.nt s.drive.holdoff) } s.occasion s := by
  unfold enterSagWait
  dsimp only
  rw [moveDrive_waits rfl (by simp), leaveSupply_eq]

theorem enterRetryWait_eq (s : State) : enterRetryWait s =
    if s.drive.heldChange then forgiveAndGo (waiting (retryDrive s) s.occasion s)
    else if s.drive.heldClose then waitOrIdle (waiting (retryDrive s) s.occasion s)
    else waiting (retryDrive s) s.occasion s := by
  unfold enterRetryWait
  dsimp only
  rw [moveDrive_waits rfl (by simp), leaveSupply_eq]
  rfl

theorem enterBlocked_eq (s : State) : enterBlocked s =
    if s.drive.heldChange then forgiveAndGo (waiting (blockedDrive s) true s)
    else if s.drive.heldClose then forgiveAndGo (waiting (blockedDrive s) true s)
    else waiting (blockedDrive s) true s := by
  unfold enterBlocked
  dsimp only
  rw [moveDrive_waits rfl (by simp), leaveSupply_eq]
  rfl

/-! ### A wait that goes on at once -/

theorem waiting_entries {s : State} (d : Drive) (occasion : Bool) (h : EntriesLawful s) :
    EntriesLawful (waiting d occasion s) := by
  have left := (leaveSupply_moves s).entries h
  rw [leaveSupply_eq] at left
  exact left

/-- The part of the drive that no passage of a braking into a wait changes. -/
def GoalKept (d : Drive) (s : State) : Prop :=
  d.goal = s.drive.goal ∧ d.seatRecord = s.drive.seatRecord ∧ d.controlledStop = s.drive.controlledStop

section
variable {s t : State} {d : Drive} {occasion : Bool} (hd : GoalKept d s)
include hd

theorem needsMotion_waiting (g : Goal) : needsMotion g (waiting d occasion s) = needsMotion g s := by
  obtain ⟨-, record, -⟩ := hd
  unfold needsMotion
  rw [show (waiting d occasion s).drive.seatRecord = s.drive.seatRecord from record]
  rfl

theorem CameToRest.of_waiting (h : CameToRest (waiting d occasion s) t) : CameToRest s t := by
  obtain ⟨retry, yield, change, close, running, count, zero, apart, agrees, hold, stays, hands⟩ := h
  have lawful := waiting_entries (s := s) d occasion
  refine ⟨retry, yield, change, close, running ∘ lawful, count, zero, apart, agrees, hold, fun k => ?_,
    fun l far clear led => ?_⟩
  · obtain ⟨⟨state, admission, own, check⟩, goal, handed⟩ := stays k
    exact ⟨⟨state, admission, own ∘ lawful, check⟩, goal.trans hd.1, handed⟩
  · obtain ⟨goal, handed, rests, asks⟩ := hands l far clear led
    rw [needsMotion_waiting hd] at rests asks
    rw [show (waiting d occasion s).drive.controlledStop = s.drive.controlledStop from hd.2.2] at rests asks
    refine ⟨goal, handed, fun k => ?_, asks⟩
    obtain ⟨state, admission, own, check⟩ := rests k
    exact ⟨state, admission, own ∘ lawful, check⟩

theorem WentOn.of_waiting {retry : Nat} (h : WentOn retry (waiting d occasion s) t) : WentOn retry s t := by
  obtain ⟨asks, rests⟩ := h
  have inHand : (waiting d occasion s).drive.goal = s.drive.goal := hd.1
  simp only [needsMotion_waiting hd, inHand] at asks rests
  exact ⟨asks, fun k => (rests k).of_waiting hd⟩

theorem forgiveAndGo_waiting : WentOn 0 s (forgiveAndGo (waiting d occasion s)) := by
  have unadmitted : (waiting d occasion s).supply.admission ≠ .admitted := by
    show (leaveSupply s).supply.admission ≠ _
    simp [leaveSupply_admission]
  exact (forgiveAndGo_went unadmitted).of_waiting hd

theorem waitOrIdle_waiting : WentOn d.retry s (waitOrIdle (waiting d occasion s)) := by
  have unadmitted : (waiting d occasion s).supply.admission ≠ .admitted := by
    show (leaveSupply s).supply.admission ≠ _
    simp [leaveSupply_admission]
  exact (waitOrIdle_went unadmitted).of_waiting hd

end

end Sys2Proof.Machine
end

section
/-! A braking ended in the safe profile (R163), and the statement. -/

namespace Sys2Proof.Machine

/-! ### The command -/

section
variable {s : State} (hp : s.power = true) (hs : s.drive.state = .stopping) (hd : due s.nt s.drive.stopDl = true)
include hp hs hd

theorem exec_stopDeadline : exec .stopDeadline s = .next (commit s (beginSafeSeat (endBraking s))) :=
  congrArg Host.Outcome.next (liveWhen_due _ hp (decide_due hs hd))

/-- Outside the safe profile no seat begins at the end of a braking (R163). -/
theorem exec_stopDeadline_unsafe (safe : s.safe = false) :
    exec .stopDeadline s = .next (commit s (endBraking s)) := by
  have unsafeStill : (endBraking s).safe = false := (endBraking_runs s).safe.trans safe
  rw [exec_stopDeadline hp hs hd, beginSafeSeat, if_neg (by simp [unsafeStill])]

end

theorem gates_cameToRest {s t : State} (h : CameToRest s t) : gates t = ⟨.off, .off, .off, .off⟩ := by
  refine gates_at_rest ?_
  rcases h.state with k | k <;> rw [k] <;> rfl

/-! ### The safe profile -/

/-- In the safe profile the node sends nothing when it leaves the supply (R35, R116). -/
theorem leaveSupply_line_safe {s : State} (h : s.safe = true) : (leaveSupply s).line = s.line := by
  have cancelled : (cancelRequest s).line = s.line := by
    unfold cancelRequest
    split
    · rfl
    · rw [place_refused (by simp [refusesPlacement, h])]
      rfl
  unfold leaveSupply
  split
  case h_1 | h_4 => rfl
  case h_2 | h_3 => exact cancelled

/-- The reasons after the comparison that an entry into IDLE makes (R151). -/
def comparedReasons (s : State) : Reasons :=
  if strokeDisagrees s then s.pos.reasons.add .mismatch else s.pos.reasons

theorem enterIdle_safe {s : State} (h : s.safe = true) (ha : acting s = none) : ∃ supply, enterIdle s = { s with
    supply := supply
    drive := { s.drive.cleared.unmarked with state := .idle, retry := 0 }
    pos := { s.pos with reasons := comparedReasons s, crossCheckDl := some (after s.nt 10000) } } := by
  refine ⟨{ (leaveSupply s).supply with sagTimer := none }, ?_⟩
  rw [enterIdle_rests (.inr (.inr ha)), restInIdle_eq, leaveSupply_line_safe h, if_pos ha, comparedReasons]
  split
  · simp [putReason, Reason.losesZero]
    rfl
  · rfl

theorem beginSafeSeat_safe {s : State} (h1 : s.safe = true) (h2 : s.listen = false)
    (h3 : s.levels.serviceHold = false) (h4 : s.drive.safePhase = .notBegun) (h5 : s.drive.state = .idle)
    (h6 : s.drive.controlledStop = false) : beginSafeSeat s = { s with
      drive := { s.drive.cleared with
        state := .warning, safePhase := .warning, pattern := some .warn, patternStart := s.nt
        warningDl := some (after s.nt 3000) }
      pos := { s.pos with crossCheckDl := none }, supply := { s.supply with sagTimer := none } } := by
  exact if_pos (by simp [h1, h2, h3, h4, h5, h6])

/-- A seat that was begun, or that hold, LISTEN or a controlled stop forbids, does not begin (R163). -/
theorem beginSafeSeat_still {s : State} (h : s.drive.safePhase ≠ .notBegun ∨ s.levels.serviceHold = true ∨
    s.listen = true ∨ s.drive.controlledStop = true) : beginSafeSeat s = s := by
  refine if_neg ?_
  rcases h with h | h | h | h <;> simp [h]

theorem commit_pos_safe {s t : State} (h : t.safe = true) : (commit s t).pos = t.pos := by
  simp only [commit, h, Bool.not_true, Bool.false_and, Bool.false_eq_true, if_false]
  rfl

/-- The end of the safe seat's braking: rest, from which a seat called for begins anew (R163). -/
theorem commit_safeSeat {s : State} (safe : s.safe = true) (ha : acting s = none) :
    let t := commit s (beginSafeSeat (enterIdle s))
    t.line = s.line ∧ gates t = ⟨.off, .off, .off, .off⟩ ∧
    (s.drive.safePhase ≠ .notBegun ∨ s.levels.serviceHold = true ∨ s.listen = true ∨ s.drive.controlledStop = true →
      CameToRest s t ∧ t.drive.state = .idle ∧ t.drive.safePhase = s.drive.safePhase) ∧
    (s.drive.safePhase = .notBegun → s.levels.serviceHold = false → s.listen = false →
      s.drive.controlledStop = false → t.drive.state = .warning ∧ t.drive.safePhase = .warning ∧
        t.drive.pattern = some .warn ∧ t.drive.patternStart = s.nt ∧ t.drive.warningDl = some (after s.nt 3000) ∧
        t.pos = { s.pos with reasons := comparedReasons s, crossCheckDl := none }) := by
  intro t
  have rests := enterIdle_cameToRest s
  obtain ⟨supply, rest⟩ := enterIdle_safe safe ha
  by_cases still : s.drive.safePhase ≠ .notBegun ∨ s.levels.serviceHold = true ∨ s.listen = true ∨
      s.drive.controlledStop = true
  · have stays : beginSafeSeat (enterIdle s) = enterIdle s := beginSafeSeat_still (by rw [rest]; exact still)
    have came : CameToRest s t := by
      show CameToRest s (commit s _)
      rw [stays]
      exact rests.ends (commit_ends _ _)
    have drive : t.drive = (enterIdle s).drive := by
      show (commit s _).drive = _
      rw [stays]
      exact commit_drive_safe (by rw [rest]; exact safe)
    refine ⟨?_, gates_cameToRest came, fun _ => ⟨came, ?_, ?_⟩, fun a b c d => ?_⟩
    · show (commit s _).line = _
      rw [stays, commit_line_safe (by rw [rest]; exact safe), rest]
    · rw [drive, rest]
    · rw [drive, rest]
      rfl
    · simp [a, b, c, d] at still
  · have called := still
    simp only [not_or, not_not, Bool.not_eq_true] at called
    obtain ⟨phase, hold, listen, stop⟩ := called
    have begins := beginSafeSeat_safe (s := enterIdle s) (by rw [rest]; exact safe) (by rw [rest]; exact listen)
      (by rw [rest]; exact hold) (by rw [rest]; exact phase) (by rw [rest]) (by rw [rest]; exact stop)
    have stillSafe : (beginSafeSeat (enterIdle s)).safe = true := by
      rw [begins, rest]
      exact safe
    have drive : t.drive = _ := (commit_drive_safe stillSafe).trans (congrArg State.drive begins)
    have pos : t.pos = _ := (commit_pos_safe stillSafe).trans (congrArg State.pos begins)
    have line : t.line = _ := (commit_line_safe stillSafe).trans (congrArg State.line begins)
    rw [rest] at drive pos line
    refine ⟨line, gates_at_rest (by rw [drive]; rfl), fun k => absurd k still, fun _ _ _ _ => ?_⟩
    rw [drive, pos]
    exact ⟨rfl, rfl, rfl, rfl, rfl, rfl⟩

/-! ### The statement -/

section
variable {s : State} (stops : ∀ {t}, endBraking s = t → exec .stopDeadline s = .next (commit s t))
include stops

/-- The end of a braking that leads to a request for the supply (Figure 7-3). -/
theorem stopDeadline_asks {g : Goal} (safe : s.safe = false) (hg : s.drive.goal = some g)
    (he : endBraking s = enterWaitSlot s) (ha : s.supply.admission = .none) :
    ∃ t, exec .stopDeadline s = .next t ∧ t.drive.state = .waitSlot ∧ t.supply.admission = .settling ∧
      t.supply.own = some (g.level, requestDir g s) ∧ t.drive.retry = s.drive.retry ∧ t.drive.yieldMark = false := by
  obtain ⟨admission, own, -⟩ := enterWaitSlot_asks hg safe (by simp [ha])
  refine ⟨_, stops he, ?_⟩
  rw [commit_drive, commit_supply]
  refine ⟨?_, admission, own, ?_, ?_⟩ <;> rw [enterWaitSlot_eq hg] <;> rfl

/-- The end of a braking that leads to a wait: it stays there, or goes on by what the braking held (Figure 7-3). -/
theorem stopDeadline_waits
    (he : endBraking s = if s.cfg.retryLimit < s.drive.retry then enterBlocked s else enterRetryWait s) :
    (s.drive.heldChange = false → s.drive.heldClose = false → ∃ t, exec .stopDeadline s = .next t ∧
      t.drive.retry = s.drive.retry ∧ t.supply.admission = .none ∧ t.drive.yieldMark = false ∧
      (if s.cfg.retryLimit < s.drive.retry then t.drive.state = .blocked ∧ t.drive.pattern = some .fault
        else t.drive.state = .retryWait ∧ t.drive.retryDl = some (after s.nt (1000 * s.cfg.retryDelay)))) ∧
    (s.drive.heldChange = true → ∃ t, exec .stopDeadline s = .next t ∧ WentOn 0 s t) ∧
    (s.drive.heldChange = false → s.drive.heldClose = true →
      (s.cfg.retryLimit < s.drive.retry → ∃ t, exec .stopDeadline s = .next t ∧ WentOn 0 s t) ∧
      (¬s.cfg.retryLimit < s.drive.retry → ∃ t, exec .stopDeadline s = .next t ∧ WentOn s.drive.retry s t)) := by
  have keptRetry : GoalKept (retryDrive s) s := ⟨rfl, rfl, rfl⟩
  have keptBlocked : GoalKept (blockedDrive s) s := ⟨rfl, rfl, rfl⟩
  have admission := leaveSupply_admission s
  by_cases above : s.cfg.retryLimit < s.drive.retry
  · rw [if_pos above, enterBlocked_eq] at he
    refine ⟨fun change close => ?_, fun change => ?_, fun change close => ⟨fun _ => ?_, fun k => absurd above k⟩⟩
    · simp only [change, close, Bool.false_eq_true, if_false] at he
      refine ⟨_, stops he, ?_⟩
      rw [commit_drive, commit_supply, if_pos above]
      exact ⟨rfl, admission, rfl, rfl, rfl⟩
    · rw [if_pos change] at he
      exact ⟨_, stops he, (forgiveAndGo_waiting keptBlocked).ends (commit_ends _ _)⟩
    · rw [if_neg (by simp [change]), if_pos close] at he
      exact ⟨_, stops he, (forgiveAndGo_waiting keptBlocked).ends (commit_ends _ _)⟩
  · rw [if_neg above, enterRetryWait_eq] at he
    refine ⟨fun change close => ?_, fun change => ?_, fun change close => ⟨fun k => absurd k above, fun _ => ?_⟩⟩
    · simp only [change, close, Bool.false_eq_true, if_false] at he
      refine ⟨_, stops he, ?_⟩
      rw [commit_drive, commit_supply, if_neg above]
      exact ⟨rfl, admission, rfl, rfl, rfl⟩
    · rw [if_pos change] at he
      exact ⟨_, stops he, (forgiveAndGo_waiting keptRetry).ends (commit_ends _ _)⟩
    · rw [if_neg (by simp [change]), if_pos close] at he
      exact ⟨_, stops he, (waitOrIdle_waiting keptRetry).ends (commit_ends _ _)⟩

end

/-- Settles O47: outside the safe profile by the continuation, then in it. -/
theorem brakingEndsByItsContinuation : Obligations.BrakingEndsByItsContinuation := by
  refine ⟨fun s hr safe hs hd => ?_, fun s hr hl safe hs hd hc => ?_⟩
  · have stops : ∀ {t}, endBraking s = t → exec .stopDeadline s = .next (commit s t) := fun h => by
      rw [← h]
      exact exec_stopDeadline_unsafe hr.1 hs hd safe
    refine ⟨fun c hc rests => ?_, fun g hg => ⟨fun hc hm => ?_, fun hc hm ha => ?_, fun hc hb => ?_,
      fun hc within yields hm ha => ?_, fun hc within => ?_, fun waits => ?_⟩⟩
    · have came := (enterIdle_cameToRest s).ends (commit_ends s (enterIdle s))
      exact ⟨_, stops (endBraking_rests hc rests), came, gates_cameToRest came⟩
    · exact ⟨_, stops (endBraking_ramps hg hc hm), (enterRamp_entered hg).ends (commit_ends _ _)⟩
    · obtain ⟨t, ht, state, admission, own, -⟩ := stopDeadline_asks stops safe hg (endBraking_yields hg hc hm) ha
      exact ⟨t, ht, state, admission, own⟩
    · refine ⟨_, stops ((endBraking_backs hg hc).trans (enterBackoff_eq hb)), ?_⟩
      rw [commit_drive]
      exact ⟨rfl, rfl, rfl, rfl, rfl, rfl, rfl⟩
    · exact stopDeadline_asks stops safe hg (endBraking_asks hg hc within yields hm) ha
    · refine ⟨_, stops ((endBraking_sags hg hc within).trans (enterSagWait_eq s)), ?_⟩
      rw [commit_drive, commit_supply]
      exact ⟨rfl, leaveSupply_admission s, rfl, rfl, rfl, rfl, rfl⟩
    · exact stopDeadline_waits stops (endBraking_waits hg waits)
  · have rests : endBraking s = enterIdle s := by
      rcases hc with hg | hc
      · cases hc : s.drive.continuation with
        | none => simp [endBraking, hc]
        | some c => exact endBraking_rests hc (.inl hg)
      · exact endBraking_rests hc (.inr (.inl rfl))
    obtain ⟨line, gates, stays, begins⟩ := commit_safeSeat safe (acting_safe hl safe)
    refine ⟨_, (exec_stopDeadline hr.1 hs hd).trans (by rw [rests]), line, gates, stays,
      fun phase hold listen stop => ?_⟩
    obtain ⟨state, seat, pattern, start, deadline, pos⟩ := begins phase hold listen stop
    have reasons := congrArg Tracker.reasons pos
    refine ⟨state, seat, pattern, start, deadline, by rw [reasons]; exact pos, fun far => ?_, fun agree => ?_⟩
    · exact reasons.trans (if_pos far)
    · exact reasons.trans (if_neg (by simp [agree]))

end Sys2Proof.Machine
end

section
/-! What the operations of the drive keep of the pattern that its state plays (R139), of the phase of the safe seat
(R163), and of the goal handed while no level acts (R85). -/

namespace Sys2Proof.Machine

/-- The pattern of a drive state, on a skylight or not (Figure 7-1, R139). -/
def DriveState.plays (d : DriveState) (skylight : Bool) : Option Pattern :=
  match d with
  | .warning => some .warn
  | .blocked => some .fault
  | d => if d.energised && skylight then some .moving else none

theorem driveSounded_iff (s : State) : DriveSounded s ↔ s.drive.pattern = s.drive.state.plays s.cfg.skylight := by
  unfold DriveSounded
  cases s.drive.state <;> simp [DriveState.plays, DriveState.energised]

/-- Under power every state plays the same pattern. -/
theorem plays_energised {d : DriveState} (h : d.energised = true) (skylight : Bool) :
    d.plays skylight = if skylight then some .moving else none := by
  cases d with
  | ramp | travel | approach | seating | backoff => rfl
  | _ => cases h

theorem Moves.acting {s t : State} (h : Moves s t) : Machine.acting t = Machine.acting s := by
  simp only [Machine.acting, Levels.acting, h.storm, h.rain, h.demand]

/-- From `s` to `t` the drive plays the pattern of its state if it did so before, the safe seat stands in its phase, and
while no level acts nothing is handed. -/
structure Sequenced (s t : State) : Prop where
  cfg : t.cfg = s.cfg
  acting : Machine.acting t = Machine.acting s
  phase : t.drive.safePhase = s.drive.safePhase
  sounded : DriveSounded s → DriveSounded t
  unled : Machine.acting s = none → s.levels.handed = none → t.levels.handed = none

section
variable {s t u : State}

theorem Sequenced.trans (h : Sequenced s t) (k : Sequenced t u) : Sequenced s u where
  cfg := k.cfg.trans h.cfg
  acting := k.acting.trans h.acting
  phase := k.phase.trans h.phase
  sounded := k.sounded ∘ h.sounded
  unled := fun ha hh => k.unled (h.acting.trans ha) (h.unled ha hh)

theorem Sequenced.ite {c : Prop} [Decidable c] (h : c → Sequenced s t) (k : ¬c → Sequenced s u) :
    Sequenced s (if c then t else u) := by
  split
  · exact h ‹_›
  · exact k ‹_›

/-- The state and its pattern stand. -/
theorem Sequenced.still (cfg : t.cfg = s.cfg) (levels : t.levels = s.levels)
    (phase : t.drive.safePhase = s.drive.safePhase) (state : t.drive.state = s.drive.state)
    (pattern : t.drive.pattern = s.drive.pattern) : Sequenced s t where
  cfg := cfg
  acting := congrArg Levels.acting levels
  phase := phase
  sounded := by rw [driveSounded_iff, driveSounded_iff, cfg, state, pattern]; exact id
  unled := fun _ h => (congrArg Levels.handed levels).trans h

theorem Sequenced.of_drive (cfg : t.cfg = s.cfg) (levels : t.levels = s.levels) (drive : t.drive = s.drive) :
    Sequenced s t :=
  .still cfg levels (congrArg Drive.safePhase drive) (congrArg Drive.state drive) (congrArg Drive.pattern drive)

theorem Sequenced.refl (s : State) : Sequenced s s := .of_drive rfl rfl rfl

/-- A passage into a state takes its pattern up. -/
theorem Sequenced.enters (cfg : t.cfg = s.cfg) (levels : t.levels = s.levels)
    (phase : t.drive.safePhase = s.drive.safePhase)
    (pattern : t.drive.pattern = t.drive.state.plays s.cfg.skylight) : Sequenced s t where
  cfg := cfg
  acting := congrArg Levels.acting levels
  phase := phase
  sounded := fun _ => by rw [driveSounded_iff, cfg]; exact pattern
  unled := fun _ h => (congrArg Levels.handed levels).trans h

/-- A passage under power leaves the pattern. -/
theorem Sequenced.goesOn (cfg : t.cfg = s.cfg) (levels : t.levels = s.levels)
    (phase : t.drive.safePhase = s.drive.safePhase) (from_ : s.drive.state.energised = true)
    (on : t.drive.state.energised = true) (pattern : t.drive.pattern = s.drive.pattern) : Sequenced s t where
  cfg := cfg
  acting := congrArg Levels.acting levels
  phase := phase
  sounded := by
    rw [driveSounded_iff, driveSounded_iff, cfg, pattern, plays_energised from_, plays_energised on]
    exact id
  unled := fun _ h => (congrArg Levels.handed levels).trans h

end

/-! ### Passages -/

section
variable (s : State)

theorem enterStopping_sequenced (c : Continuation) : Sequenced s (enterStopping c s) := .enters rfl rfl rfl rfl

theorem arrive_sequenced : Sequenced s (arrive s) := by
  have ended : Sequenced s (moveEnded s) := .of_drive rfl rfl rfl
  exact ended.trans (enterStopping_sequenced _ _)

theorem withDriveGoal_sequenced (g : Option Goal) : Sequenced s (withDriveGoal g s) := .still rfl rfl rfl rfl rfl

theorem requestAdmission_sequenced (level : Level) (dir : Dir) : Sequenced s (requestAdmission level dir s) := by
  rw [requestAdmission_eq]
  exact .of_drive rfl rfl rfl

theorem enterWaitSlot_sequenced : Sequenced s (enterWaitSlot s) := by
  have waits : Sequenced s (moveDrive { s.drive.cleared.unmarked with state := .waitSlot } s) := .enters rfl rfl rfl rfl
  unfold enterWaitSlot
  dsimp only
  split
  · exact waits
  · exact waits.trans (requestAdmission_sequenced _ _ _)

theorem positionTests_untested (h : ¬testsRun s) : positionTests s = s := by
  unfold positionTests
  split
  · exact if_neg h
  · rfl

/-- The tests of the position let the drive stand, or take it into SEATING, to its arrival, or into APPROACH. -/
theorem positionTests_of {P : State → Prop} (still : P s) (seats : testsRun s → P (enterSeating s))
    (arrives : P (arrive s)) (nears : testsRun s → P (enterApproach s)) : P (positionTests s) := by
  by_cases runs : testsRun s
  · cases hg : s.drive.goal with
    | none => simpa [positionTests, hg] using still
    | some g => cases hd : s.drive.dir with
      | none => simpa [positionTests, hg, hd] using still
      | some dir =>
        rcases positionTests_cases hg hd runs with ⟨-, h⟩ | ⟨-, h⟩ | ⟨-, -, ⟨-, -, h⟩ | ⟨-, h⟩⟩ <;> rw [h]
        · exact seats runs
        · exact arrives
        · exact nears runs
        · exact still
  · rw [positionTests_untested s runs]
    exact still

theorem positionTests_sequenced : Sequenced s (positionTests s) := by
  have moving : testsRun s → s.drive.state.energised = true := by rintro (h | h | h) <;> rw [h] <;> rfl
  refine positionTests_of s (.refl s) (fun runs => ?_) (arrive_sequenced s) fun runs => ?_
  · rw [enterSeating_eq]
    exact .goesOn rfl rfl rfl (moving runs) rfl rfl
  · rw [enterApproach_eq]
    exact .goesOn rfl rfl rfl (moving runs) rfl rfl

theorem rampToTravel_sequenced : Sequenced s (rampToTravel s) := by
  rcases rampToTravel_cases s with ⟨ramp, -, h⟩ | ⟨-, h⟩ <;> rw [h]
  · have begins : Sequenced s (travelBegun s) := .goesOn rfl rfl rfl (congrArg DriveState.energised ramp) rfl rfl
    exact begins.trans (positionTests_sequenced _)
  · exact .refl s

theorem enterRamp_sequenced : Sequenced s (enterRamp s) := by
  cases hg : s.drive.goal with
  | none =>
    have brakes : enterRamp s = enterStopping .goal s := by simp [enterRamp, hg]
    rw [brakes]
    exact enterStopping_sequenced s _
  | some g =>
    by_cases h : suspect s = true ∧ g.target ≠ .seat
    · have unmarked : Sequenced s (s.setDrive { s.drive with seatRecord := none }) := .still rfl rfl rfl rfl rfl
      rw [enterRamp_brakes hg h]
      exact unmarked.trans (enterStopping_sequenced _ _)
    · have begins : Sequenced s (rampBegun g s) := .enters rfl rfl rfl rfl
      rw [enterRamp_begins hg h]
      exact (begins.trans (positionTests_sequenced _)).trans (rampToTravel_sequenced _)

theorem enterWarning_sequenced : Sequenced s (enterWarning s) :=
  .ite (fun _ => enterRamp_sequenced s) fun _ => .enters rfl rfl rfl rfl

theorem backoffTest_sequenced : Sequenced s (backoffTest s) :=
  .ite (fun _ => enterStopping_sequenced s _) fun _ => .refl s

theorem enterBackoff_sequenced : Sequenced s (enterBackoff s) := by
  unfold enterBackoff
  refine Sequenced.trans ?_ (backoffTest_sequenced _)
  exact .enters rfl rfl rfl rfl

/-! ### At rest -/

/-- What is handed is no goal while no level acts (R85). -/
theorem recordHanding_sequenced : Sequenced s (recordHanding s) where
  cfg := rfl
  acting := rfl
  phase := rfl
  sounded := id
  unled := fun ha _ => show formGoal s = none by simp [formGoal, ha]

theorem takeGoalAtRest_sequenced (g : Option Goal) : Sequenced s (takeGoalAtRest g s) := by
  cases g with
  | none => exact withDriveGoal_sequenced s none
  | some g =>
    have given : Sequenced s (withDriveGoal (some g) s) := withDriveGoal_sequenced s _
    rw [takeGoalAtRest_some]
    exact .ite (fun _ => given.trans (enterWaitSlot_sequenced _)) fun _ => given

theorem putReason_sequenced (r : Reason) : Sequenced s (putReason r s) := .of_drive rfl rfl rfl

theorem compareAtRest_sequenced : Sequenced s (compareAtRest s) := by
  have put := putReason_sequenced s .mismatch
  have handed := (put.trans (recordHanding_sequenced _)).trans
    (takeGoalAtRest_sequenced _ (formGoal (putReason .mismatch s)))
  exact .ite (fun _ => .ite (fun _ => put) fun _ => handed) fun _ => .refl s

theorem restInIdle_sequenced : Sequenced s (restInIdle s) where
  cfg := (restInIdle_moves s).cfg
  acting := restInIdle_acting s
  phase := by rw [restInIdle_eq]; rfl
  sounded := fun _ => by rw [driveSounded_iff, restInIdle_eq]; rfl
  unled := fun ha hh => by rw [restInIdle_eq]; simpa [ha] using hh

theorem enterIdle_sequenced : Sequenced s (enterIdle s) :=
  (restInIdle_sequenced s).trans (compareAtRest_sequenced _)

theorem waitOrIdle_sequenced : Sequenced s (waitOrIdle s) := by
  unfold waitOrIdle
  split
  · exact enterIdle_sequenced s
  · exact .ite (fun _ => enterWaitSlot_sequenced s) fun _ => enterIdle_sequenced s

theorem forgiveAndGo_sequenced : Sequenced s (forgiveAndGo s) := by
  have forgiven : Sequenced s (s.setDrive { s.drive with retry := 0 }) := .still rfl rfl rfl rfl rfl
  exact forgiven.trans (waitOrIdle_sequenced _)

theorem enterRetryWait_sequenced : Sequenced s (enterRetryWait s) := by
  have waits : Sequenced s (waiting (retryDrive s) s.occasion s) := .enters rfl rfl rfl rfl
  rw [enterRetryWait_eq]
  exact .ite (fun _ => waits.trans (forgiveAndGo_sequenced _)) fun _ =>
    .ite (fun _ => waits.trans (waitOrIdle_sequenced _)) fun _ => waits

theorem enterBlocked_sequenced : Sequenced s (enterBlocked s) := by
  have waits : Sequenced s (waiting (blockedDrive s) true s) := .enters rfl rfl rfl rfl
  have goes : Sequenced s (forgiveAndGo (waiting (blockedDrive s) true s)) := waits.trans (forgiveAndGo_sequenced _)
  rw [enterBlocked_eq]
  exact .ite (fun _ => goes) fun _ => .ite (fun _ => goes) fun _ => waits

theorem enterSagWait_sequenced : Sequenced s (enterSagWait s) := by
  rw [enterSagWait_eq]
  exact .enters rfl rfl rfl rfl

/-! ### Handings and notices -/

theorem changeWhileMoving_sequenced (old g : Option Goal) : Sequenced s (changeWhileMoving old g s) := by
  have stops : Sequenced s (enterStopping .goal s) := enterStopping_sequenced s _
  cases g with
  | none => exact stops
  | some new =>
    refine .ite (fun _ => arrive_sequenced s) fun _ => .ite (fun _ => stops) fun _ =>
      .ite (fun _ => .ite (fun seating => .ite (fun _ => .refl s) fun _ => ?_) fun _ => positionTests_sequenced s)
        fun _ => stops
    have approaches : Sequenced s (enterApproach s) := by
      rw [enterApproach_eq]
      exact .goesOn rfl rfl rfl (by rw [seating]; rfl) rfl rfl
    exact approaches.trans (positionTests_sequenced _)

theorem changeWhileWarning_sequenced (g : Option Goal) : Sequenced s (changeWhileWarning g s) := by
  have rests : Sequenced s (enterIdle s) := enterIdle_sequenced s
  cases g with
  | none => exact rests
  | some new =>
    have warns : ∀ dl, Sequenced s (warningUntil dl s) := fun _ => .still rfl rfl rfl rfl rfl
    exact .ite (fun _ => rests) fun _ => .ite (fun _ => (warns _).trans (enterRamp_sequenced _)) fun _ => warns _

theorem changeWhileWaiting_sequenced (g : Option Goal) : Sequenced s (changeWhileWaiting g s) := by
  cases g with
  | none => exact enterIdle_sequenced s
  | some new => exact .ite (fun _ => requestAdmission_sequenced s _ _) fun _ => enterIdle_sequenced s

theorem takeGoal_sequenced (g : Option Goal) : Sequenced s (takeGoal g s) := by
  have given : Sequenced s (withDriveGoal g s) := withDriveGoal_sequenced s g
  have held : Sequenced s ((withDriveGoal g s).setDrive { s.drive with goal := g, heldChange := true }) :=
    .still rfl rfl rfl rfl rfl
  have moves : Sequenced s (changeWhileMoving s.drive.goal g (withDriveGoal g s)) :=
    given.trans (changeWhileMoving_sequenced _ _ _)
  have rests : Sequenced s (enterIdle (withDriveGoal g s)) := given.trans (enterIdle_sequenced _)
  unfold takeGoal
  refine .ite (fun _ => given) fun _ => ?_
  dsimp only
  split
  case h_1 => exact takeGoalAtRest_sequenced s g
  case h_2 => exact .ite (fun _ => given) fun _ => given.trans (changeWhileWaiting_sequenced _ g)
  case h_3 => exact .ite (fun _ => given) fun _ => given.trans (changeWhileWarning_sequenced _ g)
  case h_4 | h_5 | h_6 | h_7 => exact .ite (fun _ => given) fun _ => moves
  case h_8 => exact .ite (fun _ => given) fun _ => .ite (fun _ => held) fun _ => given
  case h_9 =>
    exact .ite (fun _ => given) fun _ => .ite (fun _ => given.trans (enterStopping_sequenced _ _)) fun _ => held
  case h_10 | h_12 =>
    exact .ite (fun _ => given) fun _ => .ite (fun _ => rests) fun _ => given.trans (forgiveAndGo_sequenced _)
  case h_11 => exact .ite (fun _ => rests) fun _ => given

theorem takeCloseNotice_sequenced : Sequenced s (takeCloseNotice s) := by
  have held : Sequenced s (s.setDrive { s.drive with heldClose := true }) := .still rfl rfl rfl rfl rfl
  unfold takeCloseNotice
  refine .ite (fun _ => .refl s) fun _ => ?_
  split
  case h_1 => exact waitOrIdle_sequenced s
  case h_2 => exact forgiveAndGo_sequenced s
  case h_3 => exact held
  case h_4 => exact .ite (fun _ => held) fun _ => .refl s
  case h_5 => exact .refl s

theorem handGoal_sequenced : Sequenced s (handGoal s) :=
  (recordHanding_sequenced s).trans (takeGoal_sequenced _ _)

theorem driveOnset_sequenced : Sequenced s (driveOnset s) := by
  unfold driveOnset
  split
  · exact .refl s
  · exact .ite (fun _ => enterStopping_sequenced s _) fun _ => .refl s

theorem addReason_sequenced (r : Reason) : Sequenced s (addReason r s) := by
  have put := putReason_sequenced s r
  have onset : Sequenced s (driveOnset (putReason r s)) := put.trans (driveOnset_sequenced _)
  exact .ite (fun _ => put) fun _ => .ite (fun _ => onset) fun _ => onset.trans (handGoal_sequenced _)

theorem driftTest_sequenced : Sequenced s (driftTest s) := by
  unfold driftTest
  split
  · exact .refl s
  · exact .ite (fun _ => handGoal_sequenced s) fun _ => .refl s

/-! ### Counts, admissions and detections -/

theorem noteOccasion_sequenced : Sequenced s (noteOccasion s) := .of_drive rfl rfl rfl

theorem countChanged_sequenced (before : Nat) : Sequenced s (countChanged before s) := by
  have tested := (positionTests_sequenced s).trans (backoffTest_sequenced _)
  have drifted := tested.trans (driftTest_sequenced _)
  exact .ite (fun _ => tested) fun _ => .ite (fun _ => drifted.trans (noteOccasion_sequenced _)) fun _ => drifted

theorem driveAdmitted_sequenced : Sequenced s (driveAdmitted s) :=
  .ite (fun _ => enterWarning_sequenced s) fun _ => .refl s

theorem evaluate_sequenced : Sequenced s (evaluate s) := by
  have grants : Sequenced s (granted s) := .of_drive rfl rfl rfl
  exact .ite (fun _ => grants.trans (driveAdmitted_sequenced _)) fun _ => .of_drive rfl rfl rfl

theorem recogniseObstruction_sequenced : Sequenced s (recogniseObstruction s) := by
  have counted : Sequenced s (s.setDrive { s.drive with
      retry := min (s.cfg.retryLimit + 1) (s.drive.retry + 1) }) := .still rfl rfl rfl rfl rfl
  have brakes := fun c => counted.trans (enterStopping_sequenced _ c)
  unfold recogniseObstruction
  dsimp only
  split
  · exact brakes .verdict
  · exact brakes .backoff

theorem readSupply_sequenced : Sequenced s (readSupply s) := by
  rw [readSupply_eq]
  exact .still rfl rfl rfl rfl rfl

end

end Sys2Proof.Machine
end

section
/-! What the effect of a command does to the laws of the drive (O9): the count and the retry count in bounds, each timed
state with its deadline, the sounder's pattern, and the safe seat. -/

namespace Sys2Proof.Machine

/-- The warning of a safe seat stands (R163), in a node whose levels are lawful. -/
def WarnsSafely (s : State) : Prop :=
  acting s = none ∧ s.levels.handed = none ∧ s.drive.safePhase = .warning ∧ s.drive.state = .warning

theorem not_warnsSafely {s : State} (h : s.drive.state ≠ .warning) : ¬WarnsSafely s := fun ⟨_, _, _, k⟩ => h k

/-- From `s` to `t` the laws of the drive are kept, and the law of the appointment that the safe seat leans on. -/
structure DriveKept (s t : State) : Prop where
  levels : LevelsKept s t
  count : CountInBounds s → CountInBounds t
  retry : RetryBounded s → RetryBounded t
  timed : DriveTimed s → DriveTimed t
  sounded : DriveSounded s → DriveSounded t
  seat : LevelsLawful s → SafeSeatLawful s → SafeSeatLawful t

section
variable {s t u : State}

theorem DriveKept.refl (s : State) : DriveKept s s := ⟨.refl s, id, id, id, id, fun _ => id⟩

theorem DriveKept.trans (h : DriveKept s t) (k : DriveKept t u) : DriveKept s u where
  levels := h.levels.trans k.levels
  count := k.count ∘ h.count
  retry := k.retry ∘ h.retry
  timed := k.timed ∘ h.timed
  sounded := k.sounded ∘ h.sounded
  seat := fun hl hs => k.seat (h.levels hl) (h.seat hl hs)

theorem DriveKept.after (k : DriveKept t u) (h : DriveKept s t) : DriveKept s u := h.trans k

theorem DriveKept.ite {c : Prop} [Decidable c] (h : c → DriveKept s t) (k : ¬c → DriveKept s u) :
    DriveKept s (if c then t else u) := by
  split
  · exact h ‹_›
  · exact k ‹_›

/-- The count, the cross-check deadline, the drive and the handing stand. -/
theorem DriveKept.aside (levels : LevelsKept s t) (safe : t.safe = s.safe) (cfg : t.cfg = s.cfg)
    (drive : t.drive = s.drive) (count : t.pos.count = s.pos.count) (check : t.pos.crossCheckDl = s.pos.crossCheckDl)
    (handed : t.levels.handed = s.levels.handed) : DriveKept s t where
  levels := levels
  count := by unfold CountInBounds; rw [cfg, count]; exact id
  retry := by unfold RetryBounded; rw [cfg, drive]; exact id
  timed := by unfold DriveTimed; rw [drive, check]; exact id
  sounded := by rw [driveSounded_iff, driveSounded_iff, cfg, drive]; exact id
  seat := fun _ => by unfold SafeSeatLawful; rw [safe, drive, handed]; exact id

/-- The drive moves on below an appointment: it is enough that a safe seat's warning stands. -/
theorem DriveKept.of_moves (h : Moves s t) (k : Sequenced s t) (warns : WarnsSafely s → t.drive.state = .warning) :
    DriveKept s t where
  levels := h.levelsKept
  count := by unfold CountInBounds; rw [h.cfg, h.count]; exact id
  retry := h.retry
  timed := h.timed
  sounded := k.sounded
  seat := fun hl ⟨unsafely, safely⟩ => by
    refine ⟨fun hs => k.phase.trans (unsafely (h.safe.symm.trans hs)), fun hs => ?_⟩
    have isSafe : s.safe = true := h.safe.symm.trans hs
    have unled : acting s = none := acting_safe hl isSafe
    obtain ⟨handed, warning⟩ := safely isSafe
    refine ⟨k.unled unled handed, fun hp => ?_⟩
    have phase : s.drive.safePhase = .warning := k.phase.symm.trans hp
    exact warns ⟨unled, handed, phase, warning phase⟩

/-- Out of any other state than WARNING the drive moves on freely. -/
theorem DriveKept.of_moves_from (h : Moves s t) (k : Sequenced s t) (from_ : s.drive.state ≠ .warning) :
    DriveKept s t :=
  .of_moves h k fun w => absurd w (not_warnsSafely from_)

/-- The drive stands in its state, and a phase of the safe seat can end. -/
theorem DriveKept.setDrive (d : Drive) (state : d.state = s.drive.state) (pattern : d.pattern = s.drive.pattern)
    (retry : d.retry = s.drive.retry) (ends : s.drive.endsBy → d.endsBy)
    (phase : d.safePhase = s.drive.safePhase ∨
      (d.safePhase ≠ .warning ∧ (d.safePhase = .notBegun ∨ s.drive.safePhase ≠ .notBegun))) :
    DriveKept s (s.setDrive d) where
  levels := .setDrive s d
  count := id
  retry := by unfold RetryBounded; rw [State.setDrive_drive, retry]; exact id
  timed := fun ⟨deadline, check⟩ => ⟨ends deadline, by rw [State.setDrive_drive, state]; exact check⟩
  sounded := by rw [driveSounded_iff, driveSounded_iff, State.setDrive_drive, state, pattern]; exact id
  seat := fun _ ⟨unsafely, safely⟩ => by
    rcases phase with still | ⟨quiet, ended⟩
    · refine ⟨fun hs => still.trans (unsafely hs), fun hs => ⟨(safely hs).1, fun hp => ?_⟩⟩
      exact state.trans ((safely hs).2 (still.symm.trans hp))
    · exact ⟨fun hs => ended.resolve_right fun k => k (unsafely hs),
        fun hs => ⟨(safely hs).1, fun hp => absurd hp quiet⟩⟩

/-- The end of a command changes the running refresh, the last reported position and the record. -/
theorem commit_driveKept (s t : State) : DriveKept t (commit s t) := by
  rw [commit_frame]
  exact ⟨.still rfl rfl rfl rfl rfl rfl, id, id, id, id, fun _ => id⟩

end

/-! ### Levels and appointments -/

section
variable {s t u : State}

/-- A handing in the name of a level finds no safe seat. -/
theorem handGoal_driveKept (h : acting s ≠ none) : DriveKept s (handGoal s) :=
  .of_moves (handGoal_moves s) (handGoal_sequenced s) fun ⟨unled, _⟩ => absurd unled h

/-- An appointment after a change that the laws of the drive do not look at; in the safe profile it hands nothing. -/
theorem appointFrom_driveKept {before : Option Level} (safe : u.safe = s.safe) (cfg : u.cfg = s.cfg)
    (drive : u.drive = s.drive) (pos : u.pos = s.pos) (handed : u.levels.handed = s.levels.handed)
    (unled : acting s = none → before = none) : DriveKept s (appointFrom before u) := by
  obtain ⟨turns, lawful, -⟩ := appointFrom_spec before u
  have moved : Sequenced (u.setLevels (appointedLevels u)) (appointFrom before u) :=
    .ite (fun _ => .refl _) fun _ => handGoal_sequenced _
  refine ⟨.of_lawful lawful, ?_, fun h => turns.retry ?_, fun h => turns.timed ?_, fun h => moved.sounded ?_,
    fun hl ⟨unsafely, safely⟩ => ⟨fun hs => ?_, fun hs => ?_⟩⟩
  · unfold CountInBounds; rw [turns.cfg, turns.count, cfg, pos]; exact id
  · unfold RetryBounded; rw [cfg, drive]; exact h
  · unfold DriveTimed; rw [drive, pos]; exact h
  · rw [driveSounded_iff] at h ⊢
    simpa [cfg, drive] using h
  · have phase := moved.phase
    rw [State.setLevels_drive, drive] at phase
    exact phase.trans (unsafely ((turns.safe.trans safe).symm.trans hs))
  · have isSafe : u.safe = true := turns.safe.symm.trans hs
    have none_before : before = none := unled (acting_safe hl (safe.symm.trans isSafe))
    rw [appointFrom_same ((chosenLevel_not (mayAct_safe isSafe)).trans none_before.symm)]
    obtain ⟨was, warning⟩ := safely (safe.symm.trans isSafe)
    refine ⟨handed.trans was, ?_⟩
    rw [State.setLevels_drive, drive]
    exact warning

theorem takeResult_driveKept (a b c d : Bool) (s : State) : DriveKept s (takeResult a b c d s) :=
  appointFrom_driveKept rfl rfl rfl rfl rfl id

theorem clearDemand_driveKept (s : State) : DriveKept s (clearDemand s) :=
  appointFrom_driveKept rfl rfl rfl rfl rfl id

theorem takeDemand_driveKept (t : Target) (s : State) : DriveKept s (takeDemand t s) := by
  have asked : DriveKept s (appoint (raiseDemand t s)) :=
    appointFrom_driveKept rfl rfl rfl rfl rfl (acting_raiseDemand t s).trans
  have handed : DriveKept s (demandHanded t s) :=
    .ite (fun ⟨_, leads⟩ => asked.trans (handGoal_driveKept (by rw [leads]; exact nofun))) fun _ => asked
  exact handed.trans (.aside (restartExpiry_levelsKept _) rfl rfl rfl rfl rfl rfl)

theorem takeCloseNotice_driveKept (s : State) : DriveKept s (takeCloseNotice s) := by
  refine .of_moves (takeCloseNotice_moves s) (takeCloseNotice_sequenced s) fun ⟨_, _, _, warning⟩ => ?_
  have stays : takeCloseNotice s = s := by simp [takeCloseNotice, warning]
  rw [stays, warning]

theorem playRefuse_driveKept (s : State) : DriveKept s (playRefuse s) := .setDrive _ rfl rfl rfl id (.inl rfl)

theorem takePress_driveKept (closes : Bool) (s : State) : DriveKept s (takePress closes s) := by
  have demand := takeDemand_driveKept (pressTarget closes s) s
  have noted : DriveKept s (pressNoted closes s) :=
    .ite (fun _ => demand.trans (takeCloseNotice_driveKept _)) fun _ => demand
  exact .ite (fun _ => .refl s) fun _ => .ite (fun _ => noted.trans (playRefuse_driveKept _)) fun _ => noted

end

/-! ### The drive -/

section
variable {s : State}

theorem driveOnset_warning (h : s.drive.state = .warning) : driveOnset s = s :=
  driveOnset_still fun k => by simp [testsRun, h] at k

theorem addReason_driveKept (r : Reason) (s : State) : DriveKept s (addReason r s) := by
  refine .of_moves (addReason_moves r s) (addReason_sequenced s r) fun ⟨unled, _, _, warning⟩ => ?_
  have onset : driveOnset (putReason r s) = putReason r s := driveOnset_warning warning
  have unled' : acting (putReason r s) = none := unled
  unfold addReason
  dsimp only
  rw [onset, if_pos unled', ite_self]
  exact warning

/-- The end of a braking. -/
theorem endBraking_driveKept (h : s.drive.state = .stopping) : DriveKept s (endBraking s) := by
  have leaves : ∀ {t}, Moves s t → Sequenced s t → DriveKept s t := fun m k =>
    .of_moves_from m k (by rw [h]; exact nofun)
  have rests := leaves (enterIdle_moves s) (enterIdle_sequenced s)
  have blocks := leaves (enterBlocked_moves s) (enterBlocked_sequenced s)
  have after : ∀ {go : State → State}, DriveKept s (go s) → DriveKept s (afterBraking go s) := fun k => by
    unfold afterBraking
    split
    · exact rests
    · exact .ite (fun _ => k) fun _ => rests
  unfold endBraking
  split
  case h_1 => exact after (leaves (enterRamp_moves s) (enterRamp_sequenced s))
  case h_2 => exact .ite (fun _ => rests) fun _ => leaves (enterBackoff_moves s) (enterBackoff_sequenced s)
  case h_3 =>
    exact .ite (fun _ => rests) fun _ => .ite (fun _ => blocks) fun _ =>
      .ite (fun _ => leaves (waitOrIdle_moves s) (waitOrIdle_sequenced s)) fun _ =>
        leaves (enterRetryWait_moves s) (enterRetryWait_sequenced s)
  case h_4 =>
    exact .ite (fun _ => rests) fun _ => .ite (fun _ => blocks) fun _ =>
      leaves (enterSagWait_moves s) (enterSagWait_sequenced s)
  case h_5 => exact after (leaves (enterWaitSlot_moves s) (enterWaitSlot_sequenced s))
  case h_6 | h_7 => exact rests

theorem takeRampStep_driveKept (h : s.drive.state = .ramp) : DriveKept s (takeRampStep s) := by
  have stepped : DriveKept s (s.setDrive { s.drive with
      duty := min s.cfg.travelDuty (s.drive.duty + s.cfg.rampStep)
      rampStepDl := s.drive.rampStepDl.map fun d => after d 20 }) :=
    .setDrive _ rfl rfl rfl (by simp [Drive.endsBy, h]) (.inl rfl)
  exact stepped.trans (.of_moves_from (rampToTravel_moves _) (rampToTravel_sequenced _) (by simp [h]))

theorem takeSag_driveKept (h : s.drive.state.energised = true) : DriveKept s (takeSag s) := by
  have counted : DriveKept s (s.setSupply { s.supply with
      sagCount := min 6 (s.supply.sagCount + 1), sagTimer := none }) := .aside (.setSupply s _) rfl rfl rfl rfl rfl rfl
  have brakes : ∀ u : State, u.drive.state = s.drive.state → DriveKept u (enterStopping .sag u) := fun u hu =>
    .of_moves_from (enterStopping_moves .sag u) (enterStopping_sequenced u .sag)
      fun k => nomatch h.symm.trans (congrArg DriveState.energised (hu.symm.trans k))
  unfold takeSag
  exact .after (brakes _ rfl) (.after (.setDrive _ rfl rfl rfl id (.inl rfl)) counted)

/-- A handed DEMAND yields: no safe seat warns in a node to which a goal is handed. -/
theorem orderYield_driveKept (h : s.levels.handed ≠ none) : DriveKept s (orderYield s) := by
  have released : DriveKept s (releaseSupply s) := .aside (.setSupply s _) rfl rfl rfl rfl rfl rfl
  have stops : DriveKept s (enterStopping .yield (releaseSupply s)) :=
    released.trans (.of_moves (enterStopping_moves _ _) (enterStopping_sequenced _ _)
      fun ⟨_, unhanded, _⟩ => absurd unhanded h)
  have continues : ∀ c, DriveKept s ((releaseSupply s).setDrive { s.drive with continuation := c }) := fun _ =>
    released.trans (.setDrive _ rfl rfl rfl id (.inl rfl))
  have marks : DriveKept s ((releaseSupply s).setDrive { s.drive with yieldMark := true }) :=
    released.trans (.setDrive _ rfl rfl rfl id (.inl rfl))
  cases hc : s.drive.controlledStop with
  | true => rw [orderYield_releases hc]; exact released
  | false =>
    cases hm : s.drive.state.movingForPress with
    | true => rw [orderYield_brakes hc hm]; exact stops
    | false =>
      rcases orderYield_notes hc hm with ⟨-, -, k⟩ | ⟨-, k⟩ | ⟨-, -, k⟩ <;> rw [k]
      · exact continues _
      · exact marks
      · exact released

/-! ### The safe seat -/

/-- A passage of the safe seat. -/
theorem moveDrive_driveKept {d : Drive} (moves : Moves s (moveDrive d s))
    (pattern : d.pattern = d.state.plays s.cfg.skylight) (warns : d.safePhase = .warning → d.state = .warning)
    (begun : s.safe = true ∨ s.drive.safePhase ≠ .notBegun) : DriveKept s (moveDrive d s) where
  levels := moves.levelsKept
  count := by unfold CountInBounds; rw [moves.cfg, moves.count]; exact id
  retry := moves.retry
  timed := moves.timed
  sounded := fun _ => by rw [driveSounded_iff, moveDrive_eq]; exact pattern
  seat := fun _ ⟨unsafely, safely⟩ => by
    have isSafe : s.safe = true := begun.elim id fun k => by
      by_contra h
      exact k (unsafely (by simpa using h))
    rw [moveDrive_eq]
    exact ⟨fun hs => (Bool.false_ne_true (hs.symm.trans isSafe)).elim, fun _ => ⟨(safely isSafe).1, warns⟩⟩

theorem beginSafeSeat_driveKept (s : State) : DriveKept s (beginSafeSeat s) := by
  refine .ite (fun begins => ?_) fun _ => .refl s
  have isSafe : s.safe = true := by simp only [Bool.and_eq_true] at begins; exact begins.1.1.1.1.1
  exact moveDrive_driveKept
    (moveDrive_moves _ s rfl rfl (Nat.le_max_left _ _) (by simp) (by simp [Drive.endsBy]))
    rfl (fun _ => rfl) (.inl isSafe)

theorem enterSafeSeating_driveKept (h : s.drive.safePhase = .warning) : DriveKept s (enterSafeSeating s) :=
  moveDrive_driveKept
    (moveDrive_moves _ s rfl rfl (Nat.le_max_left _ _) (by simp) (by simp [Drive.endsBy]))
    rfl (nofun) (.inr (by simp [h]))

/-- The phase of a safe seat that is no more. -/
theorem setNotBegun_driveKept (s : State) : DriveKept s (s.setDrive { s.drive with safePhase := .notBegun }) :=
  .setDrive _ rfl rfl rfl id (.inr ⟨nofun, .inl rfl⟩)

/-- Without a safe seat the drive moves on freely. -/
theorem DriveKept.of_moves_unbegun {t : State} (h : Moves s t) (k : Sequenced s t)
    (notBegun : s.drive.safePhase = .notBegun) : DriveKept s t :=
  .of_moves h k fun ⟨_, _, phase, _⟩ => nomatch notBegun.symm.trans phase

theorem interruptSafeSeat_driveKept (s : State) : DriveKept s (interruptSafeSeat s) := by
  have ended := setNotBegun_driveKept s
  unfold interruptSafeSeat
  split
  · exact ended.trans (.of_moves_unbegun (enterIdle_moves _) (enterIdle_sequenced _) rfl)
  · exact ended.trans (.of_moves_unbegun (enterStopping_moves _ _) (enterStopping_sequenced _ _) rfl)
  · exact .refl s

theorem endWindow_driveKept (s : State) : DriveKept s (endWindow s) := by
  refine .aside (endWindow_levelsKept s) ?_ ?_ ?_ ?_ ?_ ?_ <;> rw [endWindow_eq]

theorem takeKeyOn_driveKept (s : State) : DriveKept s (takeKeyOn s) := by
  have held : DriveKept s (appointFrom (acting s) (withHold true s)) := appointFrom_driveKept rfl rfl rfl rfl rfl id
  rw [takeKeyOn_eq]
  exact .ite (fun _ => held.trans (interruptSafeSeat_driveKept _)) fun _ => held

theorem takeKeyOff_driveKept (s : State) : DriveKept s (takeKeyOff s) := by
  have held : DriveKept s (appointFrom (acting s) (withHold false s)) := appointFrom_driveKept rfl rfl rfl rfl rfl id
  exact (held.trans (endWindow_driveKept _)).trans (beginSafeSeat_driveKept _)

theorem takeKeySample_driveKept (on : Bool) (s : State) : DriveKept s (takeKeySample on s) := by
  have sampled : ∀ p f, DriveKept s ((s.setPins p).setSensor f) := fun _ _ =>
    .aside (.still rfl rfl rfl rfl rfl rfl) rfl rfl rfl rfl rfl rfl
  exact .ite (fun _ => (sampled _ _).trans (takeKeyOn_driveKept _)) fun _ =>
    .ite (fun _ => (sampled _ _).trans (takeKeyOff_driveKept _)) fun _ => sampled _ _

theorem controlledStop_driveKept (s : State) : DriveKept s (controlledStop s) := by
  let u := s.setDrive { s.drive with controlledStop := true }
  have stopping : DriveKept s u := .setDrive _ rfl rfl rfl id (.inl rfl)
  have stops : s.drive.state ≠ .warning → DriveKept s (enterStopping .halt u) := fun h =>
    stopping.trans (.of_moves_from (enterStopping_moves _ _) (enterStopping_sequenced _ _) h)
  have rests : s.drive.state ≠ .warning → DriveKept s (enterIdle u) := fun h =>
    stopping.trans (.of_moves_from (enterIdle_moves _) (enterIdle_sequenced _) h)
  have ended : DriveKept s (u.setDrive { u.drive with safePhase := .notBegun }) :=
    stopping.trans (setNotBegun_driveKept u)
  unfold controlledStop
  dsimp only
  split
  case h_1 h | h_2 h | h_3 h | h_5 h => exact stops (by simp [h])
  case h_4 => exact ended.trans (.of_moves_unbegun (enterStopping_moves _ _) (enterStopping_sequenced _ _) rfl)
  case h_6 => exact stopping.trans (.setDrive _ rfl rfl rfl id (.inl rfl))
  case h_8 => exact ended.trans (.of_moves_unbegun (enterIdle_moves _) (enterIdle_sequenced _) rfl)
  case h_7 h | h_9 h | h_10 h | h_11 h => exact rests (by simp [h])
  case h_12 => exact stopping

theorem takeRestart_driveKept (s : State) : DriveKept s (takeRestart s) :=
  .ite (fun _ => .refl s) fun _ => controlledStop_driveKept s

/-! ### Counts, seats and detections -/

/-- The count moves within its bounds; all else that the laws look at stands. -/
theorem DriveKept.setCount (p : Tracker)
    (h : CountInBounds s → -1024 ≤ p.count ∧ p.count ≤ (s.cfg.stroke : Int) + 1024)
    (check : p.crossCheckDl = s.pos.crossCheckDl) : DriveKept s (s.setPos p) where
  levels := .setPos s p
  count := h
  retry := id
  timed := by unfold DriveTimed; rw [State.setPos_pos, check]; exact id
  sounded := id
  seat := fun _ => id

theorem referenceAtSeat_driveKept (s : State) : DriveKept s (referenceAtSeat s) := by
  have zeroed : ∀ p : Tracker, p.count = 0 → p.crossCheckDl = s.pos.crossCheckDl → DriveKept s (s.setPos p) :=
    fun p hp => .setCount p fun _ => by omega
  exact .ite (fun _ => .after (.setCount _ id rfl) (zeroed _ rfl rfl)) fun _ => zeroed _ rfl rfl

theorem noteOccasion_driveKept (s : State) : DriveKept s (noteOccasion s) :=
  .aside (.setOccasion s true) rfl rfl rfl rfl rfl rfl

theorem endSuspect_driveKept (s : State) : DriveKept s (endSuspect s) := by
  unfold endSuspect
  split
  · exact .refl s
  · next led =>
    have formed : DriveKept s (s.setLevels { s.levels with rainTarget := rainFormed s }) :=
      .aside (.setRainTarget s _) rfl rfl rfl rfl rfl rfl
    exact formed.trans (handGoal_driveKept (s := s.setLevels _) fun k => nomatch (led : acting s = _).symm.trans k)
  · next led => exact handGoal_driveKept fun k => nomatch (led : acting s = _).symm.trans k

theorem seatNotices_driveKept (before : Bool) (s : State) : DriveKept s (seatNotices before s) :=
  .ite (fun _ => endSuspect_driveKept s) fun _ =>
    .ite (fun h => handGoal_driveKept (by simp_all)) fun _ => .refl s

/-- A seat (R125, R148): a safe seat under way has ended. -/
theorem recogniseSeat_driveKept (h : s.drive.state ≠ .warning) : DriveKept s (recogniseSeat s) := by
  have reached : DriveKept s (seatReached s) :=
    .ite (fun _ => (referenceAtSeat_driveKept s).trans (noteOccasion_driveKept _)) fun _ => referenceAtSeat_driveKept s
  have state : (seatReached s).drive.state = s.drive.state := by
    obtain ⟨reasons, -, -, referenced⟩ := referenceAtSeat_eq s
    unfold seatReached
    rw [referenced]
    split <;> rfl
  have braked : DriveKept (seatReached s) (seatBraked (seatReached s)) := by
    refine .after (.of_moves_from (arrive_moves _) (arrive_sequenced _) fun k => h (state.symm.trans k))
      (.setDrive _ rfl rfl rfl id ?_)
    dsimp only
    split
    · next seating => exact .inr ⟨nofun, .inr (by simp [seating])⟩
    · exact .inl rfl
  rw [recogniseSeat_notices]
  exact (reached.trans braked).trans (seatNotices_driveKept _ _)

theorem detection_driveKept (s : State) : DriveKept s (detection s) := by
  have moving : s.drive.state ≠ .warning → DriveKept s (detection.movingDetection s) := fun h =>
    .ite (fun _ => recogniseSeat_driveKept h) fun _ =>
      .of_moves_from (recogniseObstruction_moves s) (recogniseObstruction_sequenced s) h
  unfold detection
  split
  case h_1 h => exact recogniseSeat_driveKept (by simp [h])
  case h_2 h => exact .of_moves_from (enterStopping_moves _ s) (enterStopping_sequenced s _) (by simp [h])
  case h_3 h | h_4 h | h_5 h => exact moving (by simp [h])
  case h_6 => exact .refl s

theorem takeVelocity_driveKept (s : State) : DriveKept s (takeVelocity s) := by
  have read : ∀ v n, DriveKept s ((s.setPos { s.pos with
      velocity := v, windowStart := s.pos.count, windowBegin := s.nt }).setDrive { s.drive with stallRun := n }) :=
    fun v n => .after (.setDrive _ rfl rfl rfl id (.inl rfl)) (.setCount _ id rfl)
  exact .ite (fun _ => (read _ _).trans (detection_driveKept _)) fun _ => read _ _

/-- A change of the count: without a level that acts the tests leave a warning alone. -/
theorem countChanged_driveKept (before : Nat) (s : State) : DriveKept s (countChanged before s) := by
  refine .of_moves (countChanged_moves before s) (countChanged_sequenced s before) fun ⟨_, _, _, warning⟩ => ?_
  have tested : backoffTest (positionTests s) = s := by
    rw [positionTests_untested s fun k => by simp [testsRun, warning] at k]
    exact if_neg fun k => by simp [warning] at k
  have drifted : driftTest s = s := by
    unfold driftTest
    split <;> simp [warning]
  unfold countChanged
  dsimp only
  rw [tested, drifted]
  split
  · exact warning
  · split <;> exact warning

theorem hallRead_driveKept (pair : HallPair) (s : State) : DriveKept s (hallRead pair s) :=
  .after (.setCount _ id rfl) (.aside (.setPins s _) rfl rfl rfl rfl rfl rfl)

/-- A step is counted within the bounds alone (R143). -/
theorem takeStep_driveKept (pair : HallPair) (s : State) : DriveKept s (takeStep pair s) := by
  have read := hallRead_driveKept pair s
  rw [takeStep_eq]
  refine .ite (fun _ => read.trans (addReason_driveKept _ _)) fun within => ?_
  have bounds : CountInBounds (hallRead pair s) → -1024 ≤ steppedCount s.pos.hall pair s.pos.count ∧
      steppedCount s.pos.hall pair s.pos.count ≤ (s.cfg.stroke : Int) + 1024 := fun _ => by omega
  have counted : DriveKept s (stepCounted pair s) := .after (.setCount _ bounds rfl) read
  have moved := counted.trans (countChanged_driveKept (position s) _)
  exact .ite (fun _ => moved.trans (addReason_driveKept _ _)) fun _ => moved

theorem takeSkip_driveKept (pair : HallPair) (s : State) : DriveKept s (takeSkip pair s) :=
  (hallRead_driveKept pair s).trans (addReason_driveKept _ _)

theorem readSupply_driveKept (s : State) : DriveKept s (readSupply s) :=
  .of_moves (readSupply_moves s) (readSupply_sequenced s) fun ⟨_, _, _, warning⟩ => by
    rw [readSupply_eq]
    exact warning

end

end Sys2Proof.Machine
end

section
/-! What the other effects do to the laws of the drive: the line, commissioning, sensing and weather leave the drive
alone, and a peer can bring an evaluation or a yield. -/

namespace Sys2Proof.Machine

/-! ### Updates of one block -/

section
variable (s : State)

theorem DriveKept.setStored (v : List StoredField) : DriveKept s (s.setStored v) :=
  .aside (.setStored s v) rfl rfl rfl rfl rfl rfl
theorem DriveKept.setStore (v : Commissioning) : DriveKept s (s.setStore v) :=
  .aside (.setStore s v) rfl rfl rfl rfl rfl rfl
theorem DriveKept.setSensor (v : Sensor) : DriveKept s (s.setSensor v) :=
  .aside (.setSensor s v) rfl rfl rfl rfl rfl rfl
theorem DriveKept.setLine (v : Line) : DriveKept s (s.setLine v) := .aside (.setLine s v) rfl rfl rfl rfl rfl rfl
theorem DriveKept.setPeers (v : List PeerRecord) : DriveKept s (s.setPeers v) :=
  .aside (.setPeers s v) rfl rfl rfl rfl rfl rfl
theorem DriveKept.setWeather (v : Weather) : DriveKept s (s.setWeather v) :=
  .aside (.setWeather s v) rfl rfl rfl rfl rfl rfl
theorem DriveKept.setSupply (v : Supply) : DriveKept s (s.setSupply v) :=
  .aside (.setSupply s v) rfl rfl rfl rfl rfl rfl
theorem DriveKept.setPins (v : Pins) : DriveKept s (s.setPins v) := .aside (.setPins s v) rfl rfl rfl rfl rfl rfl
theorem DriveKept.setLineFeed (v : LineFeed) : DriveKept s (s.setLineFeed v) :=
  .aside (.setLineFeed s v) rfl rfl rfl rfl rfl rfl
theorem DriveKept.setPending (v : List Instr) : DriveKept s (s.setPending v) :=
  .aside (.setPending s v) rfl rfl rfl rfl rfl rfl

/-! ### The line and commissioning -/

theorem place_driveKept (k : Kind) (cls : Class) (p : List Byte) : DriveKept s (place k cls p s) := by
  rw [place_eq]
  exact .setLine s _

theorem startTransmission_driveKept : DriveKept s (startTransmission s) := by
  unfold startTransmission
  split
  · exact .refl s
  · exact .ite (fun _ => .setLine s _) fun _ => .refl s

theorem endTransmission_driveKept (outcome : ReadBack) (read : List Bool) :
    DriveKept s (endTransmission outcome read s) := by
  unfold endTransmission
  split
  · exact .refl s
  · refine .ite (fun _ => .refl s) fun _ => ?_
    cases outcome with
    | ongoing => exact .refl s
    | lost | clash | completed => exact .setLine s _

theorem reply_driveKept (index value : Nat) (status : Status) : DriveKept s (reply index value status s) :=
  place_driveKept s _ _ _

theorem closeWindow_driveKept : DriveKept s (closeWindow s) :=
  .ite (fun _ => (DriveKept.setStore s _).trans (.setLine _ _)) fun _ => .setStore s _

theorem openWindow_driveKept (index : Nat) : DriveKept s (openWindow index s) :=
  .ite (fun _ => (DriveKept.setStore s _).trans (reply_driveKept _ _ _ _)) fun _ => reply_driveKept s _ _ _

theorem beginWrite_driveKept (value index : Nat) : DriveKept s (beginWrite value index s) := by
  unfold beginWrite
  split
  · exact reply_driveKept s _ _ _
  · exact .ite (fun _ => .setStore s _) fun _ => reply_driveKept s _ _ _

theorem readField_driveKept (index : Nat) : DriveKept s (readField index s) := by
  unfold readField
  split <;> exact reply_driveKept s _ _ _

theorem completeWrite_driveKept (read : StoredField) : DriveKept s (completeWrite read s) := by
  unfold completeWrite
  split
  · exact .refl s
  · have written := fun l w => (DriveKept.setStored s l).trans (.setStore _ w)
    have replied := fun l w i v st => (written l w).trans (reply_driveKept _ i v st)
    exact .ite (fun _ => (replied _ _ _ _ _).trans (closeWindow_driveKept _)) fun _ => replied _ _ _ _ _

theorem takeConfigure_driveKept {closed perform : Nat → State → State} (hc : ∀ i t, DriveKept t (closed i t))
    (hp : ∀ i t, DriveKept t (perform i t)) (index : Nat) : DriveKept s (takeConfigure closed perform index s) := by
  have renewed : DriveKept s (renewWindow s) := .setStore s _
  exact .ite (fun _ => hc _ s) fun _ =>
    .ite (fun _ => renewed.trans (reply_driveKept _ _ _ _)) fun _ => renewed.trans (hp _ _)

/-! ### Sensing and weather -/

theorem takeEdge_driveKept : DriveKept s (takeEdge s) := by
  have counted : ∀ f, DriveKept s (s.setSensor f) := fun f => .setSensor s f
  exact .ite (fun _ => .refl s) fun _ => .ite (fun _ => (counted _).trans (.setWeather _ _)) fun _ => counted _

theorem takeGridSample_driveKept (v : BitVec 12) : DriveKept s (takeGridSample v s) := by
  refine .aside (takeGridSample_levelsKept v s) ?_ ?_ ?_ ?_ ?_ ?_ <;> rw [takeGridSample_eq]

theorem gustTrigger_driveKept : DriveKept s (gustTrigger s) := by
  refine .aside (gustTrigger_levelsKept s) ?_ ?_ ?_ ?_ ?_ ?_ <;> rw [gustTrigger_eq]

theorem takePeriodic_driveKept : DriveKept s (takePeriodic s) := by
  rw [takePeriodic_eq]
  exact .aside (.still rfl rfl rfl rfl rfl rfl) rfl rfl rfl rfl rfl rfl

theorem placeImmediate_driveKept (cls : Class) : DriveKept s (placeImmediate cls s) :=
  (place_driveKept s _ _ _).trans (.setWeather _ _)

theorem assessmentTick_driveKept : DriveKept s (assessmentTick s) :=
  ((DriveKept.setWeather s _).trans (takeResult_driveKept _ _ _ _ _)).trans (gustTrigger_driveKept _)

theorem takeWindowEnd_driveKept (vane : BitVec 4) : DriveKept s (takeWindowEnd vane s) := by
  have read := (DriveKept.setPins s { s.pins with vane := vane }).trans (.setSensor _ (windowFront vane s))
  cases hs : s.safe with
  | true => rw [takeWindowEnd_safe vane hs]; exact read
  | false =>
    rw [takeWindowEnd_assesses vane hs]
    exact (read.trans (.setWeather _ _)).trans (assessmentTick_driveKept _)

theorem takeOpenLatch_driveKept : DriveKept s (takeOpenLatch s) :=
  .ite (fun _ => (DriveKept.setSensor s _).trans (takePress_driveKept _ _)) fun _ => .refl s

theorem takeCloseLatch_driveKept : DriveKept s (takeCloseLatch s) :=
  .ite (fun _ => (DriveKept.setSensor s _).trans (takePress_driveKept _ _)) fun _ => .refl s

theorem takeButtonSample_driveKept (o c : Bool) : DriveKept s (takeButtonSample o c s) :=
  (((DriveKept.setPins s _).trans (.setSensor _ _)).trans (takeOpenLatch_driveKept _)).trans
    (takeCloseLatch_driveKept _)

/-! ### Peers and supply sharing -/

/-- An admission is taken in WAIT_SLOT, where no warning stands. -/
theorem evaluate_driveKept (h : s.supply.admission = .settling ∨ s.supply.admission = .waiting) :
    DriveKept s (evaluate s) := by
  refine .of_moves (evaluate_moves s h) (evaluate_sequenced s) fun ⟨_, _, _, warning⟩ => ?_
  rcases (evaluate_admitted s).drive with still | ⟨waits, -⟩
  · rw [still]; exact warning
  · simp [warning] at waits

theorem occasionToEvaluate_driveKept : DriveKept s (occasionToEvaluate s) :=
  .ite (fun waits => evaluate_driveKept s (.inr waits)) fun _ => .refl s

theorem dropAndEvaluate_driveKept (src : Nat) : DriveKept s (dropAndEvaluate src s) :=
  (DriveKept.setSupply s _).trans (occasionToEvaluate_driveKept _)

theorem takeNotice_driveKept (n : Notice) : DriveKept s (takeNotice s n) := by
  cases n with
  | removed src => exact dropAndEvaluate_driveKept s src
  | runningCleared src => exact occasionToEvaluate_driveKept s

theorem takeScan_driveKept : DriveKept s (takeScan s) := by
  have notices : ∀ (l : List Notice) (t : State), DriveKept t (l.foldl takeNotice t) := fun l => by
    induction l with
    | nil => exact .refl
    | cons n ns ih => exact fun t => (takeNotice_driveKept t n).trans (ih _)
  exact (DriveKept.setPeers s _).trans (notices _ _)

theorem notePeer_driveKept (src : Nat) (obs : Option Observation) (st : Option PeerState) :
    DriveKept s (notePeer src obs st s) := by
  unfold notePeer
  refine .ite (fun _ => .refl s) fun _ => ?_
  split
  · exact .setPeers s _
  · dsimp only
    split
    · exact .setPeers s _
    · exact (DriveKept.setPeers s _).trans (takeNotice_driveKept _ _)

theorem stateArrival_driveKept (f : Frame) :
    let st := peerStateOf f.payload s.nt
    let noted := notePeer f.source.toNat none (some st) s
    DriveKept s (if st.running then dropAndEvaluate f.source.toNat noted else occasionToEvaluate noted) :=
  .ite (fun _ => (notePeer_driveKept s _ _ _).trans (dropAndEvaluate_driveKept _ _))
    fun _ => (notePeer_driveKept s _ _ _).trans (occasionToEvaluate_driveKept _)

theorem takeIntent_driveKept (src : Nat) (p : List Byte) : DriveKept s (takeIntent src p s) := by
  have listed : DriveKept s (s.setSupply { s.supply with entries := listAfterIntent src p s }) := .setSupply s _
  unfold takeIntent
  dsimp only
  split
  case h_1 h => exact listed.trans (evaluate_driveKept _ (.inr h))
  case h_2 =>
    refine .ite (fun yields => listed.trans (orderYield_driveKept ?_)) fun _ => listed
    obtain ⟨⟨⟨target, handed⟩, -⟩, -⟩ := (intentYields_iff p _).1 yields
    rw [handed]
    exact nofun
  case h_3 | h_4 => exact listed

theorem refreshIntent_driveKept : DriveKept s (refreshIntent s) := by
  unfold refreshIntent
  dsimp only
  split
  · exact .setSupply s _
  · exact (place_driveKept s _ _ _).trans (.setSupply _ _)

end

/-! ### Arrivals -/

section
variable {take : Frame → State → State} (h : ∀ f t, DriveKept t (take f t))
include h

theorem arrival_driveKept (mine : Frame → Bool) (bits : List Bool) (s : State) :
    DriveKept s (arrival mine bits take s) := by
  unfold arrival
  split
  · exact .refl s
  · exact .ite (fun _ => (DriveKept.setLine s _).trans (h _ _)) fun _ => .refl s

theorem requestArrival_driveKept (action : Nat) (bits : List Bool) (s : State) :
    DriveKept s (requestArrival action bits take s) :=
  arrival_driveKept (fun f t => .ite (fun _ => h f t) fun _ => .refl t) _ bits s

theorem configureArrival_driveKept (operation : Nat) (bits : List Bool) (s : State) :
    DriveKept s (configureArrival operation bits take s) :=
  arrival_driveKept (fun f t => .ite (fun _ => h f t) fun _ => .refl t) _ bits s

end

end Sys2Proof.Machine
end

section
/-! Every step keeps the laws of the drive (R122, R123, R126, R127, R129 to R131, R137, R139, R143, R151, R163). -/

namespace Sys2Proof.Machine

/-! ### Starts -/

theorem boundedCount_bounds (count : Int) (stroke : Nat) :
    -1024 ≤ boundedCount count stroke ∧ boundedCount count stroke ≤ (stroke : Int) + 1024 := by
  unfold boundedCount
  split_ifs <;> omega

/-- A start leaves the drive in IDLE with nothing counted, and the count within its bounds (R154, R160, R161). -/
theorem startSequence_driveKept (kind : StartKind) (s u : State) : DriveKept u (startSequence kind s) where
  levels := .of_lawful (startSequence_lawful kind s)
  count := fun _ => by
    cases kind with
    | cold =>
      have zero : (startSequence .cold s).pos.count = 0 := rfl
      unfold CountInBounds
      omega
    | warm | restart => exact boundedCount_bounds _ _
  retry := fun _ => Nat.zero_le _
  timed := fun _ => ⟨trivial, by simp [startSequence, startTracker, startDrive]⟩
  sounded := fun _ => rfl
  seat := fun _ _ => ⟨fun _ => rfl, fun _ => ⟨rfl, nofun⟩⟩

theorem losePower_driveKept (torn : Bool) (s : State) : DriveKept s (losePower torn s) := by
  rw [losePower_eq]
  exact .aside (.still rfl rfl rfl rfl rfl rfl) rfl rfl rfl rfl rfl rfl

/-! ### The commands -/

section
variable {f : State → State} {s : State}

theorem live_driveKept (h : DriveKept s (f s)) : DriveKept s (live f s) :=
  .ite (fun _ => h.trans (commit_driveKept s _)) fun _ => .refl s

theorem liveWhen_driveKept {test : State → Bool} (h : test s = true → DriveKept s (f s)) :
    DriveKept s (liveWhen test f s) :=
  .ite (fun due => (h (Bool.and_eq_true_iff.1 due).2).trans (commit_driveKept s _)) fun _ => .refl s

end

/-- A cross-check reads the stroke sensor, and in IDLE sets its next deadline (R151). -/
theorem crossChecked_driveKept {s : State} (idle : s.drive.state = .idle) (stroke : BitVec 12) :
    DriveKept s ((s.setPins { s.pins with stroke := stroke }).setPos
      { s.pos with crossCheckDl := some (after s.nt 10000) }) where
  levels := .still rfl rfl rfl rfl rfl rfl
  count := id
  retry := id
  timed := fun ⟨ends, _⟩ => ⟨ends, by simp [idle]⟩
  sounded := id
  seat := fun _ => id

/-- Every command keeps the laws of the drive. -/
theorem exec_driveKept (c : Instr) (s : State) : ∃ t, exec c s = .next t ∧ DriveKept s t := by
  cases c with
  | powerUp => exact ⟨_, rfl, startSequence_driveKept _ _ s⟩
  | restartStart => exact ⟨_, rfl, .ite (fun _ => startSequence_driveKept _ _ s) fun _ => .refl s⟩
  | logicSupplyLoss torn => exact ⟨_, rfl, .ite (fun _ => losePower_driveKept torn s) fun _ => .refl s⟩
  | backupRailLoss => exact ⟨_, rfl, .aside (.still rfl rfl rfl rfl rfl rfl) rfl rfl rfl rfl rfl rfl⟩
  | listenEnd =>
    refine ⟨_, rfl, liveWhen_driveKept fun _ => ?_⟩
    have heard : DriveKept s (appoint (s.setListen false)) := appointFrom_driveKept rfl rfl rfl rfl rfl id
    exact heard.trans (beginSafeSeat_driveKept _)
  | safeSeatDeadline =>
    refine ⟨_, rfl, liveWhen_driveKept fun h => ?_⟩
    simp only [safeSeatDue, Bool.and_eq_true, decide_eq_true_eq] at h
    obtain ⟨⟨seating, phase⟩, -⟩ := h
    have ended : DriveKept s (s.setDrive { s.drive with safePhase := .ended }) :=
      .setDrive _ rfl rfl rfl id (.inr ⟨nofun, .inr (by simp [phase])⟩)
    have brakes := ended.trans (.of_moves_from (enterStopping_moves .goal _) (enterStopping_sequenced _ _)
      (by simp [seating]))
    exact brakes.trans (addReason_driveKept _ _)
  | anemometerEdge => exact ⟨_, rfl, live_driveKept (takeEdge_driveKept s)⟩
  | windowEnd vane => exact ⟨_, rfl, liveWhen_driveKept fun _ => takeWindowEnd_driveKept s vane⟩
  | startWindowEnd => exact ⟨_, rfl, liveWhen_driveKept fun _ => .setWeather s _⟩
  | stormExpiry | rainExpiry =>
    exact ⟨_, rfl, liveWhen_driveKept fun _ => (DriveKept.setWeather s _).trans (takeResult_driveKept _ _ _ _ _)⟩
  | gridSample v => exact ⟨_, rfl, liveWhen_driveKept fun _ => takeGridSample_driveKept s v⟩
  | buttonSample o c => exact ⟨_, rfl, liveWhen_driveKept fun _ => takeButtonSample_driveKept s o c⟩
  | keySample on => exact ⟨_, rfl, liveWhen_driveKept fun _ => takeKeySample_driveKept on s⟩
  | demandExpiry => exact ⟨_, rfl, liveWhen_driveKept fun _ => clearDemand_driveKept s⟩
  | transmissionStart => exact ⟨_, rfl, live_driveKept (startTransmission_driveKept s)⟩
  | transmissionLost read | identityClash read | transmissionComplete read =>
    exact ⟨_, rfl, live_driveKept (endTransmission_driveKept s _ read)⟩
  | observeArrival bits =>
    exact ⟨_, rfl, live_driveKept (arrival_driveKept (fun f t => notePeer_driveKept t _ _ _) _ bits s)⟩
  | stateArrival bits =>
    exact ⟨_, rfl, live_driveKept (arrival_driveKept (fun f t => stateArrival_driveKept t f) _ bits s)⟩
  | intentArrival bits => exact ⟨_, rfl, live_driveKept (arrival_driveKept
      (fun f t => (DriveKept.setPeers t _).trans (takeIntent_driveKept _ _ _)) _ bits s)⟩
  | withdrawArrival bits => exact ⟨_, rfl, live_driveKept (arrival_driveKept
      (fun f t => (DriveKept.setPeers t _).trans (dropAndEvaluate_driveKept _ _)) _ bits s)⟩
  | requestOpenTo bits =>
    exact ⟨_, rfl, live_driveKept (requestArrival_driveKept (fun f t => takeDemand_driveKept _ t) 0 bits s)⟩
  | requestClose bits =>
    exact ⟨_, rfl, live_driveKept (requestArrival_driveKept
      (fun f t => (takeDemand_driveKept .seat t).trans (takeCloseNotice_driveKept _)) 1 bits s)⟩
  | requestStop bits =>
    exact ⟨_, rfl, live_driveKept (requestArrival_driveKept (fun f t => clearDemand_driveKept t) 2 bits s)⟩
  | requestRelease bits =>
    exact ⟨_, rfl, live_driveKept (requestArrival_driveKept (fun f t => clearDemand_driveKept t) 3 bits s)⟩
  | requestRestart bits =>
    exact ⟨_, rfl, live_driveKept (arrival_driveKept
      (fun f t => .ite (fun _ => takeRestart_driveKept t) fun _ => .refl t) _ bits s)⟩
  | configureOpen bits =>
    exact ⟨_, rfl, live_driveKept (configureArrival_driveKept (fun f t => takeConfigure_driveKept t
      (fun i t => openWindow_driveKept t i) (fun _ t => reply_driveKept t _ _ _) _) 0 bits s)⟩
  | configureWrite bits =>
    exact ⟨_, rfl, live_driveKept (configureArrival_driveKept (fun f t => takeConfigure_driveKept t
      (fun _ t => reply_driveKept t _ _ _) (fun i t => beginWrite_driveKept t _ i) _) 1 bits s)⟩
  | configureRead bits =>
    exact ⟨_, rfl, live_driveKept (configureArrival_driveKept (fun f t => takeConfigure_driveKept t
      (fun _ t => reply_driveKept t _ _ _) (fun i t => readField_driveKept t i) _) 2 bits s)⟩
  | recordArrival bits | arrivalNotHandedOn bits =>
    exact ⟨_, rfl, live_driveKept (arrival_driveKept (fun _ t => .refl t) _ bits s)⟩
  | writeComplete v ch => exact ⟨_, rfl, liveWhen_driveKept fun _ => completeWrite_driveKept s _⟩
  | commissioningWindowDeadline => exact ⟨_, rfl, liveWhen_driveKept fun _ => endWindow_driveKept s⟩
  | isolationDeadline => exact ⟨_, rfl, liveWhen_driveKept fun _ => .setLine s _⟩
  | periodicObserveDeadline => exact ⟨_, rfl, liveWhen_driveKept fun _ => takePeriodic_driveKept s⟩
  | immediateHoldoffExpiry =>
    refine ⟨_, rfl, liveWhen_driveKept fun _ => ?_⟩
    split
    · exact .setWeather s _
    · exact .ite (fun _ => .setWeather s _) fun _ => placeImmediate_driveKept s _
  | runningRefreshDeadline => exact ⟨_, rfl, liveWhen_driveKept fun _ => noteOccasion_driveKept s⟩
  | peerScan => exact ⟨_, rfl, liveWhen_driveKept fun _ => takeScan_driveKept s⟩
  | settleDeadline =>
    refine ⟨_, rfl, liveWhen_driveKept fun h => ?_⟩
    have settling : s.supply.admission = .settling := (decide_and_due.1 h).1
    exact (DriveKept.setSupply s { s.supply with settleDl := none }).trans (evaluate_driveKept _ (.inl settling))
  | intentRefreshDeadline => exact ⟨_, rfl, liveWhen_driveKept fun _ => refreshIntent_driveKept s⟩
  | intentEntryAged src => exact ⟨_, rfl, liveWhen_driveKept fun _ => dropAndEvaluate_driveKept s _⟩
  | sag =>
    refine ⟨_, rfl, liveWhen_driveKept fun h => takeSag_driveKept ?_⟩
    simp only [sagDue, energised, Bool.and_eq_true] at h
    exact h.1.1.2
  | supplyBelowHallFloor v =>
    exact ⟨_, rfl, liveWhen_driveKept fun _ =>
      ((DriveKept.setPins s _).trans (readSupply_driveKept _)).trans (addReason_driveKept _ _)⟩
  | overCurrent => exact ⟨_, rfl, liveWhen_driveKept fun _ => detection_driveKept s⟩
  | velocityWindowEnd => exact ⟨_, rfl, liveWhen_driveKept fun _ => takeVelocity_driveKept s⟩
  | warningDeadline =>
    refine ⟨_, rfl, liveWhen_driveKept fun _ => .ite enterSafeSeating_driveKept fun other => ?_⟩
    exact .of_moves (enterRamp_moves s) (enterRamp_sequenced s) fun ⟨_, _, phase, _⟩ => absurd phase other
  | rampStep => exact ⟨_, rfl, liveWhen_driveKept fun h => takeRampStep_driveKept (decide_and_due.1 h).1⟩
  | stopDeadline =>
    exact ⟨_, rfl, liveWhen_driveKept fun h =>
      (endBraking_driveKept (decide_and_due.1 h).1).trans (beginSafeSeat_driveKept _)⟩
  | seatTimeout =>
    refine ⟨_, rfl, liveWhen_driveKept fun h => ?_⟩
    have seating : s.drive.state = .seating := (decide_and_due.1 h).1
    let u := s.setDrive { s.drive with seatRecord := some (position s) }
    have missed : DriveKept s u := .setDrive _ rfl rfl rfl id (.inl rfl)
    have moving : (addReason .seatUnconfirmed u).drive.state ≠ .warning := fun k => by
      rcases (addReason_steered .seatUnconfirmed u).moving (by simp [u, seating, DriveState.energised]) with m | m
      · exact absurd m.1 (energised_not k rfl)
      · simp [k] at m
    exact (missed.trans (addReason_driveKept _ u)).trans
      (.of_moves_from (arrive_moves _) (arrive_sequenced _) moving)
  | backoffDeadline =>
    refine ⟨_, rfl, liveWhen_driveKept fun h => ?_⟩
    exact .of_moves_from (enterStopping_moves _ s) (enterStopping_sequenced s _) (by simp [(decide_and_due.1 h).1])
  | retryDeadline | sagHoldoffDeadline =>
    refine ⟨_, rfl, liveWhen_driveKept fun h => ?_⟩
    exact .of_moves_from (waitOrIdle_moves s) (waitOrIdle_sequenced s) (by simp [(decide_and_due.1 h).1])
  | refuseEnd => exact ⟨_, rfl, liveWhen_driveKept fun _ => .setDrive _ rfl rfl rfl id (.inl rfl)⟩
  | hallStep pair =>
    exact ⟨_, rfl, .ite (fun _ => liveWhen_driveKept fun _ => takeStep_driveKept pair s) fun _ => .setPins s _⟩
  | hallSkip pair =>
    exact ⟨_, rfl, .ite (fun _ => liveWhen_driveKept fun _ => takeSkip_driveKept pair s) fun _ => .setPins s _⟩
  | crossCheckDeadline v =>
    refine ⟨_, rfl, liveWhen_driveKept fun h => ?_⟩
    obtain ⟨-, idle, -⟩ := (crossCheckDue_iff s).1 h
    exact .after (.of_moves_from (compareAtRest_moves _) (compareAtRest_sequenced _) (by simp [idle]))
      (crossChecked_driveKept idle v)

/-! ### The clock -/

theorem passTime_driveKept (u : Nat) (s : State) : DriveKept s (passTime u s) :=
  (DriveKept.setLine s _).trans (.setLineFeed _ _)

theorem happen_driveKept (e : LineEvent) (s : State) : DriveKept s (happen e s) := by
  cases e with
  | stop | sample => exact (DriveKept.setLine s _).trans (.setPending _ _)
  | begin =>
    show DriveKept s (beginPulses s)
    rw [beginPulses_eq]
    exact .aside (.still rfl rfl rfl rfl rfl rfl) rfl rfl rfl rfl rfl rfl

theorem millisecond_driveKept (s : State) : DriveKept s (millisecond s) := by
  have rises : DriveKept s (risen s) := .aside (.still rfl rfl rfl rfl rfl rfl) rfl rfl rfl rfl rfl rfl
  rw [millisecond_eq]
  exact rises.trans (readSupply_driveKept _)

theorem runLine_driveKept (s : State) : DriveKept s (runLine s) := by
  unfold runLine
  split
  · exact millisecond_driveKept s
  · exact .ite (fun _ => (passTime_driveKept _ s).trans (happen_driveKept _ _)) fun _ => millisecond_driveKept s

theorem tick_driveKept (s : State) : DriveKept s (tick s) := by
  have aside : ∀ {t}, LevelsKept s t → t.safe = s.safe → t.cfg = s.cfg → t.drive = s.drive → t.pos = s.pos →
      t.levels = s.levels → DriveKept s t := fun levels safe cfg drive pos same =>
    .aside levels safe cfg drive (by rw [pos]) (by rw [pos]) (by rw [same])
  exact .ite (fun _ => aside (.still rfl rfl rfl rfl rfl rfl) rfl rfl rfl rfl rfl) fun _ =>
    .ite (fun _ => aside (.still rfl rfl rfl rfl rfl rfl) rfl rfl rfl rfl rfl) fun _ =>
    .ite (fun _ => .setPending s _) fun _ => .ite (fun _ => .setPending s _) fun _ => runLine_driveKept s

/-! ### The step -/

theorem step_driveKept {s t : State} (h : step s = .next t) : DriveKept s t := by
  unfold step at h
  split at h
  · next c rest _ =>
    obtain ⟨u, hu, kept⟩ := exec_driveKept c (s.setPending rest)
    obtain rfl : u = t := Host.Outcome.next.inj (hu.symm.trans h)
    exact (DriveKept.setPending s rest).trans kept
  · obtain rfl : tick s = t := Host.Outcome.next.inj h
    exact tick_driveKept s

/-- Settles O9: every command and the clock keep each law of the drive. -/
theorem stepKeepsTheDriveTimedAndBounded : Obligations.StepKeepsTheDriveTimedAndBounded :=
  ⟨fun _ _ count retry h => ⟨(step_driveKept h).count count, (step_driveKept h).retry retry⟩,
    fun _ _ timed h => (step_driveKept h).timed timed,
    fun _ _ sounded h => (step_driveKept h).sounded sounded,
    fun _ _ lawful seat h => (step_driveKept h).seat lawful seat⟩

end Sys2Proof.Machine
end

section
/-! The velocity windows and the stall (R128, R152), and the cross-check in IDLE (R151). -/

namespace Sys2Proof.Machine

/-! ### Velocity windows -/

/-- The change of the count since the velocity window began (R152). -/
def velocityNow (s : State) : Nat := (s.pos.count - s.pos.windowStart).natAbs

/-- The next velocity window begun, with a stall run of `run`. -/
def windowTaken (run : Nat) (s : State) : State := { s with
  pos := { s.pos with velocity := velocityNow s, windowStart := s.pos.count, windowBegin := s.nt }
  drive := { s.drive with stallRun := run } }

theorem takeVelocity_eq (s : State) : takeVelocity s =
    let run := stallRunAfter (velocityNow s) s
    if energised s && decide (3 ≤ run) then detection (windowTaken run s) else windowTaken run s := rfl

/-- A window that brings no stall. -/
theorem velocityWindowEnd_passes {s : State} {run : Nat} (hr : Ready s) (he : velocityEnds s = true)
    (found : stallRunAfter (velocityNow s) s = run) (few : energised s = true → run < 3) :
    exec .velocityWindowEnd s = .next (windowTaken run s) := by
  refine congrArg Host.Outcome.next (liveWhen_quiet hr he ?_ rfl rfl rfl rfl)
  rw [takeVelocity_eq, found]
  refine if_neg fun stalls => ?_
  rw [Bool.and_eq_true, decide_eq_true_eq] at stalls
  exact absurd (few stalls.1) (Nat.not_lt.2 stalls.2)

/-- The third window in a row below the stall speed is a stall. -/
theorem velocityWindowEnd_stalls {s : State} {run : Nat} (hr : Ready s) (he : velocityEnds s = true)
    (found : stallRunAfter (velocityNow s) s = run) (on : energised s = true) (many : 3 ≤ run) :
    exec .velocityWindowEnd s = .next (commit s (detection (windowTaken run s))) := by
  refine congrArg Host.Outcome.next ((liveWhen_due _ hr.1 he).trans (congrArg (commit s) ?_))
  rw [takeVelocity_eq, found]
  exact if_pos (by simp [on, many])

section
variable {s : State} {v : Nat}

theorem stallRunAfter_off (h : energised s = false) : stallRunAfter v s = s.drive.stallRun := by
  simp [stallRunAfter, h]

theorem stallRunAfter_early (h : due s.pos.windowBegin s.drive.checkStart = false) :
    stallRunAfter v s = s.drive.stallRun := by simp [stallRunAfter, h]

theorem stallRunAfter_checked (on : energised s = true) (h : due s.pos.windowBegin s.drive.checkStart = true) :
    stallRunAfter v s = if v < stallSpeed s then s.drive.stallRun + 1 else 0 := by
  simp [stallRunAfter, on, h]

end

/-- A detection leaves the velocity window. -/
theorem detection_window (s : State) :
    (detection s).pos.velocity = s.pos.velocity ∧ (detection s).pos.windowBegin = s.pos.windowBegin := by
  have moves : ∀ {t}, Moves s t → t.pos.velocity = s.pos.velocity ∧ t.pos.windowBegin = s.pos.windowBegin :=
    fun h => ⟨h.velocity, h.windowBegin⟩
  have seat : (recogniseSeat s).pos.velocity = s.pos.velocity ∧
      (recogniseSeat s).pos.windowBegin = s.pos.windowBegin := by
    obtain ⟨reasons, phase, occasion, -, -, seated⟩ := recogniseSeat_eq s
    obtain ⟨levels, goal, frame⟩ := seatNotices_frame (s := seatFound reasons phase occasion s) rfl rfl (suspect s)
      (position_zero (by rfl))
    rw [seated, frame]
    exact ⟨rfl, rfl⟩
  have moving : (detection.movingDetection s).pos.velocity = s.pos.velocity ∧
      (detection.movingDetection s).pos.windowBegin = s.pos.windowBegin := by
    unfold detection.movingDetection
    split
    · exact seat
    · exact moves (recogniseObstruction_moves s)
  unfold detection
  split
  case h_1 => exact seat
  case h_2 => exact moves (enterStopping_moves _ s)
  case h_3 | h_4 | h_5 => exact moving
  case h_6 => exact ⟨rfl, rfl⟩

theorem Detected.ends {s n : State} (h : Detected s n) (m : State) : Detected s (commit m n) := by
  rw [commit_frame]
  exact h

/-! ### The cross-check -/

section
variable {s : State}

theorem compareAtRest_agrees (h : strokeDisagrees s = false) : compareAtRest s = s := by simp [compareAtRest, h]

/-- A sensor that is apart adds MISMATCH, and no more where the position was suspect or no level acts. -/
theorem compareAtRest_notes (apart : strokeDisagrees s = true) (h : acting s = none ∨ suspect s = true) :
    compareAtRest s = putReason .mismatch s := by
  rcases h with h | h <;> simp [compareAtRest, apart, h]

/-- The onset that a cross-check brings in IDLE hands closed-seated in the name of the acting level. -/
theorem compareAtRest_hands {l : Level} (apart : strokeDisagrees s = true) (idle : s.drive.state = .idle)
    (led : acting s = some l) (clear : suspect s = false) :
    compareAtRest s = takeGoalAtRest (some ⟨l, .seat⟩) ((putReason .mismatch s).setLevels
      { s.levels with handed := some ⟨l, .seat⟩, holdRef := some (position s) }) := by
  have formed : formGoal (putReason .mismatch s) = some ⟨l, .seat⟩ := formGoal_suspect led (suspect_mismatch s)
  have handed : recordHanding (putReason .mismatch s) = (putReason .mismatch s).setLevels
      { s.levels with handed := some ⟨l, .seat⟩, holdRef := some (position s) } := by
    unfold recordHanding
    dsimp only
    rw [formed, if_neg nofun, if_pos (show (putReason .mismatch s).drive.state = .idle from idle)]
    rfl
  unfold compareAtRest
  dsimp only
  rw [if_pos apart, if_neg (by simp [clear, led])]
  unfold handGoalAtRest
  rw [formed, handed]

end

/-- Closed-seated handed at rest: the drive asks for the supply where the goal needs motion and no controlled stop holds
it (R120, R138). -/
theorem takeGoalAtRest_seat {s n : State} {l : Level} (idle : s.drive.state = .idle)
    (taken : takeGoalAtRest (some ⟨l, .seat⟩) s = n) :
    n.levels = s.levels ∧ n.drive.goal = some ⟨l, .seat⟩ ∧
    n.pos.reasons = s.pos.reasons ∧ n.pos.referenced = s.pos.referenced ∧ n.pos.count = s.pos.count ∧
    (s.drive.controlledStop = true ∨ needsMotion ⟨l, .seat⟩ s = false →
      n.drive.state = .idle ∧ n.supply = s.supply) ∧
    (s.drive.controlledStop = false → needsMotion ⟨l, .seat⟩ s = true → n.drive.state = .waitSlot ∧
      (s.safe = false → s.supply.admission = .none → n.supply.admission = .settling ∧
        n.supply.own = some (l, .closing) ∧ n.supply.settleDl = some (after s.nt 250))) := by
  rw [takeGoalAtRest_some] at taken
  by_cases asks : (!s.drive.controlledStop && needsMotion ⟨l, .seat⟩ s) = true
  · have requests := enterWaitSlot_asks (s := withDriveGoal (some ⟨l, .seat⟩) s) rfl
    rw [if_pos asks] at taken
    rw [show enterWaitSlot (withDriveGoal _ s) = n from taken] at requests
    rw [enterWaitSlot_eq (g := ⟨l, .seat⟩) rfl] at taken
    rw [Bool.and_eq_true, Bool.not_eq_true'] at asks
    have frame : n.levels = s.levels ∧ n.drive.goal = some ⟨l, .seat⟩ ∧ n.pos.reasons = s.pos.reasons ∧
        n.pos.referenced = s.pos.referenced ∧ n.pos.count = s.pos.count ∧ n.drive.state = .waitSlot := by
      rw [← taken]
      exact ⟨rfl, rfl, rfl, rfl, rfl, rfl⟩
    obtain ⟨levels, goal, reasons, zero, count, waits⟩ := frame
    refine ⟨levels, goal, reasons, zero, count, fun h => ?_, fun _ _ => ⟨waits, fun safe unasked => requests safe ?_⟩⟩
    · simp [asks] at h
    · exact fun admitted => nomatch unasked.symm.trans admitted
  · rw [if_neg asks] at taken
    subst taken
    refine ⟨rfl, rfl, rfl, rfl, rfl, fun _ => ⟨idle, rfl⟩, fun free moving => absurd ?_ asks⟩
    simp [free, moving]

/-- The stroke sensor read in a cross-check, and the next one set (R151). -/
def crossChecked (stroke : BitVec 12) (s : State) : State := { s with
  pins := { s.pins with stroke := stroke }, pos := { s.pos with crossCheckDl := some (after s.nt 10000) } }

theorem crossChecked_disagrees {s : State} {stroke : BitVec 12} (fitted : s.cfg.strokeFitted = true) :
    strokeDisagrees (crossChecked stroke s) = true ↔ s.pos.referenced = true ∧
      s.cfg.mismatch < gap (strokePosition stroke.toNat s.cfg.closedReading s.cfg.openReading) (position s) :=
  (strokeDisagrees_iff (crossChecked stroke s)).trans ⟨And.right, fun h => ⟨fitted, h⟩⟩

theorem exec_crossCheckDeadline {s t : State} {stroke : BitVec 12} (hr : Ready s) (hd : crossCheckDue s = true)
    (ht : compareAtRest (crossChecked stroke s) = t) : exec (.crossCheckDeadline stroke) s = .next (commit s t) :=
  congrArg Host.Outcome.next ((liveWhen_due _ hr.1 hd).trans (congrArg (commit s) ht))

/-- Settles O53: a window ends as the stall run it brings says, and a cross-check as the comparison with the sensor. -/
theorem velocityAndCrossCheckAreTaken : Obligations.VelocityAndCrossCheckAreTaken := by
  refine ⟨fun s hr he => ⟨fun off => ?_, fun on early few => ?_, fun on checked fast => ?_,
    fun on checked slow few => ?_, fun on checked slow many within => ?_⟩,
    fun stroke s hr fitted idle passed => ⟨fun agrees => ?_, fun referenced apart => ?_⟩⟩
  · exact velocityWindowEnd_passes hr he (stallRunAfter_off off) fun on => by simp [off] at on
  · exact velocityWindowEnd_passes hr he (stallRunAfter_early early) fun _ => few
  · exact velocityWindowEnd_passes hr he ((stallRunAfter_checked on checked).trans (if_neg (Nat.not_lt.2 fast)))
      fun _ => by omega
  · exact velocityWindowEnd_passes hr he ((stallRunAfter_checked on checked).trans (if_pos slow)) fun _ => by omega
  · have stalls := velocityWindowEnd_stalls hr he ((stallRunAfter_checked on checked).trans (if_pos slow)) on
      (by omega)
    obtain ⟨velocity, begun⟩ := detection_window (windowTaken (s.drive.stallRun + 1) s)
    have found : Detected (windowTaken (s.drive.stallRun + 1) s) (detection (windowTaken (s.drive.stallRun + 1) s)) :=
      detection_detected (by simp only [energised, Bool.and_eq_true] at on; exact on.2) within
    refine ⟨_, stalls, ?_, ?_, found.ends s⟩
    · rw [commit_frame]; exact velocity
    · rw [commit_frame]; exact begun
  · have due : crossCheckDue s = true := (crossCheckDue_iff s).2 ⟨fitted, idle, passed⟩
    have together : strokeDisagrees (crossChecked stroke s) = false := by
      rw [← Bool.not_eq_true, crossChecked_disagrees fitted]
      rintro ⟨referenced, apart⟩
      rcases agrees with h | h
      · simp [h] at referenced
      · omega
    exact congrArg Host.Outcome.next (liveWhen_quiet hr due (compareAtRest_agrees together) rfl rfl rfl rfl)
  · have due : crossCheckDue s = true := (crossCheckDue_iff s).2 ⟨fitted, idle, passed⟩
    have disagrees : strokeDisagrees (crossChecked stroke s) = true :=
      (crossChecked_disagrees fitted).2 ⟨referenced, apart⟩
    have zeroKept : (s.pos.referenced && !Reason.mismatch.losesZero) = true := by rw [referenced]; rfl
    by_cases silent : acting s = none ∨ suspect s = true
    · refine ⟨_, exec_crossCheckDeadline hr due (compareAtRest_notes disagrees silent), ?_, ?_, ?_, ?_⟩
      · rw [commit_frame]; rfl
      · rw [commit_frame]; exact zeroKept
      · rw [commit_frame]; rfl
      · refine ⟨fun _ => ?_, fun l led clear => ?_⟩
        · rw [commit_frame]; exact ⟨rfl, rfl, rfl⟩
        · simp [led, clear] at silent
    · simp only [not_or, Bool.not_eq_true] at silent
      obtain ⟨leads, clear⟩ := silent
      obtain ⟨l, led⟩ := Option.ne_none_iff_exists'.1 leads
      have hands := compareAtRest_hands (s := crossChecked stroke s) disagrees idle led clear
      obtain ⟨levels, goal, reasons, zero, count, rests, asks⟩ :=
        takeGoalAtRest_seat (by exact idle) hands.symm
      refine ⟨_, exec_crossCheckDeadline hr due rfl, ?_⟩
      rw [commit_frame]
      refine ⟨?_, zero.trans zeroKept, count, fun h => ?_, fun l' led' _ => ?_⟩
      · exact congrArg Reasons.mismatch reasons
      · simp [leads, clear] at h
      · obtain rfl : l = l' := Option.some.inj (led.symm.trans led')
        exact ⟨levels, goal, rests, asks⟩

end Sys2Proof.Machine
end

section
/-! A position that is suspect (R145): what a handing keeps of the goal, the handed goal, the reasons and the reference. -/

namespace Sys2Proof.Machine

/-- From `s`, its position suspect, to `t` the goal in hand and the handed goal stand, the referenced flag too, and no
reason but a MISMATCH joins. -/
structure SuspectKept (s t : State) : Prop where
  goal : t.drive.goal = s.drive.goal
  handed : t.levels.handed = s.levels.handed
  referenced : t.pos.referenced = s.pos.referenced
  reasons : t.pos.reasons = s.pos.reasons ∨ t.pos.reasons = s.pos.reasons.add .mismatch

/-- `SuspectKept` where the position is suspect. -/
def StandsSuspect (s t : State) : Prop := suspect s = true → SuspectKept s t

section
variable {s t u : State}

theorem SuspectKept.suspect (h : SuspectKept s t) (hs : suspect s = true) : suspect t = true := by
  rcases h.reasons with same | added
  · exact (congrArg Reasons.any same).trans hs
  · exact (congrArg Reasons.any added).trans (any_add_mismatch _)

theorem StandsSuspect.trans (h : StandsSuspect s t) (k : StandsSuspect t u) : StandsSuspect s u := fun hs => by
  have first := h hs
  have second := k (first.suspect hs)
  refine ⟨second.goal.trans first.goal, second.handed.trans first.handed, second.referenced.trans first.referenced, ?_⟩
  rcases second.reasons with r | r <;> rcases first.reasons with q | q <;> rw [r, q]
  · exact .inl rfl
  · exact .inr rfl
  · exact .inr rfl
  · exact .inr rfl

theorem StandsSuspect.still (goal : t.drive.goal = s.drive.goal) (handed : t.levels.handed = s.levels.handed)
    (referenced : t.pos.referenced = s.pos.referenced) (reasons : t.pos.reasons = s.pos.reasons) :
    StandsSuspect s t := fun _ => ⟨goal, handed, referenced, .inl reasons⟩

theorem StandsSuspect.refl (s : State) : StandsSuspect s s := .still rfl rfl rfl rfl

theorem StandsSuspect.ite {c : Prop} [Decidable c] (h : c → StandsSuspect s t) (k : ¬c → StandsSuspect s u) :
    StandsSuspect s (if c then t else u) := by
  split
  · exact h ‹_›
  · exact k ‹_›

end

/-! ### Passages -/

section
variable (s : State)

theorem enterStopping_standsSuspect (c : Continuation) : StandsSuspect s (enterStopping c s) := by
  rw [enterStopping_stops]
  exact .still rfl rfl rfl rfl

theorem arrive_standsSuspect : StandsSuspect s (arrive s) := by
  rw [arrive_eq]
  exact .still rfl rfl rfl rfl

theorem enterApproach_standsSuspect : StandsSuspect s (enterApproach s) := by
  rw [enterApproach_eq]
  exact .still rfl rfl rfl rfl

theorem positionTests_standsSuspect : StandsSuspect s (positionTests s) := by
  have seats : StandsSuspect s (enterSeating s) := by
    rw [enterSeating_eq]
    exact .still rfl rfl rfl rfl
  exact positionTests_of s (.refl s) (fun _ => seats) (arrive_standsSuspect s) fun _ => enterApproach_standsSuspect s

theorem enterRamp_standsSuspect : StandsSuspect s (enterRamp s) := by
  cases hg : s.drive.goal with
  | none =>
    have brakes : enterRamp s = enterStopping .goal s := by simp [enterRamp, hg]
    rw [brakes]
    exact enterStopping_standsSuspect s _
  | some g =>
    by_cases h : suspect s = true ∧ g.target ≠ .seat
    · rw [enterRamp_brakes hg h, enterStopping_stops]
      exact .still rfl rfl rfl rfl
    · have begins : StandsSuspect s (rampBegun g s) := .still rfl rfl rfl rfl
      have tested := begins.trans (positionTests_standsSuspect _)
      rw [enterRamp_begins hg h]
      rcases rampToTravel_cases (positionTests (rampBegun g s)) with ⟨-, -, k⟩ | ⟨-, k⟩ <;> rw [k]
      · have travels : ∀ v, StandsSuspect v (travelBegun v) := fun _ => .still rfl rfl rfl rfl
        exact (tested.trans (travels _)).trans (positionTests_standsSuspect _)
      · exact tested

theorem requestAdmission_standsSuspect (level : Level) (dir : Dir) : StandsSuspect s (requestAdmission level dir s) := by
  rw [requestAdmission_eq]
  exact .still rfl rfl rfl rfl

theorem enterWaitSlot_standsSuspect {g : Goal} (hg : s.drive.goal = some g) : StandsSuspect s (enterWaitSlot s) := by
  rw [enterWaitSlot_eq hg]
  exact .still rfl rfl rfl rfl

/-- A further reason makes no notice: an entry into IDLE hands nothing. -/
theorem enterIdle_standsSuspect : StandsSuspect s (enterIdle s) := fun hs => by
  obtain ⟨-, -, -, -, -, -, referenced, apart, agrees, -, rests, -⟩ := enterIdle_cameToRest s
  obtain ⟨-, goal, handed⟩ := rests (.inr (.inl hs))
  refine ⟨goal, handed, referenced, ?_⟩
  by_cases h : s.cfg.strokeFitted = true ∧ s.pos.referenced = true ∧ s.cfg.mismatch <
      gap (strokePosition s.pins.stroke.toNat s.cfg.closedReading s.cfg.openReading) (position s)
  · exact .inr (apart h)
  · exact .inl (agrees h)

theorem waitOrIdle_standsSuspect : StandsSuspect s (waitOrIdle s) := by
  unfold waitOrIdle
  split
  · exact enterIdle_standsSuspect s
  · next hg => exact .ite (fun _ => enterWaitSlot_standsSuspect s hg) fun _ => enterIdle_standsSuspect s

theorem forgiveAndGo_standsSuspect : StandsSuspect s (forgiveAndGo s) := by
  have forgiven : StandsSuspect s (s.setDrive { s.drive with retry := 0 }) := .still rfl rfl rfl rfl
  exact forgiven.trans (waitOrIdle_standsSuspect _)

/-! ### Goals -/

theorem changeWhileMoving_standsSuspect (old g : Option Goal) : StandsSuspect s (changeWhileMoving old g s) := by
  have stops : StandsSuspect s (enterStopping .goal s) := enterStopping_standsSuspect s _
  cases g with
  | none => exact stops
  | some new =>
    exact .ite (fun _ => arrive_standsSuspect s) fun _ => .ite (fun _ => stops) fun _ =>
      .ite (fun _ => .ite (fun _ => .ite (fun _ => .refl s) fun _ =>
        (enterApproach_standsSuspect s).trans (positionTests_standsSuspect _)) fun _ => positionTests_standsSuspect s)
        fun _ => stops

theorem changeWhileWarning_standsSuspect (g : Option Goal) : StandsSuspect s (changeWhileWarning g s) := by
  have rests := enterIdle_standsSuspect s
  cases g with
  | none => exact rests
  | some new =>
    have warns : ∀ dl, StandsSuspect s (warningUntil dl s) := fun _ => .still rfl rfl rfl rfl
    exact .ite (fun _ => rests) fun _ => .ite (fun _ => (warns _).trans (enterRamp_standsSuspect _)) fun _ => warns _

theorem changeWhileWaiting_standsSuspect (g : Option Goal) : StandsSuspect s (changeWhileWaiting g s) := by
  cases g with
  | none => exact enterIdle_standsSuspect s
  | some new => exact .ite (fun _ => requestAdmission_standsSuspect s _ _) fun _ => enterIdle_standsSuspect s

/-- A goal taken in any drive state comes to hand and stays there. -/
theorem takeGoal_standsSuspect (g : Option Goal) : StandsSuspect (withDriveGoal g s) (takeGoal g s) := by
  have given : StandsSuspect (withDriveGoal g s) (withDriveGoal g s) := .refl _
  have held : StandsSuspect (withDriveGoal g s)
      ((withDriveGoal g s).setDrive { s.drive with goal := g, heldChange := true }) := .still rfl rfl rfl rfl
  have moves := changeWhileMoving_standsSuspect (withDriveGoal g s) s.drive.goal g
  have rests := enterIdle_standsSuspect (withDriveGoal g s)
  unfold takeGoal
  refine .ite (fun _ => given) fun _ => ?_
  dsimp only
  split
  case h_1 =>
    cases g with
    | none => exact given
    | some goal =>
      rw [takeGoalAtRest_some]
      exact .ite (fun _ => enterWaitSlot_standsSuspect (withDriveGoal (some goal) s) rfl) fun _ => given
  case h_2 => exact .ite (fun _ => given) fun _ => changeWhileWaiting_standsSuspect (withDriveGoal g s) g
  case h_3 => exact .ite (fun _ => given) fun _ => changeWhileWarning_standsSuspect (withDriveGoal g s) g
  case h_4 | h_5 | h_6 | h_7 => exact .ite (fun _ => given) fun _ => moves
  case h_8 => exact .ite (fun _ => given) fun _ => .ite (fun _ => held) fun _ => given
  case h_9 =>
    exact .ite (fun _ => given) fun _ =>
      .ite (fun _ => enterStopping_standsSuspect (withDriveGoal g s) _) fun _ => held
  case h_10 | h_12 =>
    exact .ite (fun _ => given) fun _ => .ite (fun _ => rests) fun _ => forgiveAndGo_standsSuspect (withDriveGoal g s)
  case h_11 => exact .ite (fun _ => rests) fun _ => given

/-- A handing with the position suspect hands closed-seated in the name of the acting level (R85). -/
theorem handGoal_suspect {s : State} {l : Level} (led : acting s = some l) (hs : suspect s = true) :
    (handGoal s).levels.handed = some ⟨l, .seat⟩ ∧ (handGoal s).drive.goal = some ⟨l, .seat⟩ ∧
    (handGoal s).pos.referenced = s.pos.referenced ∧
    ((handGoal s).pos.reasons = s.pos.reasons ∨ (handGoal s).pos.reasons = s.pos.reasons.add .mismatch) := by
  have formed : formGoal s = some ⟨l, .seat⟩ := formGoal_suspect led hs
  obtain ⟨goal, handed, referenced, reasons⟩ := takeGoal_standsSuspect (recordHanding s) (formGoal s) hs
  exact ⟨handed.trans formed, goal.trans formed, referenced, reasons⟩

end

end Sys2Proof.Machine
end

section
/-! A reason added and the onset of suspect (R134, R145), and what follows a change of the count (R144, R86). -/

namespace Sys2Proof.Machine

/-! ### A reason added (R145) -/

/-- What the onset of suspect brings from `s` to `t` (R134, R85): a move towards a goal that is not closed brakes, and
closed-seated is handed in the name of the acting level. -/
def OnsetTaken (s t : State) : Prop :=
  (∀ g, s.drive.goal = some g → g.target ≠ .seat →
    s.drive.state = .ramp ∨ s.drive.state = .travel ∨ s.drive.state = .approach →
    t.drive.state = .stopping ∧ t.drive.continuation = some .goal ∧ t.drive.stopDl = some (after s.nt 200)) ∧
  (∀ l, acting s = some l → t.levels.handed = some ⟨l, .seat⟩ ∧ t.drive.goal = some ⟨l, .seat⟩)

/-- The drive brakes for GOAL until a deadline (R127). -/
def BrakesUntil (dl : Time) (d : Drive) : Prop :=
  d.state = .stopping ∧ d.continuation = some .goal ∧ d.stopDl = some dl

section
variable {s : State}

/-- A further reason makes no notice. -/
theorem addReason_again (h : suspect s = true) (r : Reason) : addReason r s = putReason r s := if_pos h

/-- The node at the onset of suspect, before the Level Controller takes the notice. -/
def onsetAt (r : Reason) (s : State) : State := driveOnset (putReason r s)

theorem onsetAt_acting (r : Reason) (s : State) : acting (onsetAt r s) = acting s := (driveOnset_moves _).acting

theorem addReason_unled (clear : suspect s = false) (unled : acting s = none) (r : Reason) :
    addReason r s = onsetAt r s :=
  (if_neg (by simp [clear])).trans (if_pos ((onsetAt_acting r s).trans unled))

theorem addReason_hands {l : Level} (clear : suspect s = false) (led : acting s = some l) (r : Reason) :
    addReason r s = handGoal (onsetAt r s) := by
  have leads : acting (onsetAt r s) ≠ none := by
    rw [onsetAt_acting, led]
    exact nofun
  exact (if_neg (by simp [clear])).trans (if_neg leads)

theorem onsetAt_pos (r : Reason) (s : State) : (onsetAt r s).pos.reasons = s.pos.reasons.add r ∧
    (onsetAt r s).pos.referenced = (s.pos.referenced && !r.losesZero) := by
  unfold onsetAt driveOnset
  split
  · exact ⟨rfl, rfl⟩
  · split
    · exact ⟨rfl, rfl⟩
    · exact ⟨rfl, rfl⟩

theorem onsetAt_suspect (r : Reason) (s : State) : suspect (onsetAt r s) = true :=
  (congrArg Reasons.any (onsetAt_pos r s).1).trans (any_add r _)

/-- A reason added stands in the set, the reference is lost where it loses it, and no other but a MISMATCH joins. -/
theorem addReason_pos (r : Reason) (s : State) : (addReason r s).pos.referenced = (s.pos.referenced && !r.losesZero) ∧
    ((addReason r s).pos.reasons = s.pos.reasons.add r ∨
      (addReason r s).pos.reasons = (s.pos.reasons.add r).add .mismatch) := by
  obtain ⟨reasons, referenced⟩ := onsetAt_pos r s
  cases clear : suspect s with
  | true => rw [addReason_again clear]; exact ⟨rfl, .inl rfl⟩
  | false => cases ha : acting s with
    | none => rw [addReason_unled clear ha]; exact ⟨referenced, .inl reasons⟩
    | some l =>
      obtain ⟨-, -, zero, set⟩ := handGoal_suspect ((onsetAt_acting r s).trans ha) (onsetAt_suspect r s)
      rw [reasons] at set
      rw [addReason_hands clear ha]
      exact ⟨zero.trans referenced, set⟩

theorem addReason_suspect (r : Reason) (s : State) : suspect (addReason r s) = true := by
  rcases (addReason_pos r s).2 with h | h
  · exact (congrArg Reasons.any h).trans (any_add r _)
  · exact (congrArg Reasons.any h).trans (any_add _ _)

/-- A braking for GOAL stands through the handing of the onset (R127). -/
theorem addReason_brakes {dl : Time} {r : Reason} (clear : suspect s = false)
    (h : BrakesUntil dl (onsetAt r s).drive) : BrakesUntil dl (addReason r s).drive := by
  cases ha : acting s with
  | none => rw [addReason_unled clear ha]; exact h
  | some l =>
    have ⟨stopping, goal, _⟩ := h
    rw [addReason_hands clear ha, handGoal_braking stopping goal
      (formGoal_suspect ((onsetAt_acting r s).trans ha) (onsetAt_suspect r s))]
    exact h

theorem onsetAt_brakes {g : Goal} (hg : s.drive.goal = some g) (far : g.target ≠ .seat) (runs : testsRun s)
    (r : Reason) : BrakesUntil (after s.nt 200) (onsetAt r s).drive := by
  have brakes : onsetAt r s = enterStopping .goal (putReason r s) := by
    have goal : (putReason r s).drive.goal = some g := hg
    unfold onsetAt driveOnset
    rw [goal]
    refine if_pos ?_
    have moving : testsRun (putReason r s) := runs
    unfold testsRun at moving
    simpa [far, or_assoc] using moving
  rw [brakes]
  exact ⟨rfl, rfl, rfl⟩

/-- A handing at the onset is closed-seated in the name of the acting level (R85). -/
theorem addReason_handed {l : Level} (clear : suspect s = false) (led : acting s = some l) (r : Reason) :
    (addReason r s).levels.handed = some ⟨l, .seat⟩ ∧ (addReason r s).drive.goal = some ⟨l, .seat⟩ := by
  obtain ⟨handed, goal, -⟩ := handGoal_suspect ((onsetAt_acting r s).trans led) (onsetAt_suspect r s)
  rw [addReason_hands clear led]
  exact ⟨handed, goal⟩

theorem addReason_onset (r : Reason) (clear : suspect s = false) : OnsetTaken s (addReason r s) :=
  ⟨fun _ hg far runs => addReason_brakes clear (onsetAt_brakes hg far runs r),
    fun _ led => addReason_handed clear led r⟩

/-- Suspect already, or without a move and a level that acts, a reason makes no notice. -/
theorem addReason_quiet (r : Reason) (h : suspect s = true ∨ (acting s = none ∧ s.drive.state.energised = false)) :
    (addReason r s).levels = s.levels ∧ (addReason r s).drive = s.drive := by
  cases hs : suspect s with
  | true => rw [addReason_again hs]; exact ⟨rfl, rfl⟩
  | false =>
    obtain ⟨unled, off⟩ := h.resolve_left (by simp [hs])
    have still : ¬testsRun (putReason r s) := by
      rintro (k | k | k) <;> rw [show s.drive.state = _ from k] at off <;> cases off
    rw [addReason_unled hs unled, onsetAt, driveOnset_still still]
    exact ⟨rfl, rfl⟩

end

/-! ### A change of the count (R144, R86) -/

/-- The drive's tests at a change of the count. -/
def countTested (s : State) : State := backoffTest (positionTests s)

/-- From `s` to `t` neither the position nor what is kept of it moves, nor is a STATE asked for. -/
structure PositionStands (s t : State) : Prop where
  pos : t.pos = { s.pos with crossCheckDl := t.pos.crossCheckDl }
  cfg : t.cfg = s.cfg
  occasion : t.occasion = s.occasion

section
variable {s t u : State}

theorem PositionStands.refl (s : State) : PositionStands s s := ⟨rfl, rfl, rfl⟩

theorem PositionStands.trans (h : PositionStands s t) (k : PositionStands t u) : PositionStands s u where
  pos := by rw [k.pos, h.pos]
  cfg := k.cfg.trans h.cfg
  occasion := k.occasion.trans h.occasion

theorem PositionStands.position (h : PositionStands s t) : position t = position s := by
  unfold Machine.position
  rw [h.pos, h.cfg]

theorem enterStopping_positionStands (c : Continuation) (s : State) : PositionStands s (enterStopping c s) := by
  rw [enterStopping_stops]
  exact ⟨rfl, rfl, rfl⟩

theorem countTested_positionStands (s : State) : PositionStands s (countTested s) := by
  have tests : PositionStands s (positionTests s) := by
    refine positionTests_of s (.refl s) (fun _ => ?_) ?_ fun _ => ?_
    · rw [enterSeating_eq]; exact ⟨rfl, rfl, rfl⟩
    · rw [arrive_eq]; exact ⟨rfl, rfl, rfl⟩
    · rw [enterApproach_eq]; exact ⟨rfl, rfl, rfl⟩
  unfold countTested backoffTest
  split
  · exact tests.trans (enterStopping_positionStands _ _)
  · exact tests

theorem countTested_rests (h : s.drive.state.energised = false) : countTested s = s := by
  have untested : ¬testsRun s := by rintro (k | k | k) <;> rw [k] at h <;> cases h
  unfold countTested
  rw [positionTests_untested s untested]
  exact if_neg fun k => by rw [k.1] at h; cases h

theorem takeGoal_idle_positionStands (idle : s.drive.state = .idle) (g : Option Goal) :
    PositionStands s (takeGoal g s) := by
  have given : PositionStands s (withDriveGoal g s) := ⟨rfl, rfl, rfl⟩
  cases hc : s.drive.controlledStop with
  | true => rw [takeGoal_controlled hc]; exact given
  | false =>
    rw [takeGoal_idle hc idle]
    cases g with
    | none => exact given
    | some goal =>
      rw [takeGoalAtRest_some]
      split
      · rw [enterWaitSlot_eq (g := goal) rfl]
        exact ⟨rfl, rfl, rfl⟩
      · exact given

/-- The drift test hands in IDLE alone, where no comparison follows (R86). -/
theorem driftTest_positionStands (s : State) : PositionStands s (driftTest s) := by
  unfold driftTest
  split
  · exact .refl s
  · split
    · next drifts =>
      simp only [Bool.and_eq_true, beq_iff_eq] at drifts
      have idle : (recordHanding s).drive.state = .idle := drifts.1.2
      have handed : PositionStands s (recordHanding s) := ⟨rfl, rfl, rfl⟩
      exact handed.trans (takeGoal_idle_positionStands idle (formGoal s))
    · exact .refl s

/-- What follows a change of the count: the tests, and on a change of the reported position the drift test and, 20 pm
away from the last reported one, the occasion for a STATE. -/
theorem countChanged_eq (before : Nat) (s : State) : countChanged before s =
    if position s = before then countTested s
    else if 20 ≤ gap (position s) s.pos.lastReported then noteOccasion (driftTest (countTested s))
    else driftTest (countTested s) := by
  have tested := countTested_positionStands s
  have drifted := tested.trans (driftTest_positionStands (countTested s))
  have reported : (driftTest (countTested s)).pos.lastReported = s.pos.lastReported := by rw [drifted.pos]
  unfold countChanged
  dsimp only
  rw [show backoffTest (positionTests s) = countTested s from rfl, tested.position, drifted.position, reported]

theorem countChanged_pos (before : Nat) (s : State) : (countChanged before s).pos =
    { s.pos with crossCheckDl := (countChanged before s).pos.crossCheckDl } := by
  have tested := countTested_positionStands s
  have drifted := tested.trans (driftTest_positionStands (countTested s))
  rw [countChanged_eq]
  split
  · exact tested.pos
  · split
    · exact drifted.pos
    · exact drifted.pos

theorem countChanged_occasion (before : Nat) (s : State) : (countChanged before s).occasion =
    (decide (position s ≠ before ∧ 20 ≤ gap (position s) s.pos.lastReported) || s.occasion) := by
  have tested := countTested_positionStands s
  have drifted := tested.trans (driftTest_positionStands (countTested s))
  rw [countChanged_eq]
  by_cases same : position s = before
  · simp [same, tested.occasion]
  · by_cases far : 20 ≤ gap (position s) s.pos.lastReported
    · simp [same, far, noteOccasion]
    · simp [same, far, drifted.occasion]

/-- Out of IDLE no drift is looked for (R86). -/
theorem countChanged_drive (before : Nat) (h : (countTested s).drive.state ≠ .idle) :
    (countChanged before s).drive = (countTested s).drive ∧ (countChanged before s).supply = (countTested s).supply := by
  have noDrift : driftTest (countTested s) = countTested s := by
    unfold driftTest
    split
    · rfl
    · simp [h]
  rw [countChanged_eq, noDrift]
  split
  · exact ⟨rfl, rfl⟩
  · split <;> exact ⟨rfl, rfl⟩

/-- Towards a goal that is not closed the tests let the move go on or brake it for arrival (R124). -/
theorem countTested_moving {g : Goal} (hg : s.drive.goal = some g) (far : g.target ≠ .seat) (runs : testsRun s) :
    (testsRun (countTested s) ∧ (countTested s).drive.goal = some g) ∨
      BrakesUntil (after s.nt 200) (countTested s).drive := by
  have tested : (testsRun (positionTests s) ∧ (positionTests s).drive.goal = some g) ∨
      BrakesUntil (after s.nt 200) (positionTests s).drive := by
    cases hd : s.drive.dir with
    | none =>
      rw [show positionTests s = s by simp [positionTests, hg, hd]]
      exact .inl ⟨runs, hg⟩
    | some dir =>
      rcases positionTests_cases hg hd runs with ⟨near, -⟩ | ⟨-, h⟩ | ⟨-, -, ⟨-, -, h⟩ | ⟨-, h⟩⟩
      · exact absurd near.1 far
      · rw [h, arrive_eq]; exact .inr ⟨rfl, rfl, rfl⟩
      · rw [h, enterApproach_eq]; exact .inl ⟨.inr (.inr rfl), hg⟩
      · rw [h]; exact .inl ⟨runs, hg⟩
  have noBackoff : (positionTests s).drive.state ≠ .backoff := by
    rcases tested with ⟨k | k | k, -⟩ | ⟨k, -⟩ <;> simp [k]
  rw [countTested, backoffTest, if_neg fun k => noBackoff k.1]
  exact tested

end

/-! ### A step (R142, R143) -/

/-- The count that a step would give (R142). -/
def nextCount (pair : HallPair) (s : State) : Int := steppedCount s.pos.hall pair s.pos.count

/-- A step would pass a bound of the count (R143). -/
abbrev PassesBound (pair : HallPair) (s : State) : Prop :=
  nextCount pair s < -1024 ∨ (s.cfg.stroke : Int) + 1024 < nextCount pair s

/-- A step reaches a bound of the count (R143). -/
abbrev ReachesBound (pair : HallPair) (s : State) : Prop :=
  nextCount pair s = -1024 ∨ nextCount pair s = (s.cfg.stroke : Int) + 1024

section
variable {s : State} {pair : HallPair}

theorem takeStep_bounds (pair : HallPair) (s : State) : takeStep pair s =
    if PassesBound pair s then addReason .overrange (hallRead pair s)
    else if ReachesBound pair s then addReason .overrange (countChanged (position s) (stepCounted pair s))
    else countChanged (position s) (stepCounted pair s) := rfl

theorem takeStep_beyond (h : PassesBound pair s) : takeStep pair s = addReason .overrange (hallRead pair s) := by
  rw [takeStep_bounds, if_pos h]

theorem takeStep_bound (h : ReachesBound pair s) :
    takeStep pair s = addReason .overrange (countChanged (position s) (stepCounted pair s)) := by
  rw [takeStep_bounds, if_neg (by omega), if_pos h]

theorem takeStep_within (low : -1024 < nextCount pair s) (high : nextCount pair s < (s.cfg.stroke : Int) + 1024) :
    takeStep pair s = countChanged (position s) (stepCounted pair s) := by
  rw [takeStep_bounds, if_neg (by omega), if_neg (by omega)]

/-- What a step leaves: below the count all is as an operation of the drive leaves it. -/
theorem takeStep_moves (pair : HallPair) (s : State) :
    (PassesBound pair s ∧ Moves (hallRead pair s) (takeStep pair s)) ∨
    (¬PassesBound pair s ∧ Moves (stepCounted pair s) (takeStep pair s)) := by
  rw [takeStep_bounds]
  split
  · next beyond => exact .inl ⟨beyond, addReason_moves _ _⟩
  · next within =>
    refine .inr ⟨within, ?_⟩
    split
    · exact (countChanged_moves _ _).trans (addReason_moves _ _)
    · exact countChanged_moves _ _

end

end Sys2Proof.Machine
end

section
/-! The reported position (R144), the drift at rest (R86), and the clauses of a Hall step (R142 to R147). -/

namespace Sys2Proof.Machine

/-! ### The reported position (R144) -/

theorem position_below {s : State} (h : s.pos.count ≤ 0) : position s = 0 := by
  have quotient : (s.pos.count * 1000).tdiv s.cfg.stroke ≤ 0 := by
    have up : 0 ≤ (-(s.pos.count * 1000)).tdiv s.cfg.stroke := Int.tdiv_nonneg (by omega) (Int.natCast_nonneg _)
    rw [Int.neg_tdiv] at up
    omega
  unfold position positionOf clampInt
  split
  · rfl
  · rw [if_neg (by omega)]
    omega

theorem position_above {s : State} (h : 0 ≤ s.pos.count) :
    position s = min 1000 (s.pos.count.toNat * 1000 / s.cfg.stroke) := by
  obtain ⟨n, hn⟩ := Int.eq_ofNat_of_zero_le h
  have quotient : (s.pos.count * 1000).tdiv s.cfg.stroke = ((n * 1000 / s.cfg.stroke : Nat) : Int) := by
    rw [hn]
    exact_mod_cast Int.ofNat_tdiv (n * 1000) s.cfg.stroke
  have count : s.pos.count.toNat = n := by omega
  unfold position positionOf clampInt
  rw [quotient, count]
  generalize n * 1000 / s.cfg.stroke = q
  split_ifs <;> omega

/-! ### Drift at rest (R86) -/

section
variable {s : State}

/-- The goal of the acting level (R85). -/
theorem formGoal_led {l : Level} (led : acting s = some l) : formGoal s = some ⟨l,
    if suspect s = true ∨ l = .storm then .seat
    else (if l = .rain then s.levels.rainTarget else s.levels.demandTarget).getD .seat⟩ := by
  cases l <;> simp [formGoal, led]

/-- A goal handed in IDLE: it and the hold reference are recorded, and the drive asks for the supply where the goal needs
motion and no controlled stop holds it (R86, R120, R138). -/
theorem handGoal_idle {g : Goal} (idle : s.drive.state = .idle) (formed : formGoal s = some g) :
    (handGoal s).levels = { s.levels with handed := some g, holdRef := some (position s) } ∧
    (handGoal s).drive.goal = some g ∧
    (s.drive.controlledStop = false →
      (handGoal s).drive.state = if needsMotion g (handGoal s) then .waitSlot else .idle) := by
  have levels : (recordHanding s).levels = { s.levels with handed := some g, holdRef := some (position s) } := by
    unfold recordHanding
    dsimp only [State.setLevels_levels]
    rw [formed, if_neg nofun, if_pos idle]
  have idle' : (recordHanding s).drive.state = .idle := idle
  by_cases asks : s.drive.controlledStop = false ∧ needsMotion g (recordHanding s) = true
  · have made : handGoal s = enterWaitSlot (withDriveGoal (some g) (recordHanding s)) := by
      unfold handGoal
      rw [formed]
      exact takeGoal_idle_asks asks.1 idle' asks.2
    rw [enterWaitSlot_eq (g := g) rfl] at made
    have moving : needsMotion g (handGoal s) = true := by
      rw [made]
      exact asks.2
    rw [moving, made]
    exact ⟨levels, rfl, fun _ => rfl⟩
  · have made : handGoal s = withDriveGoal (some g) (recordHanding s) := by
      unfold handGoal
      rw [formed]
      cases free : s.drive.controlledStop with
      | true => exact takeGoal_controlled (s := recordHanding s) free _
      | false =>
        refine takeGoal_idle_still idle' fun goal h => ?_
        obtain rfl : g = goal := Option.some.inj h
        simpa [free] using asks
    refine ⟨made ▸ levels, made ▸ rfl, fun free => ?_⟩
    have stays : needsMotion g (handGoal s) = false := by
      rw [made]
      exact Bool.eq_false_iff.2 fun k => asks ⟨free, k⟩
    rw [stays, made]
    exact idle

theorem driftTest_hands {l : Level} {h : Nat} (idle : s.drive.state = .idle) (led : acting s = some l)
    (hold : s.levels.holdRef = some h) (far : 20 < gap (position s) h) : driftTest s = handGoal s := by
  simp [driftTest, hold, led, idle, far]

theorem driftTest_still (h : acting s = none ∨ s.levels.holdRef = none ∨
    ∃ h, s.levels.holdRef = some h ∧ gap (position s) h ≤ 20) : driftTest s = s := by
  unfold driftTest
  rcases h with h | h | ⟨r, h, near⟩
  · split <;> simp [h]
  · simp [h]
  · simp [h, Nat.not_lt.2 near]

end

/-! ### The clauses of a step (R142 to R147) -/

theorem onsetAt_braking {s : State} {dl : Time} (h : BrakesUntil dl s.drive) (r : Reason) :
    BrakesUntil dl (onsetAt r s).drive := by
  have still : onsetAt r s = putReason r s := driveOnset_still fun runs => by
    rcases runs with k | k | k <;> exact nomatch h.1.symm.trans k
  rw [still]
  exact h

/-- A goal that is reached ends the move (R124, R125). -/
theorem countTested_arrives {s : State} {g : Goal} {dir : Dir} (hg : s.drive.goal = some g)
    (hd : s.drive.dir = some dir) (runs : testsRun s) (reached : goalReached g dir s) : countTested s = arrive s := by
  have arrives : positionTests s = arrive s := by
    rcases positionTests_cases hg hd runs with ⟨near, -⟩ | ⟨-, h⟩ | ⟨-, short, -⟩
    · exact absurd near.1 reached.1
    · exact h
    · exact absurd reached short
  rw [countTested, arrives]
  exact if_neg fun k => nomatch k.1

theorem countChanged_suspect (before : Nat) (s : State) : suspect (countChanged before s) = suspect s := by
  unfold suspect
  rw [countChanged_pos]

/-- The OVERRANGE of a step at a bound comes after the tests of its count (notes/assumptions/18.md). -/
theorem countChanged_onset {s : State} (clear : suspect s = false) (before : Nat) (r : Reason) :
    OnsetTaken s (addReason r (countChanged before s)) := by
  have moved := countChanged_moves before s
  have stillClear : suspect (countChanged before s) = false := (countChanged_suspect before s).trans clear
  refine ⟨fun g hg far runs => addReason_brakes stillClear ?_,
    fun l led => addReason_handed stillClear (moved.acting.trans led) r⟩
  rcases countTested_moving hg far runs with ⟨on, goal⟩ | brakes
  · have moving : (countTested s).drive.state ≠ .idle := by rcases on with k | k | k <;> rw [k] <;> exact nofun
    obtain ⟨drive, -⟩ := countChanged_drive before moving
    have onset := onsetAt_brakes (s := countChanged before s) (by rw [drive]; exact goal) far
      (by unfold testsRun; rw [drive]; exact on) r
    rwa [moved.nt] at onset
  · have moving : (countTested s).drive.state ≠ .idle := by rw [brakes.1]; exact nofun
    obtain ⟨drive, -⟩ := countChanged_drive before moving
    exact onsetAt_braking (by rw [drive]; exact brakes) r

theorem reportedFields_suspect {s t : State} (h : suspect s ≠ suspect t) : reportedFields s ≠ reportedFields t :=
  fun k => h (congrArg (fun f => f.2.2.1) k)

section
variable {s : State} {pair : HallPair}

theorem takeStep_pins (pair : HallPair) (s : State) : (takeStep pair s).pins = { s.pins with hall := pair } ∧
    (takeStep pair s).pos.hall = pair := by
  rcases takeStep_moves pair s with ⟨-, h⟩ | ⟨-, h⟩
  · exact ⟨h.pins, h.hall⟩
  · exact ⟨h.pins, h.hall⟩

theorem takeStep_count (pair : HallPair) (s : State) : (takeStep pair s).pos.count =
    if PassesBound pair s then s.pos.count
    else nextCount pair s := by
  rcases takeStep_moves pair s with ⟨beyond, h⟩ | ⟨within, h⟩
  · rw [if_pos beyond]; exact h.count
  · rw [if_neg within]; exact h.count

theorem takeStep_placement (k : Kind) (pair : HallPair) (s : State) :
    refusesPlacement k (takeStep pair s) = refusesPlacement k s := by
  have same : ∀ {u : State}, Moves u (takeStep pair s) → refusesPlacement k u = refusesPlacement k s →
      refusesPlacement k (takeStep pair s) = refusesPlacement k s := fun h hu => by
    rw [← hu]
    simp only [refusesPlacement, h.listen, h.listenOnly, h.safe, h.store]
  rcases takeStep_moves pair s with ⟨-, h⟩ | ⟨-, h⟩
  · exact same h rfl
  · exact same h rfl

theorem takeStep_position_beyond (h : PassesBound pair s) :
    position (takeStep pair s) = position s := by
  rw [takeStep_beyond h]
  have moves := addReason_moves .overrange (hallRead pair s)
  unfold position
  rw [moves.count, moves.cfg]
  rfl

/-- The reported position of a counted step. -/
theorem takeStep_position (h : ¬PassesBound pair s) :
    position (takeStep pair s) = position (stepCounted pair s) := by
  rcases takeStep_moves pair s with ⟨beyond, -⟩ | ⟨-, moves⟩
  · exact absurd beyond h
  · unfold position
    rw [moves.count, moves.cfg]

/-- A step that reaches a bound, or would pass it (R143, R145). -/
theorem takeStep_overrange (h : nextCount pair s ≤ -1024 ∨
    (s.cfg.stroke : Int) + 1024 ≤ nextCount pair s) :
    (takeStep pair s).pos.reasons.overrange = true ∧ (takeStep pair s).pos.referenced = false ∧
    (suspect s = false → OnsetTaken s (takeStep pair s)) := by
  have added : ∀ u : State, (addReason .overrange u).pos.reasons.overrange = true ∧
      (addReason .overrange u).pos.referenced = false := fun u => by
    obtain ⟨zero, set⟩ := addReason_pos .overrange u
    refine ⟨?_, zero.trans (Bool.and_false _)⟩
    rcases set with k | k <;> rw [k] <;> rfl
  by_cases beyond : PassesBound pair s
  · obtain ⟨flag, zero⟩ := added (hallRead pair s)
    rw [takeStep_beyond beyond]
    exact ⟨flag, zero, fun clear => addReason_onset (s := hallRead pair s) _ clear⟩
  · obtain ⟨flag, zero⟩ := added (countChanged (position s) (stepCounted pair s))
    rw [takeStep_bound (by omega)]
    exact ⟨flag, zero, fun clear => countChanged_onset (s := stepCounted pair s) clear _ _⟩

/-- A step 20 pm away from the last reported position asks for a STATE (R144). -/
theorem takeStep_reports (moved : position (takeStep pair s) ≠ position s)
    (far : 20 ≤ gap (position (takeStep pair s)) s.pos.lastReported) :
    (takeStep pair s).occasion = true ∨ reportedFields s ≠ reportedFields (takeStep pair s) := by
  by_cases beyond : PassesBound pair s
  · exact absurd (takeStep_position_beyond beyond) moved
  · rw [takeStep_position beyond] at moved far
    have noted : (countChanged (position s) (stepCounted pair s)).occasion = true := by
      rw [countChanged_occasion]
      simp [moved, show 20 ≤ gap (position (stepCounted pair s)) (stepCounted pair s).pos.lastReported from far]
    by_cases bound : ReachesBound pair s
    · rw [takeStep_bound bound]
      cases hs : suspect s with
      | true =>
        rw [addReason_again ((countChanged_suspect _ (stepCounted pair s)).trans hs)]
        exact .inl noted
      | false =>
        refine .inr (reportedFields_suspect ?_)
        rw [hs, addReason_suspect]
        exact nofun
    · rw [takeStep_within (by omega) (by omega)]
      exact .inl noted

/-- Any other step asks for none. -/
theorem takeStep_unreported (quiet : s.occasion = false)
    (near : position (takeStep pair s) = position s ∨ gap (position (takeStep pair s)) s.pos.lastReported < 20)
    (same : reportedFields (takeStep pair s) = reportedFields s) :
    (takeStep pair s).occasion = false ∧ (takeStep pair s).pos.lastReported = s.pos.lastReported := by
  have again : ∀ u : State, takeStep pair s = addReason .overrange u → suspect u = suspect s →
      takeStep pair s = putReason .overrange u := fun u hu kept => by
    refine hu.trans (addReason_again ?_ _)
    cases hs : suspect u with
    | true => rfl
    | false =>
      refine absurd same.symm (reportedFields_suspect ?_)
      rw [hu, addReason_suspect, ← kept, hs]
      exact nofun
  by_cases beyond : PassesBound pair s
  · rw [again _ (takeStep_beyond beyond) rfl]
    exact ⟨quiet, rfl⟩
  · rw [takeStep_position beyond] at near
    have unnoted : (countChanged (position s) (stepCounted pair s)).occasion = false := by
      rw [countChanged_occasion, show (stepCounted pair s).occasion = false from quiet, Bool.or_false,
        decide_eq_false_iff_not]
      rintro ⟨moved, far⟩
      rcases near with k | k
      · exact moved k
      · exact absurd far (Nat.not_le.2 k)
    have reported : (countChanged (position s) (stepCounted pair s)).pos.lastReported = s.pos.lastReported := by
      rw [countChanged_pos]
      rfl
    by_cases bound : ReachesBound pair s
    · rw [again _ (takeStep_bound bound) (countChanged_suspect _ _)]
      exact ⟨unnoted, reported⟩
    · rw [takeStep_within (by omega) (by omega)]
      exact ⟨unnoted, reported⟩

end

end Sys2Proof.Machine
end

section
/-! The Hall steps, the skips and the Hall floor settled (R142 to R147). -/

namespace Sys2Proof.Machine

/-! ### A step in IDLE (R86) -/

section
variable {s : State} {before : Nat} (idle : s.drive.state = .idle)
include idle

theorem countChanged_idle : ∃ occasion, countChanged before s =
    { (if position s = before then s else driftTest s) with occasion := occasion } := by
  rw [countChanged_eq, countTested_rests (by rw [idle]; rfl)]
  split
  · exact ⟨_, rfl⟩
  · split <;> exact ⟨_, rfl⟩

/-- A drift at rest hands the goal of the acting level again (R86). -/
theorem countChanged_drifts {l : Level} {h : Nat} {g : Goal} (led : acting s = some l)
    (hold : s.levels.holdRef = some h) (moved : position s ≠ before) (far : 20 < gap (position s) h)
    (formed : formGoal s = some g) :
    (countChanged before s).levels = { s.levels with handed := some g, holdRef := some (position s) } ∧
    (countChanged before s).drive.goal = some g ∧
    (s.drive.controlledStop = false → (countChanged before s).drive.state =
      if needsMotion g (countChanged before s) then .waitSlot else .idle) := by
  obtain ⟨occasion, changed⟩ := countChanged_idle (before := before) idle
  rw [if_neg moved, driftTest_hands idle led hold far] at changed
  rw [changed]
  exact handGoal_idle idle formed

/-- Without a drift a step at rest moves neither the levels nor the drive. -/
theorem countChanged_holds (h : acting s = none ∨ s.levels.holdRef = none ∨ position s = before ∨
    ∃ h, s.levels.holdRef = some h ∧ gap (position s) h ≤ 20) :
    (countChanged before s).levels = s.levels ∧ (countChanged before s).drive = s.drive := by
  have still : (if position s = before then s else driftTest s) = s := by
    split
    · rfl
    · next moved =>
      refine driftTest_still ?_
      rcases h with h | h | h | h
      · exact .inl h
      · exact .inr (.inl h)
      · exact absurd h moved
      · exact .inr (.inr h)
  obtain ⟨occasion, changed⟩ := countChanged_idle (before := before) idle
  rw [changed, still]
  exact ⟨rfl, rfl⟩

end

/-! ### The ends of the commands -/

section
variable {s u : State}

theorem position_commit (s u : State) : position (commit s u) = position u := by
  rw [commit_frame]
  rfl

theorem OnsetTaken.ends (h : OnsetTaken s u) (m : State) : OnsetTaken s (commit m u) := by
  rw [commit_frame]
  exact h

theorem commit_quietly (levels : u.levels = s.levels) (drive : u.drive = s.drive) :
    (commit s u).levels = s.levels ∧ (commit s u).drive = { s.drive with refreshDl := (commit s u).drive.refreshDl } :=
  ⟨(commit_levels s u).trans levels, (commit_drive s u).trans (by rw [drive])⟩

/-- Without an occasion and a change of a reported field the last reported position stands (R38). -/
theorem commit_unreported (quiet : u.occasion = false) (same : reportedFields u = reportedFields s) :
    (commit s u).pos.lastReported = u.pos.lastReported := by
  simp [commit, quiet, same, renewRecord]

theorem exec_hallStep {pair : HallPair} (hr : Ready s) (steps : pair = hallNext s.pos.hall ∨ s.pos.hall = hallNext pair) :
    exec (.hallStep pair) s = .next (commit s (takeStep pair s)) :=
  congrArg Host.Outcome.next ((if_pos hr.1).trans (liveWhen_due _ hr.1 ((oneChannel_iff _ _).2 steps)))

theorem exec_hallSkip {pair : HallPair} (hr : Ready s) (skips : pair = ~~~s.pos.hall) :
    exec (.hallSkip pair) s = .next (commit s (addReason .hallSkip (hallRead pair s))) :=
  congrArg Host.Outcome.next ((if_pos hr.1).trans (liveWhen_due _ hr.1 ((bothChannels_iff _ _).2 skips)))

/-- The reading of a supply below the Hall floor, with the timers that it runs (R113, R128, R146). -/
def floorRead (reading : Nat) (sagTimer ocTimer : Option Time) (s : State) : State := { s with
  pins := { s.pins with supply := reading }
  supply := { s.supply with sagTimer := sagTimer }, drive := { s.drive with ocTimer := ocTimer } }

theorem exec_supplyBelowHallFloor {reading : Nat} (hr : Ready s) (low : reading < 160) (on : energised s = true) :
    ∃ sagTimer ocTimer, exec (.supplyBelowHallFloor reading) s =
      .next (commit s (addReason .sagInMotion (floorRead reading sagTimer ocTimer s))) :=
  ⟨_, _, congrArg Host.Outcome.next ((liveWhen_due _ hr.1 ((belowHallFloor_iff _ _).2 ⟨low, on⟩)).trans
    (congrArg (fun u => commit s (addReason .sagInMotion u)) (readSupply_eq (s.setPins _))))⟩

end

/-- A target in pm is reached in the direction of the move (R124). -/
theorem goalReached_pm {s : State} {g : Goal} {p : Nat} (ht : g.target = .pm p) :
    (goalReached g .closing s ↔ s.pos.count ≤ ((p * s.cfg.stroke / 1000 : Nat) : Int)) ∧
    (goalReached g .opening s ↔ ((p * s.cfg.stroke / 1000 : Nat) : Int) ≤ s.pos.count) := by
  unfold goalReached
  rw [ht]
  exact ⟨⟨fun h => Int.le_of_sub_nonpos h.2, fun h => ⟨nofun, Int.sub_nonpos_of_le h⟩⟩,
    ⟨fun h => Int.le_of_sub_nonpos h.2, fun h => ⟨nofun, Int.sub_nonpos_of_le h⟩⟩⟩

/-- A move that reaches its target brakes for GOAL, and the move has ended (R124, R125). -/
theorem takeStep_arrives {s : State} {pair : HallPair} {g : Goal} {dir : Dir}
    (low : -1024 < nextCount pair s) (high : nextCount pair s < (s.cfg.stroke : Int) + 1024)
    (travels : s.drive.state = .travel) (hg : s.drive.goal = some g) (hd : s.drive.dir = some dir)
    (reached : goalReached g dir (stepCounted pair s)) :
    (takeStep pair s).drive.state = .stopping ∧ (takeStep pair s).drive.continuation = some .goal ∧
    (takeStep pair s).supply.sagCount = 0 := by
  have arrives := countTested_arrives (s := stepCounted pair s) hg hd (.inr (.inl travels)) reached
  obtain ⟨drive, supply⟩ := countChanged_drive (s := stepCounted pair s) (position s) (by rw [arrives]; exact nofun)
  rw [takeStep_within low high, drive, supply, arrives]
  exact ⟨rfl, rfl, rfl⟩

/-- A step within the bounds adds no reason. -/
theorem takeStep_reasons {s : State} {pair : HallPair} (low : -1024 < nextCount pair s)
    (high : nextCount pair s < (s.cfg.stroke : Int) + 1024) :
    (takeStep pair s).pos.reasons = s.pos.reasons ∧ (takeStep pair s).pos.referenced = s.pos.referenced := by
  rw [takeStep_within low high, countChanged_pos]
  exact ⟨rfl, rfl⟩

/-- Settles O52: a step is read, counted within its bounds and tested, and a reason added after that; a skip and a low
supply add theirs at once. -/
theorem hallStepsMoveTheCount : Obligations.HallStepsMoveTheCount := by
  refine ⟨fun s => ⟨position_below, position_above⟩, fun pair s hr steps => ?_, fun pair s hr skips => ?_,
    fun reading s hr low on => ?_⟩
  · obtain ⟨pins, hall⟩ := takeStep_pins pair s
    have place := position_commit s (takeStep pair s)
    refine ⟨_, exec_hallStep hr steps, ?_, ?_, ?_, fun bound => ?_, fun beyond quiet => ?_, fun low high _ => ?_,
      fun low high travels g p dir hg ht hd reaches => ?_,
      fun (low : -1024 < nextCount pair s) (high : nextCount pair s < (s.cfg.stroke : Int) + 1024) idle =>
        ⟨fun l led h hold moved far => ?_, fun still => ?_⟩,
      fun unsafely moved far => ?_, fun near same => ?_⟩
    · rw [commit_frame]; exact hall
    · rw [commit_frame]; exact pins
    · rw [commit_frame]; exact takeStep_count pair s
    · obtain ⟨flag, zero, onset⟩ := takeStep_overrange bound
      refine ⟨?_, ?_, fun clear => (onset clear).ends s⟩
      · rw [commit_frame]; exact flag
      · rw [commit_frame]; exact zero
    · obtain ⟨levels, drive⟩ := addReason_quiet (s := hallRead pair s) .overrange quiet
      rw [takeStep_beyond beyond]
      exact commit_quietly levels drive
    · rw [commit_frame]; exact takeStep_reasons low high
    · have reached : goalReached g dir (stepCounted pair s) := by
        obtain ⟨closing, opening⟩ := goalReached_pm (s := stepCounted pair s) ht
        cases dir with
        | closing => exact closing.2 reaches
        | opening => exact opening.2 reaches
      rw [commit_frame]
      exact takeStep_arrives low high travels hg hd reached
    · rw [place, takeStep_position (by omega)] at moved far
      obtain ⟨levels, goal, asks⟩ := countChanged_drifts (s := stepCounted pair s) (before := position s) idle led hold
        moved far (formGoal_led (s := stepCounted pair s) led)
      rw [← takeStep_within low high] at levels goal asks
      rw [place, takeStep_position (by omega)]
      rw [commit_frame]
      exact ⟨levels, goal, asks⟩
    · rw [place, takeStep_position (by omega)] at still
      obtain ⟨levels, drive⟩ := countChanged_holds (s := stepCounted pair s) (before := position s) idle still
      rw [takeStep_within low high]
      exact commit_quietly levels drive
    · rw [place] at moved far
      have isUnsafe : (takeStep pair s).safe = false := by
        rcases takeStep_moves pair s with ⟨-, h⟩ | ⟨-, h⟩ <;> exact h.safe.trans unsafely
      obtain ⟨reported, -, -, -, queued⟩ := commit_reported s _ isUnsafe (takeStep_reports moved far)
      refine ⟨reported, fun taken => ?_⟩
      rwa [takeStep_placement, taken, if_neg nofun] at queued
    · rw [place] at near
      rw [commit_reportedFields] at same
      obtain ⟨quiet, stands⟩ := takeStep_unreported hr.2.1 near same
      exact (commit_unreported quiet same).trans stands
  · obtain ⟨zero, set⟩ := addReason_pos .hallSkip (hallRead pair s)
    have moves := addReason_moves .hallSkip (hallRead pair s)
    have suspected := addReason_suspect .hallSkip (hallRead pair s)
    refine ⟨_, exec_hallSkip hr skips, ?_, ?_, ?_, ?_, ?_,
      fun clear => (addReason_onset (s := hallRead pair s) _ clear).ends s, fun quiet => ?_⟩
    · rw [commit_frame]; exact moves.hall
    · rw [commit_frame]; exact moves.count
    · rw [commit_frame]; rcases set with k | k <;> exact congrArg Reasons.hallSkip k
    · rw [commit_frame]; exact zero.trans (Bool.and_false _)
    · rw [commit_frame]; exact suspected
    · obtain ⟨levels, drive⟩ := addReason_quiet (s := hallRead pair s) .hallSkip quiet
      exact commit_quietly levels drive
  · obtain ⟨sagTimer, ocTimer, ran⟩ := exec_supplyBelowHallFloor hr low on
    have moves := addReason_moves .sagInMotion (floorRead reading sagTimer ocTimer s)
    have suspected := addReason_suspect .sagInMotion (floorRead reading sagTimer ocTimer s)
    obtain ⟨zero, set⟩ := addReason_pos .sagInMotion (floorRead reading sagTimer ocTimer s)
    refine ⟨_, ran, ?_, ?_, ?_, ?_, ?_,
      fun clear => (addReason_onset (s := floorRead reading sagTimer ocTimer s) _ clear).ends s⟩
    · rw [commit_frame]; exact moves.count
    · rw [commit_frame]; exact moves.pins
    · rw [commit_frame]; rcases set with k | k <;> exact congrArg Reasons.sagInMotion k
    · rw [commit_frame]; exact zero.trans (Bool.and_true _)
    · rw [commit_frame]; exact suspected

end Sys2Proof.Machine
end

section
/-! What the effect of a command leaves of the stored fields (Chapter 9): all but the completion of a write leave them. -/

namespace Sys2Proof.Machine

section
variable (s : State)

/-! ### Shared operations -/

theorem stored_ite {c : Prop} [Decidable c] {t u : State} {l : List StoredField} (ht : t.stored = l)
    (hu : u.stored = l) : (if c then t else u).stored = l := by
  split
  · exact ht
  · exact hu

@[simp] theorem place_stored (k : Kind) (cls : Class) (p : List Byte) : (place k cls p s).stored = s.stored :=
  (place_moves k cls p s).stored
@[simp] theorem moveEnded_stored : (moveEnded s).stored = s.stored := (moveEnded_moves s).stored
@[simp] theorem noteOccasion_stored : (noteOccasion s).stored = s.stored := (noteOccasion_moves s).stored
@[simp] theorem moveDrive_stored (d : Drive) : (moveDrive d s).stored = s.stored := by rw [moveDrive_eq]
@[simp] theorem enterStopping_stored (c : Continuation) : (enterStopping c s).stored = s.stored :=
  (enterStopping_moves c s).stored
@[simp] theorem enterWaitSlot_stored : (enterWaitSlot s).stored = s.stored := (enterWaitSlot_moves s).stored
@[simp] theorem enterRamp_stored : (enterRamp s).stored = s.stored := (enterRamp_moves s).stored
@[simp] theorem rampToTravel_stored : (rampToTravel s).stored = s.stored := (rampToTravel_moves s).stored
@[simp] theorem enterBackoff_stored : (enterBackoff s).stored = s.stored := (enterBackoff_moves s).stored
@[simp] theorem compareAtRest_stored : (compareAtRest s).stored = s.stored := (compareAtRest_moves s).stored
@[simp] theorem enterIdle_stored : (enterIdle s).stored = s.stored := (enterIdle_moves s).stored
@[simp] theorem waitOrIdle_stored : (waitOrIdle s).stored = s.stored := (waitOrIdle_moves s).stored
@[simp] theorem enterRetryWait_stored : (enterRetryWait s).stored = s.stored := (enterRetryWait_moves s).stored
@[simp] theorem enterBlocked_stored : (enterBlocked s).stored = s.stored := (enterBlocked_moves s).stored
@[simp] theorem enterSagWait_stored : (enterSagWait s).stored = s.stored := (enterSagWait_moves s).stored
@[simp] theorem takeCloseNotice_stored : (takeCloseNotice s).stored = s.stored := (takeCloseNotice_moves s).stored
@[simp] theorem handGoal_stored : (handGoal s).stored = s.stored := (handGoal_moves s).stored
@[simp] theorem addReason_stored (r : Reason) : (addReason r s).stored = s.stored := (addReason_moves r s).stored
@[simp] theorem driveAdmitted_stored : (driveAdmitted s).stored = s.stored := (driveAdmitted_moves s).stored
@[simp] theorem occasionToEvaluate_stored : (occasionToEvaluate s).stored = s.stored :=
  (occasionToEvaluate_moves s).stored
@[simp] theorem takeNotice_stored (n : Notice) : (takeNotice s n).stored = s.stored := (takeNotice_moves s n).stored
@[simp] theorem countChanged_stored (before : Nat) : (countChanged before s).stored = s.stored :=
  (countChanged_moves before s).stored
@[simp] theorem readSupply_stored : (readSupply s).stored = s.stored := (readSupply_moves s).stored
@[simp] theorem recogniseObstruction_stored : (recogniseObstruction s).stored = s.stored :=
  (recogniseObstruction_moves s).stored
@[simp] theorem appointFrom_stored (before : Option Level) : (appointFrom before s).stored = s.stored :=
  (appointFrom_spec before s).1.stored
@[simp] theorem interruptSafeSeat_stored : (interruptSafeSeat s).stored = s.stored := (interruptSafeSeat_moves s).stored
@[simp] theorem commit_stored (t : State) : (commit s t).stored = t.stored := by rw [commit_frame]

theorem evaluate_stored : (evaluate s).stored = s.stored := by
  unfold evaluate
  split
  · exact driveAdmitted_stored _
  · rfl

/-! ### The line and commissioning -/

theorem startTransmission_stored : (startTransmission s).stored = s.stored := by
  unfold startTransmission
  split
  · rfl
  · split <;> rfl

theorem endTransmission_stored (outcome : ReadBack) (read : List Bool) :
    (endTransmission outcome read s).stored = s.stored := by
  unfold endTransmission
  split
  · rfl
  · split
    · rfl
    · cases outcome <;> rfl

@[simp] theorem endWindow_stored : (endWindow s).stored = s.stored := by rw [endWindow_eq]

@[simp] theorem reply_stored (index value : Nat) (status : Status) : (reply index value status s).stored = s.stored :=
  place_stored s _ _ _

theorem openWindow_stored (index : Nat) : (openWindow index s).stored = s.stored := by
  unfold openWindow
  split <;> simp

theorem beginWrite_stored (value index : Nat) : (beginWrite value index s).stored = s.stored := by
  unfold beginWrite
  split
  · simp
  · split <;> simp

theorem readField_stored (index : Nat) : (readField index s).stored = s.stored := by
  unfold readField
  split <;> simp

/-! ### Peers and supply sharing -/

@[simp] theorem notePeer_stored (src : Nat) (obs : Option Observation) (st : Option PeerState) :
    (notePeer src obs st s).stored = s.stored := by
  unfold notePeer
  split
  · rfl
  · split
    · rfl
    · dsimp only
      split <;> simp

theorem takeScan_stored : (takeScan s).stored = s.stored := by
  have notices : ∀ (l : List Notice) (t : State), (l.foldl takeNotice t).stored = t.stored := by
    intro l
    induction l with
    | nil => exact fun _ => rfl
    | cons n ns ih => exact fun t => (ih _).trans (takeNotice_stored t n)
  exact notices _ _

@[simp] theorem dropAndEvaluate_stored (src : Nat) : (dropAndEvaluate src s).stored = s.stored :=
  occasionToEvaluate_stored _

theorem orderYield_stored : (orderYield s).stored = s.stored := by
  have released : (releaseSupply s).stored = s.stored := rfl
  unfold orderYield
  dsimp only
  split
  · exact released
  · split
    case h_7 => split <;> exact released
    all_goals simp [released]

theorem takeIntent_stored (src : Nat) (p : List Byte) : (takeIntent src p s).stored = s.stored := by
  unfold takeIntent
  dsimp only
  split
  · exact evaluate_stored _
  · split
    · exact orderYield_stored _
    · rfl
  · rfl
  · rfl

theorem refreshIntent_stored : (refreshIntent s).stored = s.stored := by
  unfold refreshIntent
  dsimp only
  split
  · rfl
  · exact place_stored s _ _ _

theorem takeSag_stored : (takeSag s).stored = s.stored := enterStopping_stored _ _

/-! ### Levels, weather and sensing -/

@[simp] theorem clearDemand_stored : (clearDemand s).stored = s.stored := appointFrom_stored _ _

@[simp] theorem takeDemand_stored (t : Target) : (takeDemand t s).stored = s.stored := (demandHanded_turns t s).stored

@[simp] theorem takePress_stored (closes : Bool) : (takePress closes s).stored = s.stored := by
  have noted : (pressNoted closes s).stored = s.stored :=
    (pressNoted_moves closes s).stored.trans (takeDemand_stored s _)
  cases hs : s.safe with
  | true => rw [takePress_safe hs]
  | false =>
    rw [takePress_unsafe hs]
    exact stored_ite noted noted

@[simp] theorem placeImmediate_stored (cls : Class) : (placeImmediate cls s).stored = s.stored := place_stored s _ _ _

@[simp] theorem takeResult_stored (a b c d : Bool) : (takeResult a b c d s).stored = s.stored :=
  (takeResult_turns a b c d s).stored

@[simp] theorem assessmentTick_stored : (assessmentTick s).stored = s.stored := by
  rw [assessmentTick_eq, gustTrigger_eq]
  exact (resultTaken_turns s).stored

theorem takeEdge_stored : (takeEdge s).stored = s.stored := by
  unfold takeEdge
  split
  · rfl
  · dsimp only
    split <;> rfl

theorem takeWindowEnd_stored (vane : BitVec 4) : (takeWindowEnd vane s).stored = s.stored :=
  stored_ite rfl (assessmentTick_stored _)

theorem takeGridSample_stored (v : BitVec 12) : (takeGridSample v s).stored = s.stored := by
  rw [takeGridSample_eq]

theorem takeButtonSample_stored (o c : Bool) : (takeButtonSample o c s).stored = s.stored := by
  have opens : ∀ t, (takeOpenLatch t).stored = t.stored := fun t => stored_ite (takePress_stored _ false) rfl
  have closes : ∀ t, (takeCloseLatch t).stored = t.stored := fun t => stored_ite (takePress_stored _ true) rfl
  exact (closes _).trans (opens _)

@[simp] theorem beginSafeSeat_stored : (beginSafeSeat s).stored = s.stored := by rw [beginSafeSeat_eq]

theorem takeKeySample_stored (on : Bool) : (takeKeySample on s).stored = s.stored := by
  have turnsOn : ∀ t, (takeKeyOn t).stored = t.stored := fun t =>
    stored_ite ((interruptSafeSeat_stored _).trans (appointFrom_stored _ _)) (appointFrom_stored _ _)
  have turnsOff : ∀ t, (takeKeyOff t).stored = t.stored := fun t => by simp [takeKeyOff]
  exact stored_ite (turnsOn _) (stored_ite (turnsOff _) rfl)

/-! ### Drive and position -/

theorem recogniseSeat_stored : (recogniseSeat s).stored = s.stored := by
  have referenced : (referenceAtSeat s).stored = s.stored := stored_ite rfl rfl
  have ended : ∀ t, (endSuspect t).stored = t.stored := fun t => by unfold endSuspect; split <;> simp
  have noted : ∀ (p : Prop) [Decidable p],
      (if p then noteOccasion (referenceAtSeat s) else referenceAtSeat s).stored = s.stored :=
    fun p _ => stored_ite referenced referenced
  have stopped : ∀ (t : State) (d : Drive), (enterStopping .goal (moveEnded (t.setDrive d))).stored = t.stored :=
    fun t d => by simp
  have braked := fun (p : Prop) [Decidable p] (d : Drive) => (stopped _ d).trans (noted p)
  exact stored_ite ((ended _).trans (braked _ _)) (stored_ite ((handGoal_stored _).trans (braked _ _)) (braked _ _))

theorem detection_stored : (detection s).stored = s.stored := by
  have moving : (detection.movingDetection s).stored = s.stored := by
    unfold detection.movingDetection
    split
    · exact recogniseSeat_stored s
    · exact recogniseObstruction_stored s
  unfold detection
  split
  case h_1 => exact recogniseSeat_stored s
  case h_2 => exact enterStopping_stored s _
  case h_6 => rfl
  all_goals exact moving

theorem takeStep_stored (pair : HallPair) : (takeStep pair s).stored = s.stored :=
  stored_ite (addReason_stored _ _) (stored_ite ((addReason_stored _ _).trans (countChanged_stored _ _))
    (countChanged_stored _ _))

theorem takeVelocity_stored : (takeVelocity s).stored = s.stored := stored_ite (detection_stored _) rfl

theorem afterBraking_stored {go : State → State} (h : (go s).stored = s.stored) :
    (afterBraking go s).stored = s.stored := by
  unfold afterBraking
  split
  · exact enterIdle_stored s
  · exact stored_ite h (enterIdle_stored s)

theorem endBraking_stored : (endBraking s).stored = s.stored := by
  unfold endBraking
  split
  case h_1 => exact afterBraking_stored s (enterRamp_stored s)
  case h_2 => exact stored_ite (enterIdle_stored s) (enterBackoff_stored s)
  case h_3 =>
    exact stored_ite (enterIdle_stored s) (stored_ite (enterBlocked_stored s)
      (stored_ite (waitOrIdle_stored s) (enterRetryWait_stored s)))
  case h_4 => exact stored_ite (enterIdle_stored s) (stored_ite (enterBlocked_stored s) (enterSagWait_stored s))
  case h_5 => exact afterBraking_stored s (enterWaitSlot_stored s)
  all_goals exact enterIdle_stored s

theorem takeRestart_stored : (takeRestart s).stored = s.stored := by
  refine stored_ite rfl ?_
  unfold controlledStop
  dsimp only
  split <;> simp

end

end Sys2Proof.Machine
end

section
/-! The loaded configuration changes only at a start, the stored fields only by a write or its cut (R155, R157, R160). -/

namespace Sys2Proof.Machine

/-! ### The commands -/

section
variable {s : State} {f : State → State} {take : Frame → State → State}

theorem live_stored (h : (f s).stored = s.stored) : (live f s).stored = s.stored :=
  stored_ite ((commit_stored s _).trans h) rfl

theorem liveWhen_stored {test : State → Bool} (h : (f s).stored = s.stored) : (liveWhen test f s).stored = s.stored :=
  stored_ite ((commit_stored s _).trans h) rfl

theorem arrival_stored (h : ∀ f t, (take f t).stored = t.stored) (mine : Frame → Bool) (bits : List Bool) (s : State) :
    (arrival mine bits take s).stored = s.stored := by
  unfold arrival
  split
  · rfl
  · exact stored_ite (h _ (hearOther s)) rfl

theorem requestArrival_stored (h : ∀ f t, (take f t).stored = t.stored) (action : Nat) (bits : List Bool) (s : State) :
    (requestArrival action bits take s).stored = s.stored :=
  arrival_stored (fun f t => stored_ite (h f t) rfl) _ bits s

theorem configureArrival_stored (h : ∀ f t, (take f t).stored = t.stored) (operation : Nat) (bits : List Bool)
    (s : State) : (configureArrival operation bits take s).stored = s.stored :=
  arrival_stored (fun f t => stored_ite (h f t) rfl) _ bits s

theorem takeConfigure_stored {closed perform : Nat → State → State} (hc : ∀ i t, (closed i t).stored = t.stored)
    (hp : ∀ i t, (perform i t).stored = t.stored) (index : Nat) (s : State) :
    (takeConfigure closed perform index s).stored = s.stored :=
  stored_ite (hc _ _) (stored_ite (reply_stored _ _ _ _) (hp _ (renewWindow s)))

end

/-- A command that neither starts the node, nor takes its supply, nor completes a write leaves the stored fields. -/
theorem exec_keeps_stored {c : Instr} (start : c ≠ .powerUp) (restart : c ≠ .restartStart)
    (loss : ∀ torn, c ≠ .logicSupplyLoss torn) (write : ∀ value check, c ≠ .writeComplete value check) (s : State) :
    ∃ t, exec c s = .next t ∧ t.stored = s.stored := by
  cases c with
  | powerUp => exact absurd rfl start
  | restartStart => exact absurd rfl restart
  | logicSupplyLoss torn => exact absurd rfl (loss torn)
  | writeComplete value check => exact absurd rfl (write value check)
  | backupRailLoss => exact ⟨_, rfl, rfl⟩
  | listenEnd => exact ⟨_, rfl, liveWhen_stored ((beginSafeSeat_stored _).trans (appointFrom_stored _ _))⟩
  | safeSeatDeadline => exact ⟨_, rfl, liveWhen_stored ((addReason_stored _ _).trans (enterStopping_stored _ _))⟩
  | anemometerEdge => exact ⟨_, rfl, live_stored (takeEdge_stored s)⟩
  | windowEnd vane => exact ⟨_, rfl, liveWhen_stored (takeWindowEnd_stored s vane)⟩
  | startWindowEnd | isolationDeadline | runningRefreshDeadline | refuseEnd =>
    exact ⟨_, rfl, liveWhen_stored rfl⟩
  | stormExpiry | rainExpiry => exact ⟨_, rfl, liveWhen_stored (takeResult_stored _ _ _ _ _)⟩
  | gridSample v => exact ⟨_, rfl, liveWhen_stored (takeGridSample_stored s v)⟩
  | buttonSample o c => exact ⟨_, rfl, liveWhen_stored (takeButtonSample_stored s o c)⟩
  | keySample on => exact ⟨_, rfl, liveWhen_stored (takeKeySample_stored s on)⟩
  | demandExpiry => exact ⟨_, rfl, liveWhen_stored (clearDemand_stored s)⟩
  | transmissionStart => exact ⟨_, rfl, live_stored (startTransmission_stored s)⟩
  | transmissionLost read | identityClash read | transmissionComplete read =>
    exact ⟨_, rfl, live_stored (endTransmission_stored s _ read)⟩
  | observeArrival bits =>
    exact ⟨_, rfl, live_stored (arrival_stored (fun _ t => notePeer_stored t _ _ _) _ bits s)⟩
  | stateArrival bits =>
    exact ⟨_, rfl, live_stored (arrival_stored (fun _ t => stored_ite
      ((dropAndEvaluate_stored _ _).trans (notePeer_stored t _ _ _))
      ((occasionToEvaluate_stored _).trans (notePeer_stored t _ _ _))) _ bits s)⟩
  | intentArrival bits =>
    exact ⟨_, rfl, live_stored (arrival_stored (fun _ t => takeIntent_stored (hearPeer _ t) _ _) _ bits s)⟩
  | withdrawArrival bits =>
    exact ⟨_, rfl, live_stored (arrival_stored (fun _ t => dropAndEvaluate_stored (hearPeer _ t) _) _ bits s)⟩
  | requestOpenTo bits =>
    exact ⟨_, rfl, live_stored (requestArrival_stored (fun _ t => takeDemand_stored t _) 0 bits s)⟩
  | requestClose bits =>
    exact ⟨_, rfl, live_stored (requestArrival_stored
      (fun _ t => (takeCloseNotice_stored _).trans (takeDemand_stored t _)) 1 bits s)⟩
  | requestStop bits => exact ⟨_, rfl, live_stored (requestArrival_stored (fun _ => clearDemand_stored) 2 bits s)⟩
  | requestRelease bits => exact ⟨_, rfl, live_stored (requestArrival_stored (fun _ => clearDemand_stored) 3 bits s)⟩
  | requestRestart bits =>
    exact ⟨_, rfl, live_stored (arrival_stored (fun _ t => stored_ite (takeRestart_stored t) rfl) _ bits s)⟩
  | configureOpen bits =>
    exact ⟨_, rfl, live_stored (configureArrival_stored (fun _ => takeConfigure_stored
      (fun _ t => openWindow_stored t _) (fun _ t => reply_stored t _ _ _) _) 0 bits s)⟩
  | configureWrite bits =>
    exact ⟨_, rfl, live_stored (configureArrival_stored (fun _ => takeConfigure_stored
      (fun _ t => reply_stored t _ _ _) (fun _ t => beginWrite_stored t _ _) _) 1 bits s)⟩
  | configureRead bits =>
    exact ⟨_, rfl, live_stored (configureArrival_stored (fun _ => takeConfigure_stored
      (fun _ t => reply_stored t _ _ _) (fun _ t => readField_stored t _) _) 2 bits s)⟩
  | recordArrival bits | arrivalNotHandedOn bits =>
    exact ⟨_, rfl, live_stored (arrival_stored (fun _ _ => rfl) _ bits s)⟩
  | commissioningWindowDeadline => exact ⟨_, rfl, liveWhen_stored (endWindow_stored s)⟩
  | periodicObserveDeadline =>
    have placed := fun (urgent : Prop) [Decidable urgent] =>
      stored_ite (c := urgent) (t := s) rfl (place_stored s .observe .routine (observePayload s))
    exact ⟨_, rfl, liveWhen_stored ((State.setWeather_stored _ _).trans
      (stored_ite ((noteOccasion_stored _).trans (placed _)) (placed _)))⟩
  | immediateHoldoffExpiry =>
    refine ⟨_, rfl, liveWhen_stored ?_⟩
    split
    · rfl
    · exact stored_ite rfl (placeImmediate_stored s _)
  | peerScan => exact ⟨_, rfl, liveWhen_stored (takeScan_stored s)⟩
  | settleDeadline => exact ⟨_, rfl, liveWhen_stored (evaluate_stored (s.setSupply _))⟩
  | intentRefreshDeadline => exact ⟨_, rfl, liveWhen_stored (refreshIntent_stored s)⟩
  | intentEntryAged src => exact ⟨_, rfl, liveWhen_stored (dropAndEvaluate_stored s _)⟩
  | sag => exact ⟨_, rfl, liveWhen_stored (takeSag_stored s)⟩
  | supplyBelowHallFloor v => exact ⟨_, rfl, liveWhen_stored ((addReason_stored _ _).trans (readSupply_stored _))⟩
  | overCurrent => exact ⟨_, rfl, liveWhen_stored (detection_stored s)⟩
  | velocityWindowEnd => exact ⟨_, rfl, liveWhen_stored (takeVelocity_stored s)⟩
  | warningDeadline => exact ⟨_, rfl, liveWhen_stored (stored_ite (moveDrive_stored s _) (enterRamp_stored s))⟩
  | rampStep => exact ⟨_, rfl, liveWhen_stored (rampToTravel_stored _)⟩
  | stopDeadline => exact ⟨_, rfl, liveWhen_stored ((beginSafeSeat_stored _).trans (endBraking_stored s))⟩
  | seatTimeout =>
    exact ⟨_, rfl, liveWhen_stored ((enterStopping_stored _ _).trans (addReason_stored (s.setDrive _) _))⟩
  | backoffDeadline => exact ⟨_, rfl, liveWhen_stored (enterStopping_stored s _)⟩
  | retryDeadline | sagHoldoffDeadline => exact ⟨_, rfl, liveWhen_stored (waitOrIdle_stored s)⟩
  | hallStep pair => exact ⟨_, rfl, stored_ite (liveWhen_stored (takeStep_stored s pair)) rfl⟩
  | hallSkip pair => exact ⟨_, rfl, stored_ite (liveWhen_stored (addReason_stored _ _)) rfl⟩
  | crossCheckDeadline v => exact ⟨_, rfl, liveWhen_stored (compareAtRest_stored _)⟩

theorem exec_stored {c : Instr} {s t : State} (h : exec c s = .next t) (start : c ≠ .powerUp)
    (restart : c ≠ .restartStart) (loss : ∀ torn, c ≠ .logicSupplyLoss torn)
    (write : ∀ value check, c ≠ .writeComplete value check) : t.stored = s.stored := by
  obtain ⟨u, ran, kept⟩ := exec_keeps_stored start restart loss write s
  obtain rfl : u = t := Host.Outcome.next.inj (ran.symm.trans h)
  exact kept

/-! ### Writes completed and cut short (R157) -/

section
variable {s : State} {i : Nat} (other : ∀ w, s.store.writing = some w → w.index ≠ i)
include other

/-- A write cut short touches its own field alone. -/
theorem cutWrite_stored_other : (cutWrite s).stored[i]? = s.stored[i]? := by
  unfold cutWrite
  split
  · rfl
  · next w writes =>
    split
    · rfl
    · exact List.getElem?_set_ne (other w writes)

theorem losePower_stored_other (torn : Bool) : (losePower torn s).stored[i]? = s.stored[i]? := by
  have kept : (losePower torn s).stored = (cutWrite s).stored := by
    cases torn <;> rfl
  rw [kept, cutWrite_stored_other other]

/-- A write completed touches its own field alone. -/
theorem completeWrite_stored_other (read : StoredField) : (completeWrite read s).stored[i]? = s.stored[i]? := by
  have closed : ∀ t, (closeWindow t).stored = t.stored := fun t => stored_ite rfl rfl
  unfold completeWrite
  split
  · rfl
  · next w writes =>
    dsimp only
    rw [stored_ite ((closed _).trans (reply_stored _ _ _ _)) (reply_stored _ _ _ _)]
    exact List.getElem?_set_ne (other w writes)

/-- No command touches a field of which no write is in progress. -/
theorem exec_stored_other {c : Instr} {t : State} (h : exec c s = .next t) : t.stored[i]? = s.stored[i]? := by
  cases c with
  | powerUp =>
    obtain rfl : takePowerUp s = t := Host.Outcome.next.inj h
    have lost : (if s.power then losePower false s else s).stored[i]? = s.stored[i]? := by
      split
      · exact losePower_stored_other other false
      · rfl
    exact lost
  | restartStart =>
    obtain rfl := Host.Outcome.next.inj h
    split
    · exact cutWrite_stored_other other
    · rfl
  | logicSupplyLoss torn =>
    obtain rfl := Host.Outcome.next.inj h
    split
    · exact losePower_stored_other other torn
    · rfl
  | writeComplete value check =>
    obtain rfl := Host.Outcome.next.inj h
    unfold liveWhen
    split
    · rw [commit_stored, completeWrite_stored_other other]
    · rfl
  | _ => rw [exec_stored h nofun nofun nofun nofun]

end

/-- What a command that is no start leaves of the loaded configuration and the profile. -/
theorem Ends.loaded {c : Instr} {s t : State} (h : Ends c s t) (start : c ≠ .powerUp) (restart : c ≠ .restartStart) :
    t.cfg = s.cfg ∧ t.safe = s.safe := by
  cases h with
  | none => exact ⟨rfl, rfl⟩
  | carried _ runs =>
    have ended := runs.trans (commit_runs s _)
    exact ⟨ended.cfg, ended.safe⟩
  | started starts => exact absurd starts (by simp [start, restart])
  | lost torn => rw [losePower_eq]; exact ⟨rfl, rfl⟩
  | latched => exact ⟨rfl, rfl⟩
  | coasted => exact ⟨rfl, rfl⟩

/-- Settles O13: how a command ends says what it loads, and its effect what it stores. -/
theorem configurationChangesOnlyAtStartsAndWrites : Obligations.ConfigurationChangesOnlyAtStartsAndWrites := by
  refine ⟨fun c s t ran start restart => ?_, fun c s t ran start restart loss write =>
    exec_stored ran start restart loss write, fun c s t i ran other => exec_stored_other other ran⟩
  obtain ⟨u, hu, ends⟩ := exec_ends c s
  obtain rfl : u = t := Host.Outcome.next.inj (hu.symm.trans ran)
  exact ends.loaded start restart

end Sys2Proof.Machine
end

section
/-! CONFIGURE addressed to the node (R156 to R158): what of the node it moves, and with what it is answered. -/

namespace Sys2Proof.Machine

/-! ### What a CONFIGURE moves -/

/-- From `s` to `t` the commissioning window and the transmit queue have moved, and nothing else. -/
def WindowMoved (s t : State) : Prop :=
  ∃ window queue, t = { s with store := window, line := { s.line with queue := queue } }

theorem WindowMoved.trans {s t u : State} (h : WindowMoved s t) (k : WindowMoved t u) : WindowMoved s u := by
  obtain ⟨_, _, rfl⟩ := h
  obtain ⟨window, queue, rfl⟩ := k
  exact ⟨window, queue, rfl⟩

theorem WindowMoved.ite {c : Prop} [Decidable c] {s t u : State} (h : WindowMoved s t) (k : WindowMoved s u) :
    WindowMoved s (if c then t else u) := by
  split
  · exact h
  · exact k

theorem WindowMoved.setStore (s : State) (v : Commissioning) : WindowMoved s (s.setStore v) := ⟨v, s.line.queue, rfl⟩

/-- A reply that is not refused joins the queue, or replaces the RECORD there (R32, R35). -/
theorem reply_taken {s : State} (h : refusesPlacement .record s = false) (index value : Nat) (status : Status) :
    reply index value status s = s.setLine (s.line.put s.nt .record .routine
      (recordPayload index value status (windowBits s) s.safe)) := place_put h nofun nofun _ _

theorem reply_windowMoved (index value : Nat) (status : Status) (s : State) :
    WindowMoved s (reply index value status s) := by
  cases h : refusesPlacement .record s with
  | true => exact ⟨s.store, s.line.queue, place_refused h _ _⟩
  | false =>
    rw [reply_taken h, put_queue]
    exact ⟨s.store, _, rfl⟩

@[simp] theorem reply_store (index value : Nat) (status : Status) (s : State) :
    (reply index value status s).store = s.store := (place_moves _ _ _ s).store

theorem takeConfigure_windowMoved {closed perform : Nat → State → State} (hc : ∀ i t, WindowMoved t (closed i t))
    (hp : ∀ i t, WindowMoved t (perform i t)) (index : Nat) (s : State) :
    WindowMoved s (takeConfigure closed perform index s) :=
  have renewed : WindowMoved s (renewWindow s) := .setStore s _
  .ite (hc _ _) (.ite (renewed.trans (reply_windowMoved _ _ _ _)) (renewed.trans (hp _ _)))

theorem openWindow_windowMoved (index : Nat) (s : State) : WindowMoved s (openWindow index s) :=
  .ite ((WindowMoved.setStore s _).trans (reply_windowMoved _ _ _ _)) (reply_windowMoved _ _ _ _)

theorem beginWrite_windowMoved (value index : Nat) (s : State) : WindowMoved s (beginWrite value index s) := by
  unfold beginWrite
  split
  · exact reply_windowMoved _ _ _ _
  · exact .ite (.setStore s _) (reply_windowMoved _ _ _ _)

theorem readField_windowMoved (index : Nat) (s : State) : WindowMoved s (readField index s) := by
  unfold readField
  split <;> exact reply_windowMoved _ _ _ _

/-! ### The command -/

/-- What a CONFIGURE of an operation does while the window is closed (R156). -/
def whileClosed (op : Byte) : Nat → State → State :=
  if op = 0 then openWindow else fun i s => reply i 0 .closed s

/-- What a CONFIGURE of an operation does in the open window with no write in progress (R156 to R158). -/
def whileOpen (op : Byte) (value : Nat) : Nat → State → State :=
  if op = 0 then fun i s => reply i 0 .ok s else if op = 1 then beginWrite value else readField

/-- The effect of a CONFIGURE of an operation with a payload. -/
def configured (op : Byte) (p : List Byte) (s : State) : State :=
  takeConfigure (whileClosed op) (whileOpen op (configureValue p)) (configureIndex p) s

theorem configured_windowMoved (op : Byte) (p : List Byte) (s : State) : WindowMoved s (configured op p s) := by
  refine takeConfigure_windowMoved (fun i t => ?_) (fun i t => ?_) _ s
  · unfold whileClosed
    split
    · exact openWindow_windowMoved i t
    · exact reply_windowMoved _ _ _ t
  · unfold whileOpen
    split
    · exact reply_windowMoved _ _ _ t
    · split
      · exact beginWrite_windowMoved _ i t
      · exact readField_windowMoved i t

section
variable {bits : List Bool} {f : Frame} {s : State} (h : Ready s) (hr : receive bits = some f)
  (hk : f.kind = Kind.configure.code) (hs : f.source.toNat ≠ lineId s)
  (ht : (f.payload.getD 0 0).toNat % 64 = lineId s)
include h hr hk hs ht

/-- A CONFIGURE addressed to the node is heard and taken; it is no occasion for a STATE and mirrors nothing (R40, R41). -/
theorem live_configure {op : Byte} (ho : f.payload.getD 1 0 = op) (n : Nat) (hn : op.toNat = n) :
    live (configureArrival n bits fun f => configured op f.payload) s = configured op f.payload (hearOther s) := by
  have own : ofOperation n f = true := by
    have operation : configureOperation f.payload = n := hn ▸ congrArg BitVec.toNat ho
    simp [ofOperation, ofKind, hk, operation]
  have taken : configureArrival n bits (fun f => configured op f.payload) s = configured op f.payload (hearOther s) := by
    rw [configureArrival, arrival_taken hr own hs]
    exact if_pos ((configureTarget_eq f.payload).trans ht)
  obtain ⟨window, queue, moved⟩ := configured_windowMoved op f.payload (hearOther s)
  rw [moved] at taken ⊢
  exact live_quiet h taken rfl rfl rfl rfl

theorem exec_configure {op : Byte} (ho : f.payload.getD 1 0 = op) (hop : op = 0 ∨ op = 1 ∨ op = 2) :
    exec (if op = 0 then Instr.configureOpen bits else if op = 1 then .configureWrite bits else .configureRead bits) s =
      .next (configured op f.payload (hearOther s)) := by
  rcases hop with rfl | rfl | rfl
  · exact congrArg _ (live_configure h hr hk hs ht ho 0 rfl)
  · exact congrArg _ (live_configure h hr hk hs ht ho 1 rfl)
  · exact congrArg _ (live_configure h hr hk hs ht ho 2 rfl)

end

/-! ### The answers -/

/-- The transmit queue holds a RECORD with this field index, value, status and window state (Figure 2-12). -/
def Answered (index value : Nat) (status : Status) (window : BitVec 2) (safe : Bool) (t : State) : Prop :=
  ∃ e ∈ t.line.queue, e.kind = .record ∧ e.cls = .routine ∧ e.payload = recordPayload index value status window safe

theorem reply_answered {s : State} (h : refusesPlacement .record s = false) (index value : Nat) (status : Status)
    {window : BitVec 2} (hw : windowBits s = window) :
    Answered index value status window s.safe (reply index value status s) := by
  rw [reply_taken h, hw]
  exact put_holds _ _ _ _ _

theorem recordTaken_of_open {s : State} (hl : s.listen = false) (hn : s.line.listenOnly = false)
    (ho : s.store.isOpen = true) : refusesPlacement .record s = false := by
  simp [refusesPlacement, hl, hn, ho]

section
variable {op : Byte} {p : List Byte} {s : State}

theorem configured_closed (hc : s.store.isOpen = false) :
    configured op p s = whileClosed op (configureIndex p) s := by simp [configured, takeConfigure, hc]

theorem configured_busy (ho : s.store.isOpen = true) (hw : s.store.writing.isSome = true) :
    configured op p s = reply (configureIndex p) 0 .busy (renewWindow s) := by simp [configured, takeConfigure, ho, hw]

theorem configured_open (ho : s.store.isOpen = true) (hw : s.store.writing = none) :
    configured op p s = whileOpen op (configureValue p) (configureIndex p) (renewWindow s) := by
  simp [configured, takeConfigure, ho, hw]

end

/-! ### A WRITE and a READ in the open window (R157, R158) -/

section
variable {index value : Nat} {field : StoredField} {s : State}

theorem beginWrite_unknown (h : s.stored[index]? = none) : beginWrite value index s = reply index 0 .badField s := by
  rw [beginWrite, h]

theorem beginWrite_begins (h : s.stored[index]? = some field) (hin : inRange index value = true) :
    beginWrite value index s = s.setStore { s.store with
      writing := some ⟨index, BitVec.ofNat 16 value, after s.nt 30⟩ } := by
  rw [beginWrite, h]
  exact if_pos hin

theorem beginWrite_outOfRange (h : s.stored[index]? = some field) (hout : inRange index value = false) :
    beginWrite value index s = reply index field.value.toNat .outOfRange s := by
  rw [beginWrite, h]
  exact if_neg (ne_true_of_eq_false hout)

theorem readField_unknown (h : s.stored[index]? = none) : readField index s = reply index 0 .badField s := by
  rw [readField, h]

theorem readField_tested (h : s.stored[index]? = some field) :
    readField index s = reply index (checkField field).1.toNat (checkField field).2 s := by
  rw [readField, h]

end

/-- Settles O54: the CONFIGURE is carried out on a node that has heard it, by the state of its window. -/
theorem configureIsAnswered : Obligations.ConfigureIsAnswered := by
  intro bits f s hr hrec hk hsrc htgt hl hn index value command answered renewed op hop hops
  obtain ⟨window, queue, moved⟩ := configured_windowMoved op f.payload (hearOther s)
  refine ⟨configured op f.payload (hearOther s), exec_configure hr hrec hk hsrc htgt hop hops, ?_, fun hc ho hkey => ?_,
    fun hc ho => ?_, fun hc hw => ?_, fun hc hw => ?_⟩
  · rw [moved]
    rfl
  · have opened := recordTaken_of_open
      (s := (hearOther s).setStore ⟨true, some (after s.nt 600000), none, false⟩) hl hn rfl
    have done : configured op f.payload (hearOther s) = reply index 0 .ok
        ((hearOther s).setStore ⟨true, some (after s.nt 600000), none, false⟩) := by
      rw [configured_closed (s := hearOther s) hc, whileClosed, if_pos ho]
      exact if_pos hkey
    rw [done]
    exact ⟨reply_store _ _ _ _, reply_answered opened _ _ _ rfl⟩
  · have done : configured op f.payload (hearOther s) = reply index 0 .closed (hearOther s) := by
      rw [configured_closed (s := hearOther s) hc, whileClosed]
      split
      · next isOpen => exact if_neg (ne_true_of_eq_false (ho.resolve_left (not_not_intro isOpen)))
      · rfl
    rw [done]
    refine ⟨reply_store _ _ _ _, fun hs => reply_answered ?_ _ _ _ ?_⟩
    · show refusesPlacement .record s = false
      simp [refusesPlacement, hl, hn, hs]
    · show windowBits s = 0
      simp [windowBits, hc]
  · rw [configured_busy (s := hearOther s) hc hw]
    refine ⟨reply_store _ _ _ _, reply_answered
      (recordTaken_of_open (s := renewWindow (hearOther s)) hl hn hc) _ _ _ ?_⟩
    show windowBits s = 2
    simp [windowBits, hc, hw]
  · have taken := recordTaken_of_open (s := renewWindow (hearOther s)) hl hn hc
    have stands : windowBits (renewWindow (hearOther s)) = 1 := by
      show windowBits s = 1
      simp [windowBits, hc, hw]
    have answers : ∀ (v : Nat) (status : Status) {t : State}, t = reply index v status (renewWindow (hearOther s)) →
        t.store = renewed ∧ answered t v status 1 := by
      rintro v status _ rfl
      exact ⟨reply_store _ _ _ _, reply_answered taken index v status stands⟩
    rw [configured_open (s := hearOther s) hc hw]
    refine ⟨fun ho => ?_, fun ho hnone => ?_, fun field hf => ⟨fun ho hin => ?_, fun ho hout => ?_, fun ho => ?_⟩⟩
    · subst ho
      exact answers 0 .ok rfl
    · refine answers 0 .badField ?_
      rcases hops with rfl | rfl | rfl
      · exact absurd rfl ho
      · exact beginWrite_unknown hnone
      · exact readField_unknown hnone
    · subst ho
      have begun := beginWrite_begins (s := renewWindow (hearOther s)) hf hin
      exact ⟨congrArg (·.line.queue) begun, congrArg State.store begun⟩
    · subst ho
      exact answers field.value.toNat .outOfRange (beginWrite_outOfRange hf hout)
    · subst ho
      exact answers _ _ (readField_tested hf)

end Sys2Proof.Machine
end

section
/-! The completion of a write and the closing of the commissioning window (R156, R157), in the safe profile with its
RECORDs lost (R35). -/

namespace Sys2Proof.Machine

/-! ### RECORDs cut off the line (R35) -/

/-- From the line `a` to `b` a queued RECORD has left the queue and one in transmission is cut off, the line released. -/
def RecordsCut (a b : Line) : Prop :=
  b = { a with
    queue := b.queue, inFlight := b.inFlight
    driven := if ∃ f, a.inFlight = some f ∧ f.kind = .record then 0 else a.driven } ∧
  (∀ e, e ∈ b.queue ↔ e ∈ a.queue ∧ e.kind ≠ .record) ∧
  (∀ f, b.inFlight = some f ↔ a.inFlight = some f ∧ f.kind ≠ .record)

theorem cutRecord_cuts (l : Line) : RecordsCut l l.cutRecord := by
  have queued : ∀ e, e ∈ l.cutRecord.queue ↔ e ∈ l.queue ∧ e.kind ≠ .record := fun e => by
    simp [Line.cutRecord, List.mem_filter]
  cases hf : l.inFlight with
  | none => exact ⟨by simp [Line.cutRecord, hf], queued, fun f => by simp [Line.cutRecord, hf]⟩
  | some f =>
    by_cases hk : f.kind = .record
    · refine ⟨by simp [Line.cutRecord, hf, hk], queued, fun g => ?_⟩
      have cut : l.cutRecord.inFlight = none := by simp [Line.cutRecord, hf, hk]
      rw [cut, hf]
      exact ⟨nofun, fun ⟨h, other⟩ => absurd (Option.some.inj h ▸ hk) other⟩
    · refine ⟨by simp [Line.cutRecord, hf, hk], queued, fun g => ?_⟩
      have left : l.cutRecord.inFlight = some f := by simp [Line.cutRecord, hf, hk]
      rw [left, hf]
      exact ⟨fun h => ⟨h, Option.some.inj h ▸ hk⟩, And.left⟩

/-- A RECORD put into the queue before the cut is cut with the others. -/
theorem RecordsCut.of_put {l b : Line} {nt : Time} {cls : Class} {p : List Byte}
    (h : RecordsCut (l.put nt .record cls p) b) : RecordsCut l b := by
  obtain ⟨rest, queue, inFlight⟩ := h
  have others : ∀ e : Queued, e.kind ≠ .record → (e ∈ (l.put nt .record cls p).queue ↔ e ∈ l.queue) := fun e he => by
    simpa [List.mem_filter, he] using (put_others l nt .record cls p).mem_iff (a := e)
  rw [put_inFlight] at inFlight
  refine ⟨?_, fun e => (queue e).trans (and_congr_left (others e)), inFlight⟩
  rw [put_queue] at rest
  exact rest

/-! ### The window closed -/

theorem closeWindow_eq (s : State) : closeWindow s = { s with
    store := ⟨false, none, none, false⟩, line := if s.safe then s.line.cutRecord else s.line } := by
  by_cases h : s.safe = true
  · rw [if_pos h]
    exact if_pos h
  · rw [if_neg h]
    exact if_neg h

theorem endWindow_closes {s : State} (ho : s.store.isOpen = true) (hw : s.store.writing = none) :
    endWindow s = closeWindow s := by
  simp [endWindow, ho, hw]

/-- What is neither reported nor mirrored moves at the end of no command: the stored fields, the window and the line. -/
theorem liveWhen_commissioning {s t : State} {test : State → Bool} {f : State → State} (h : Ready s)
    (htest : test s = true) (ht : f s = t)
    (moved : t = { s with stored := t.stored, store := t.store, line := t.line }) : liveWhen test f s = t := by
  rw [moved] at ht ⊢
  exact liveWhen_quiet h htest ht rfl rfl rfl rfl


theorem closeWindow_cuts {s : State} (h : s.safe = true) : RecordsCut s.line (closeWindow s).line := by
  rw [closeWindow_eq, h]
  exact cutRecord_cuts s.line

/-! ### The completion of a write (R157) -/

/-- The node with the read-back of a write stored, the write no longer in progress. -/
def withWritten (read : StoredField) (w : Writing) (s : State) : State :=
  (s.setStored (s.stored.set w.index read)).setStore { s.store with writing := none }

/-- The status with which a completed write is answered. -/
def writeStatus (read : StoredField) (w : Writing) : Status := if read = encodeField w.value then .ok else .writeFailed

theorem writeStatus_code (value : BitVec 16) (check : BitVec 6) (w : Writing) :
    (writeStatus ⟨value, check⟩ w).code = if value = w.value ∧ check = checkBits w.value then 0 else 7 := by
  simp only [writeStatus, encodeField, StoredField.mk.injEq]
  split <;> rfl

/-- The node with the read-back of a write stored and answered. -/
def writeAnswered (read : StoredField) (w : Writing) (s : State) : State :=
  reply w.index read.value.toNat (writeStatus read w) (withWritten read w s)

theorem completeWrite_eq {s : State} {w : Writing} (h : s.store.writing = some w) (read : StoredField) :
    completeWrite read s =
      if s.store.closePending then closeWindow (writeAnswered read w s) else writeAnswered read w s := by
  rw [completeWrite, h]
  rfl

section
variable {s : State} (hl : s.listen = false) (hn : s.line.listenOnly = false) (ho : s.store.isOpen = true)
include hl hn ho

/-- A completed write in the open window is answered by a RECORD, which a cut takes with the others. -/
theorem writeAnswered_line (value : BitVec 16) (check : BitVec 6) (w : Writing) : ∃ l,
    writeAnswered ⟨value, check⟩ w s = (withWritten ⟨value, check⟩ w s).setLine l ∧
    l = { s.line with queue := l.queue } ∧
    (∃ e ∈ l.queue, e.kind = .record ∧ e.cls = .routine ∧
      e.payload.take 4 = [BitVec.ofNat 8 w.index, BitVec.ofNat 8 (value.toNat / 256), BitVec.ofNat 8 value.toNat,
        if value = w.value ∧ check = checkBits w.value then 0 else 7]) ∧
    ∀ b, RecordsCut l b → RecordsCut s.line b := by
  refine ⟨_, reply_taken (recordTaken_of_open (s := withWritten _ w s) hl hn ho) _ _ _, put_queue _ _ _ _ _, ?_,
    fun b => RecordsCut.of_put⟩
  obtain ⟨e, queued, kind, cls, payload⟩ := put_holds s.line s.nt .record .routine (recordPayload w.index value.toNat
    (writeStatus ⟨value, check⟩ w) (windowBits (withWritten ⟨value, check⟩ w s)) s.safe)
  refine ⟨e, queued, kind, cls, ?_⟩
  rw [payload, ← writeStatus_code]
  rfl

end

/-! ### A key-off in the safe profile (R19, R156) -/

section
variable {s : State} (lawful : LevelsLawful s) (safe : s.safe = true) (ho : s.store.isOpen = true)
  (hw : s.store.writing = none)
include lawful safe ho hw

/-- In the safe profile a key-off moves of the line and the window what the closing of the window does. -/
theorem takeKeyOff_closes : (takeKeyOff s).safe = true ∧ (takeKeyOff s).store = ⟨false, none, none, false⟩ ∧
    RecordsCut s.line (takeKeyOff s).line := by
  rw [takeKeyOff_eq, appointFrom_withHold_safe lawful safe, beginSafeSeat_eq]
  generalize hu : (withHold false s).setLevels (appointedLevels (withHold false s)) = u
  have closes : endWindow u = closeWindow u := endWindow_closes (by rw [← hu]; exact ho) (by rw [← hu]; exact hw)
  have line : u.line = s.line := by rw [← hu]; rfl
  have stays : u.safe = true := by rw [← hu]; exact safe
  rw [closes, ← line]
  exact ⟨by rw [closeWindow_eq]; exact stays, by rw [closeWindow_eq], closeWindow_cuts stays⟩

end

/-- Settles O55: the completion through the reply and the closing that waited, the deadline, and the key-off. -/
theorem writeCompletesAndWindowCloses : Obligations.WriteCompletesAndWindowCloses := by
  refine ⟨fun value check w s hr hl hn ho hw hd => ?_, fun s hr ho hd => ?_,
    fun s hr lawful safe ho hw hd hk hrun => ?_⟩
  · have due : writeDue s = true := by rw [writeDue, hw]; exact hd
    obtain ⟨l, answered, line, replied, cuts⟩ := writeAnswered_line hl hn ho value check w
    have made := completeWrite_eq hw ⟨value, check⟩
    rw [answered] at made
    cases hp : s.store.closePending with
    | false =>
      rw [hp, if_neg (by decide)] at made
      exact ⟨_, congrArg Host.Outcome.next (liveWhen_commissioning hr due made rfl), rfl, fun _ => rfl, nofun,
        fun _ => ⟨line, replied⟩, fun _ => nofun⟩
    | true =>
      rw [hp, if_pos rfl, closeWindow_eq] at made
      by_cases hs : s.safe = true
      · have cutting : ((withWritten ⟨value, check⟩ w s).setLine l).safe = true := hs
        rw [if_pos cutting] at made
        exact ⟨_, congrArg Host.Outcome.next (liveWhen_commissioning hr due made rfl), rfl, nofun, fun _ => rfl,
          fun h => absurd h (by simp [hs]), fun _ _ => cuts _ (cutRecord_cuts l)⟩
      · have outside : ¬((withWritten ⟨value, check⟩ w s).setLine l).safe = true := hs
        rw [if_neg outside] at made
        exact ⟨_, congrArg Host.Outcome.next (liveWhen_commissioning hr due made rfl), rfl, nofun, fun _ => rfl,
          fun _ => ⟨line, replied⟩, fun safe => absurd safe hs⟩
  · have due : windowDeadlineDue s = true := by simp [windowDeadlineDue, ho, hd]
    refine ⟨fun hw hs => ?_, fun hw hs => ?_, fun hw => ?_⟩
    · have closed : endWindow s = { s with store := ⟨false, none, none, false⟩ } := by
        rw [endWindow_closes ho hw, closeWindow_eq, hs]
        rfl
      exact congrArg _ (liveWhen_commissioning hr due closed rfl)
    · have cuts := closeWindow_cuts hs
      have closed := (endWindow_closes ho hw).trans (closeWindow_eq s)
      rw [closeWindow_eq] at cuts
      exact ⟨_, congrArg Host.Outcome.next (liveWhen_commissioning hr due closed rfl), rfl, cuts⟩
    · exact congrArg _ (liveWhen_commissioning hr due (endWindow_waits ho hw) rfl)
  · obtain ⟨stays, store, cuts⟩ := takeKeyOff_closes (withKeySample_lawful lawful false (some false) 0) safe ho hw
    refine ⟨_, exec_keySample hr.1 hd, ?_⟩
    rw [takeKeySample_settles (by simp [hk]) hrun, if_neg (by simp), if_pos hk, commit_store]
    rw [← commit_line_safe (s := s) stays] at cuts
    exact ⟨store, cuts⟩

end Sys2Proof.Machine
end

section
/-! The check bits of a field (Chapter 9, log 6): an extended Hamming code, linear in the bits of the field. -/

namespace Sys2Proof.Machine

/-! ### The sums are linear -/

theorem hammingSum_xor (v w : BitVec 16) : hammingSum (v ^^^ w) = hammingSum v ^^^ hammingSum w := by
  have gen : ∀ (l : List (BitVec 5 × Nat)) (a b : BitVec 5),
      l.foldl (fun acc pi => if (v ^^^ w).getLsbD pi.2 then acc ^^^ pi.1 else acc) (a ^^^ b) =
        l.foldl (fun acc pi => if v.getLsbD pi.2 then acc ^^^ pi.1 else acc) a ^^^
          l.foldl (fun acc pi => if w.getLsbD pi.2 then acc ^^^ pi.1 else acc) b := by
    intro l
    induction l with
    | nil => exact fun _ _ => rfl
    | cons pi l ih =>
      intro a b
      simp only [List.foldl_cons]
      rw [← ih]
      congr 1
      have twice : a ^^^ pi.1 ^^^ (b ^^^ pi.1) = a ^^^ b := by
        rw [show a ^^^ pi.1 ^^^ (b ^^^ pi.1) = a ^^^ b ^^^ (pi.1 ^^^ pi.1) by ac_rfl, BitVec.xor_self, BitVec.xor_zero]
      rw [BitVec.getLsbD_xor]
      cases v.getLsbD pi.2 <;> cases w.getLsbD pi.2
      · rfl
      · exact BitVec.xor_assoc a b pi.1
      · show a ^^^ b ^^^ pi.1 = a ^^^ pi.1 ^^^ b
        ac_rfl
      · exact twice.symm
  exact gen _ 0 0

theorem parity_xor {n : Nat} (v w : BitVec n) : parity (v ^^^ w) = (parity v ^^ parity w) := by
  have gen : ∀ (l : List Nat) (a b : Bool),
      l.foldl (fun acc i => acc ^^ (v ^^^ w).getLsbD i) (a ^^ b) =
        (l.foldl (fun acc i => acc ^^ v.getLsbD i) a ^^ l.foldl (fun acc i => acc ^^ w.getLsbD i) b) := by
    intro l
    induction l with
    | nil => exact fun _ _ => rfl
    | cons i l ih =>
      intro a b
      simp only [List.foldl_cons]
      rw [← ih, BitVec.getLsbD_xor]
      congr 1
      simp only [Bool.xor_assoc, Bool.xor_left_comm b]
  exact gen _ false false

/-! ### The tests of a field -/

/-- The Hamming position at which a field disagrees with its check bits: 0 where it does not. -/
def syndrome (f : StoredField) : BitVec 5 := hammingSum f.value ^^^ f.check.extractLsb' 0 5

/-- The twenty-two bits of a field are odd in number of ones. -/
def oddParity (f : StoredField) : Bool := parity f.value ^^ parity f.check

theorem syndrome_encodeField (v : BitVec 16) : syndrome (encodeField v) = 0#5 := by
  have hamming : ∀ (p : Bool) (h : BitVec 5), (bit p ++ h).extractLsb' 0 5 = h := by decide
  rw [syndrome, encodeField, checkBits, hamming, BitVec.xor_self]

theorem oddParity_encodeField (v : BitVec 16) : oddParity (encodeField v) = false := by
  have check : ∀ (p : Bool) (h : BitVec 5), parity (bit p ++ h) = (p ^^ parity h) := by decide
  rw [oddParity, encodeField, checkBits, check]
  simp

/-- The positions that name no value bit: those of the five Hamming bits, and none at all. -/
def checkPositions : List (BitVec 5) := [1, 2, 4, 8, 16, 0]

theorem mem_checkPositions (p : BitVec 5) :
    p ∈ checkPositions ↔ p = 0 ∨ p = 1 ∨ p = 2 ∨ p = 4 ∨ p = 8 ∨ p = 16 := by
  simp only [checkPositions, List.mem_cons, List.not_mem_nil, or_false]
  tauto

section
variable {f : StoredField}

/-- Even and in agreement: no bit is wrong. -/
theorem checkField_ok (ho : oddParity f = false) (hs : syndrome f = 0) : checkField f = (f.value, .ok) := by
  unfold oddParity at ho
  unfold syndrome at hs
  simp only [checkField, ho, hs, Bool.not_false, if_true]

/-- Even and in disagreement: two bits are wrong. -/
theorem checkField_two (ho : oddParity f = false) (hs : syndrome f ≠ 0) : checkField f = (f.value, .uncorrectable) := by
  unfold oddParity at ho
  unfold syndrome at hs
  simp only [checkField, ho, hs, Bool.not_false, if_true, if_false]

/-- Odd, and the position is that of a check bit: the value is right. -/
theorem checkField_check (ho : oddParity f = true) (hs : syndrome f ∈ checkPositions) :
    checkField f = (f.value, .corrected) := by
  rw [mem_checkPositions] at hs
  unfold oddParity at ho
  unfold syndrome at hs
  simp only [checkField, ho, hs, Bool.not_true, Bool.false_eq_true, if_true, if_false]

/-- Odd, and the position is that of a value bit: that bit is put right. -/
theorem checkField_value {i : Nat} (ho : oddParity f = true) (hs : syndrome f ∉ checkPositions)
    (hi : valueBitAt (syndrome f) = some i) : checkField f = (f.value ^^^ BitVec.twoPow 16 i, .corrected) := by
  rw [mem_checkPositions] at hs
  unfold oddParity at ho
  unfold syndrome at hs hi
  simp only [checkField, ho, hs, hi, Bool.not_true, Bool.false_eq_true, if_false]

end

/-! ### Bits inverted -/

/-- A field with one of its bits inverted: the value bits are numbered from 0, the check bits from 16. -/
def invert (k : Nat) (f : StoredField) : StoredField :=
  if k < 16 then { f with value := f.value ^^^ BitVec.twoPow 16 k }
  else { f with check := f.check ^^^ BitVec.twoPow 6 (k - 16) }

/-- The position of each bit. -/
def bitPosition (k : Nat) : BitVec 5 := (hammingPositions ++ checkPositions).getD k 0

theorem syndrome_invert {k : Nat} (hk : k < 22) (f : StoredField) :
    syndrome (invert k f) = syndrome f ^^^ bitPosition k := by
  have value : ∀ k < 16, hammingSum (BitVec.twoPow 16 k) = bitPosition k := by decide
  have check : ∀ k < 6, (BitVec.twoPow 6 k).extractLsb' 0 5 = bitPosition (k + 16) := by decide
  unfold syndrome invert
  split
  · next low =>
    rw [hammingSum_xor, value k low]
    ac_rfl
  · next high =>
    obtain ⟨j, rfl⟩ : ∃ j, k = j + 16 := ⟨k - 16, by omega⟩
    rw [← check j (by omega), Nat.add_sub_cancel, BitVec.extractLsb'_xor, BitVec.xor_assoc]

theorem oddParity_invert {k : Nat} (hk : k < 22) (f : StoredField) : oddParity (invert k f) = !oddParity f := by
  have value : ∀ k < 16, parity (BitVec.twoPow 16 k) = true := by decide
  have check : ∀ k < 6, parity (BitVec.twoPow 6 k) = true := by decide
  unfold oddParity invert
  split
  · next low => simp [parity_xor, value k low]
  · next high => simp [parity_xor, check (k - 16) (by omega)]

/-- Each bit has a position of its own. -/
theorem bitPosition_inj {i j : Nat} (hi : i < 22) (hj : j < 22) (h : bitPosition i = bitPosition j) : i = j := by
  have nodup : (hammingPositions ++ checkPositions).Nodup := by decide
  have length : (hammingPositions ++ checkPositions).length = 22 := rfl
  unfold bitPosition at h
  rw [List.getD_eq_getElem _ _ (by omega), List.getD_eq_getElem _ _ (by omega)] at h
  exact (nodup.getElem_inj_iff).1 h

theorem checkField_invert {i : Nat} (hi : i < 22) (v : BitVec 16) :
    checkField (invert i (encodeField v)) = (v, .corrected) := by
  have value : ∀ k < 16, bitPosition k ∉ checkPositions ∧ valueBitAt (bitPosition k) = some k := by decide
  have check : ∀ k < 6, bitPosition (k + 16) ∈ checkPositions := by decide
  have ho : oddParity (invert i (encodeField v)) = true := by rw [oddParity_invert hi, oddParity_encodeField]; rfl
  have hs : syndrome (invert i (encodeField v)) = bitPosition i := by
    rw [syndrome_invert hi, syndrome_encodeField, BitVec.zero_xor]
  by_cases low : i < 16
  · obtain ⟨notCheck, names⟩ := value i low
    rw [checkField_value ho (hs ▸ notCheck) (hs ▸ names), invert, if_pos low]
    simp [encodeField]
  · obtain ⟨j, rfl⟩ : ∃ j, i = j + 16 := ⟨i - 16, by omega⟩
    rw [checkField_check ho (hs ▸ check j (by omega)), invert, if_neg low]
    rfl

theorem checkField_invert_twice {i j : Nat} (hi : i < 22) (hj : j < 22) (hij : i ≠ j) (v : BitVec 16) :
    checkField (invert j (invert i (encodeField v))) = ((invert j (invert i (encodeField v))).value, .uncorrectable) := by
  refine checkField_two ?_ ?_
  · rw [oddParity_invert hj, oddParity_invert hi, oddParity_encodeField]
    rfl
  · rw [syndrome_invert hj, syndrome_invert hi, syndrome_encodeField, BitVec.zero_xor]
    exact fun h => hij (bitPosition_inj hi hj (BitVec.xor_eq_zero_iff.1 h))

end Sys2Proof.Machine
end

section
/-! The validation of a configuration and what a start loads of it (R155, R163, Figure 9-1). -/

namespace Sys2Proof.Machine

/-! ### The ranges of Figure 9-1 -/

/-- The range of each field, in index order (Figure 9-1). -/
def fieldRanges : List (Nat × Nat) := fieldTable.map fun r => (r.1, r.2.1)

theorem inRange_iff {i value : Nat} {range : Nat × Nat} (h : fieldRanges[i]? = some range) :
    inRange i value = true ↔ range.1 ≤ value ∧ value ≤ range.2 := by
  rw [fieldRanges, List.getElem?_map, Option.map_eq_some_iff] at h
  obtain ⟨row, hrow, rfl⟩ := h
  simp [inRange, hrow]

theorem inRange_stroke (value : Nat) : inRange 15 value = true ↔ 200 ≤ value ∧ value ≤ 60000 :=
  inRange_iff (range := (200, 60000)) rfl

/-- Thirty-four values tested by index, and paired with their ranges. -/
theorem all_inRange_iff {values : List Nat} (h : values.length = 34) :
    (values.zipIdx.all fun p => inRange p.2 p.1) = true ↔
      ∀ p ∈ fieldRanges.zip values, p.1.1 ≤ p.2 ∧ p.2 ≤ p.1.2 := by
  rw [List.all_eq_true]
  constructor
  · rintro all ⟨range, value⟩ paired
    obtain ⟨i, at'⟩ := List.mem_iff_getElem?.1 paired
    obtain ⟨hrange, hvalue⟩ := List.getElem?_zip_eq_some.1 at'
    exact (inRange_iff hrange).1 (all (value, i) (List.mem_zipIdx_iff_getElem?.2 hvalue))
  · rintro all ⟨value, i⟩ numbered
    have hvalue := List.mem_zipIdx_iff_getElem?.1 numbered
    obtain ⟨small, -⟩ := List.getElem?_eq_some_iff.1 hvalue
    have listed : i < fieldRanges.length := small.trans_eq h
    have hrange := List.getElem?_eq_getElem listed
    exact (inRange_iff hrange).2 (all (_, value)
      (List.mem_iff_getElem?.2 ⟨i, List.getElem?_zip_eq_some.2 ⟨hrange, hvalue⟩⟩))

/-! ### The rules of R155 -/

/-- The values of the stored fields as their check bits give them. -/
def readValues (stored : List StoredField) : List Nat := stored.map fun f => (checkField f).1.toNat

theorem gap_ge_iff (a b : Nat) : 200 ≤ gap a b ↔ a + 200 ≤ b ∨ b + 200 ≤ a := by
  unfold gap
  split <;> omega

/-- What makes thirty-four stored fields a valid configuration (R155). -/
theorem validConfig_iff {stored : List StoredField} (h : stored.length = 34) :
    validConfig stored = true ↔
      let value := fun i : Nat => (readValues stored).getD i 0
      (∀ f ∈ stored, (checkField f).2 ≠ .uncorrectable) ∧
      (∀ p ∈ fieldRanges.zip (readValues stored), p.1.1 ≤ p.2 ∧ p.2 ≤ p.1.2) ∧
      value 20 ≤ value 21 ∧ value 22 ≤ value 21 ∧ value 3 ≤ value 2 ∧ value 13 ≤ value 14 ∧
      ((value 6 / 4 % 2 == 1) = true → value 16 + 200 ≤ value 17 ∨ value 17 + 200 ≤ value 16) := by
  have length : (readValues stored).length = 34 := by rw [readValues, List.length_map, h]
  have checked : (stored.all fun f => (checkField f).2 != .uncorrectable) = true ↔
      ∀ f ∈ stored, (checkField f).2 ≠ .uncorrectable := by simp
  dsimp only
  rw [← checked, ← all_inRange_iff length, ← gap_ge_iff]
  unfold validConfig readValues loadedOf
  simp only [Bool.and_eq_true, decide_eq_true_eq, Bool.or_eq_true, Bool.not_eq_true', and_assoc, imp_iff_not_or,
    Bool.not_eq_true]

/-! ### What a start loads -/

theorem loadConfig_valid {stored : List StoredField} (h : validConfig stored = true) :
    loadConfig stored = (loadedOf (readValues stored), (readValues stored).getD 0 0 == 0) := if_pos h

theorem loadConfig_invalid {stored : List StoredField} (h : validConfig stored = false) :
    loadConfig stored = ({ defaultConfig with
      skylight := (readValues stored).getD 4 0 == 1
      stroke := if inRange 15 ((readValues stored).getD 15 0) then (readValues stored).getD 15 0 else 4000 }, true) :=
  if_neg (ne_true_of_eq_false h)

/-- Settles O56: the code by its linear sums, the validation field by field, and the two ways of loading. -/
theorem fieldCheckBitsCorrectOneAndFindTwo : Obligations.FieldCheckBitsCorrectOneAndFindTwo := by
  refine ⟨fun v i j hi hj hij => ⟨checkField_ok (oddParity_encodeField v) (syndrome_encodeField v), checkField_invert hi v,
    checkField_invert_twice hi hj hij v⟩, fun stored h => ?_⟩
  intro read value flag ranges valid
  have decides : validConfig stored = true ↔ valid := validConfig_iff h
  refine ⟨fun hv => ?_, fun hv => ?_⟩
  · rw [loadConfig_valid (decides.2 hv)]
    have lowest : ∀ n : Nat, n / 2 ^ 0 % 2 = n % 2 := fun n => by rw [Nat.pow_zero, Nat.div_one]
    simp only [flag, lowest]
    rfl
  · rw [loadConfig_invalid (by rw [← Bool.not_eq_true, decides]; exact hv)]
    simp only [inRange_stroke]
    rfl

end Sys2Proof.Machine
end

section
/-! The Retained Record renewed (R97, R153, R159): a start, the end of a command and the clock each leave it a mirror of the
blocks. -/

namespace Sys2Proof.Machine

/-! ### Starts -/

/-- The items that a start initialises or restores (R161). -/
def startItems (kind : StartKind) (s : State) : RecordItems :=
  match kind with
  | .cold => coldItems
  | .warm => restoredItems s.retained.items (loadConfig s.stored).1.stroke
  | .restart => restoredItems { s.retained.items with inMotion := false } (loadConfig s.stored).1.stroke

theorem startSequence_pos (kind : StartKind) (s : State) : (startSequence kind s).pos =
    startTracker (startItems kind s) (loadConfig s.stored).1.stroke s.pins.hall := rfl

/-- No start counts as motion: POWER_IN_MOTION stands for the flag that was set (R154). -/
theorem startItems_inMotion (kind : StartKind) (s : State) : (startItems kind s).inMotion = false := by
  cases kind <;> rfl

theorem restoredLevel_raised (raised : Bool) : (restoredLevel raised != .quiet) = raised := by cases raised <;> rfl

/-- The levels that a start restores are those of its record: in the safe profile none (R98). -/
theorem startSequence_retained (kind : StartKind) (s : State) : (startSequence kind s).retained =
    renewed { startItems kind s with
      storm := (startItems kind s).storm && !(loadConfig s.stored).2
      rain := (startItems kind s).rain && !(loadConfig s.stored).2 }
      (if kind = .cold then false else s.retained.lossLatch) := rfl

theorem startSequence_mirrors (kind : StartKind) (s : State) : Mirrors (startSequence kind s) := by
  have mirror : mirrored (startSequence kind s) = { startItems kind s with
      inMotion := false
      storm := restoredLevel ((startItems kind s).storm && !(loadConfig s.stored).2) != .quiet
      rain := restoredLevel ((startItems kind s).rain && !(loadConfig s.stored).2) != .quiet } := rfl
  rw [restoredLevel_raised, restoredLevel_raised, ← startItems_inMotion kind s] at mirror
  exact ⟨mirror.symm, rfl⟩

/-- A start ends ready for the first command. -/
theorem startSequence_ready (kind : StartKind) (s : State) : Ready (startSequence kind s) :=
  ⟨rfl, rfl, startSequence_mirrors kind s⟩

/-! ### What leaves the record as it was -/

/-- The supply, the mark of an occasion, the record and all that it mirrors as they were. -/
structure RecordKept (s t : State) : Prop where
  power : t.power = s.power
  occasion : t.occasion = s.occasion
  retained : t.retained = s.retained
  mirrored : mirrored t = mirrored s

theorem RecordKept.trans {s t u : State} (h : RecordKept s t) (k : RecordKept t u) : RecordKept s u :=
  ⟨k.power.trans h.power, k.occasion.trans h.occasion, k.retained.trans h.retained, k.mirrored.trans h.mirrored⟩

theorem RecordKept.ready {s t : State} (h : RecordKept s t) (hr : ReadyWhilePowered s) : ReadyWhilePowered t := by
  intro on
  obtain ⟨-, still, mirrors⟩ := hr (h.power.symm.trans on)
  exact ⟨on, h.occasion.trans still, mirrors.keep h.retained h.mirrored⟩

/-! ### The commands -/

/-- The end of a command closes its occasion and renews the record (R38, R159). -/
theorem commit_ready {s t : State} (on : t.power = true) : Ready (commit s t) :=
  ⟨(commit_runs s t).power.trans on, by rw [commit_frame], renewRecord_mirrors _⟩

/-- However a command ends, a node with supply is ready after it; the fall of the backup rail leaves the sixteen bytes
as they are. -/
theorem Ends.ready {c : Instr} {s t : State} (h : Ends c s t) (hr : ReadyWhilePowered s) : ReadyWhilePowered t := by
  cases h with
  | none => exact hr
  | carried on runs => exact fun _ => commit_ready (runs.power.trans on)
  | started => exact fun _ => startSequence_ready _ _
  | lost torn =>
    intro on
    rw [losePower_eq] at on
    cases on
  | latched => exact hr
  | coasted pair => exact RecordKept.ready ⟨rfl, rfl, rfl, rfl⟩ hr

/-! ### The clock -/

theorem readSupply_recordKept (s : State) : RecordKept s (readSupply s) := by
  rw [readSupply_eq]
  exact ⟨rfl, rfl, rfl, rfl⟩

theorem millisecond_recordKept (s : State) : RecordKept s (millisecond s) := by
  have rises : RecordKept s (risen s) := ⟨rfl, rfl, rfl, rfl⟩
  rw [millisecond_eq]
  exact rises.trans (readSupply_recordKept _)

theorem happen_recordKept (e : LineEvent) (s : State) : RecordKept s (happen e s) := by
  cases e with
  | stop | sample => exact ⟨rfl, rfl, rfl, rfl⟩
  | begin =>
    show RecordKept s (beginPulses s)
    rw [beginPulses_eq]
    exact ⟨rfl, rfl, rfl, rfl⟩

theorem runLine_recordKept (s : State) : RecordKept s (runLine s) := by
  have passes : ∀ u, RecordKept s (passTime u s) := fun _ => ⟨rfl, rfl, rfl, rfl⟩
  unfold runLine
  split
  · exact millisecond_recordKept s
  · split
    · exact (passes _).trans (happen_recordKept _ _)
    · exact millisecond_recordKept s

/-- The clock moves neither the record nor what it mirrors. -/
theorem tick_recordKept (s : State) : RecordKept s (tick s) := by
  unfold tick
  split
  · exact ⟨rfl, rfl, rfl, rfl⟩
  · split
    · exact ⟨rfl, rfl, rfl, rfl⟩
    · split
      · exact ⟨rfl, rfl, rfl, rfl⟩
      · split
        · exact ⟨rfl, rfl, rfl, rfl⟩
        · exact runLine_recordKept s

/-! ### The step -/

/-- Settles O6: every command ends with the record renewed or left with all it mirrors, and so does the clock. -/
theorem stepKeepsTheRecordRenewed : Obligations.StepKeepsTheRecordRenewed := by
  intro s t hr h
  unfold step at h
  split at h
  · next c rest _ =>
    obtain ⟨u, hu, ends⟩ := exec_ends c (s.setPending rest)
    obtain rfl : u = t := Host.Outcome.next.inj (hu.symm.trans h)
    exact ends.ready (RecordKept.ready ⟨rfl, rfl, rfl, rfl⟩ hr)
  · obtain rfl : tick s = t := Host.Outcome.next.inj h
    exact (tick_recordKept s).ready hr

end Sys2Proof.Machine
end

section
/-! A rise of the logic supply (R79, R98, R142, R154, R159 to R161): every block at its start values, and the items of the
record restored or initialised. -/

namespace Sys2Proof.Machine

/-! ### Every block at its start values -/

/-- Every start brings every block to its start values, the levels that its items hold raised restored as ARMED outside
the safe profile (R79, R98, R160). -/
theorem startSequence_atStart (kind : StartKind) (s : State) :
    AtStart ((startItems kind s).storm && !(startSequence kind s).safe)
      ((startItems kind s).rain && !(startSequence kind s).safe) (startSequence kind s) :=
  ⟨rfl, rfl, rfl, rfl, rfl, rfl, rfl, rfl, rfl, rfl, rfl, rfl, rfl⟩

/-! ### The items restored (R154) -/

theorem boundedCount_within {count : Int} {stroke : Nat} (low : -1024 ≤ count) (high : count ≤ (stroke : Int) + 1024) :
    boundedCount count stroke = count := by
  unfold boundedCount
  split_ifs <;> omega

theorem boundedCount_below {count : Int} (low : count < -1024) (stroke : Nat) : boundedCount count stroke = -1024 :=
  if_pos low

theorem boundedCount_above {count : Int} {stroke : Nat} (high : (stroke : Int) + 1024 < count) :
    boundedCount count stroke = (stroke : Int) + 1024 := by
  unfold boundedCount
  split_ifs <;> omega

/-- A count within its bounds is restored as it is. -/
theorem restoredItems_within {r : RecordItems} {stroke : Nat} (h : boundedCount r.count stroke = r.count) :
    (restoredItems r stroke).count = r.count ∧
    (restoredItems r stroke).reasons = (if r.inMotion then r.reasons.add .powerInMotion else r.reasons) ∧
    (restoredItems r stroke).referenced = (r.referenced && !r.inMotion) := by
  simp [restoredItems, h]

/-- A count outside its bounds is brought to the nearer one, with OVERRANGE and the zero lost. -/
theorem restoredItems_outside {r : RecordItems} {stroke : Nat} (h : boundedCount r.count stroke ≠ r.count) :
    (restoredItems r stroke).reasons =
      (if r.inMotion then r.reasons.add .powerInMotion else r.reasons).add .overrange ∧
    (restoredItems r stroke).referenced = false := by
  simp [restoredItems, h]

/-- A tracker that holds the restored items of a record has taken them as R154 says. -/
theorem restored_of_items {r : RecordItems} {t : State} (count : t.pos.count = (restoredItems r t.cfg.stroke).count)
    (reasons : t.pos.reasons = (restoredItems r t.cfg.stroke).reasons)
    (referenced : t.pos.referenced = (restoredItems r t.cfg.stroke).referenced) : Restored r t := by
  unfold Restored
  rw [count, reasons, referenced]
  refine ⟨fun low high => restoredItems_within (boundedCount_within low high), fun low => ?_, fun high => ?_⟩
  · have bound := boundedCount_below low t.cfg.stroke
    exact ⟨bound, restoredItems_outside (by omega)⟩
  · have bound := boundedCount_above high
    exact ⟨bound, restoredItems_outside (by omega)⟩

theorem startSequence_restored_warm (s : State) : Restored s.retained.items (startSequence .warm s) :=
  restored_of_items rfl rfl rfl

theorem startSequence_restored_restart (s : State) :
    Restored { s.retained.items with inMotion := false } (startSequence .restart s) := restored_of_items rfl rfl rfl

/-! ### The rise -/

theorem exec_powerUp_dark {s : State} (off : s.power = false) :
    exec .powerUp s = .next (startSequence (riseKind s) s) := by
  have rises : takePowerUp s = startSequence (riseKind s) s := by simp [takePowerUp, off]
  exact congrArg _ rises

theorem riseKind_cold {s : State} (void : s.retained.valid = false) : riseKind s = .cold := by simp [riseKind, void]

theorem riseKind_warm {s : State} (valid : s.retained.valid = true) : riseKind s = .warm := if_pos valid

theorem Retained.lossLatch_of_valid {r : Retained} (valid : r.valid = true) : r.lossLatch = false := by
  rw [Retained.valid, Bool.and_eq_true, Bool.not_eq_true'] at valid
  exact valid.1

/-- With the loss latch clear a renewed record is valid (R159). -/
theorem renewed_valid (items : RecordItems) : (renewed items false).valid = true := by
  simp [Retained.valid, renewed]

/-- Settles O57: the validity of the record decides the kind of start, and the kind the items of record and tracker. -/
theorem powerUpStartsColdOrWarm : Obligations.PowerUpStartsColdOrWarm := by
  intro s off
  refine ⟨_, exec_powerUp_dark off, startSequence_ready _ s, rfl, rfl, fun void => ?_, fun valid => ?_⟩
  · rw [riseKind_cold void]
    exact ⟨startSequence_atStart .cold s, rfl, rfl, rfl, rfl, renewed_valid _⟩
  · have clear : s.retained.lossLatch = false := Retained.lossLatch_of_valid valid
    rw [riseKind_warm valid]
    exact ⟨startSequence_atStart .warm s, startSequence_restored_warm s, clear⟩

end Sys2Proof.Machine
end

section
/-! The losses of power (R157, R159, R165): of the logic supply, of the backup rail, and the node without supply. -/

namespace Sys2Proof.Machine

/-! ### What a loss of the logic supply leaves -/

theorem cutWrite_idle {s : State} (idle : s.store.writing = none) : cutWrite s = s := by
  unfold cutWrite
  rw [idle]

theorem cutWrite_retained (s : State) : (cutWrite s).retained = s.retained := by rw [cutWrite_eq]

/-- The stored fields after a loss are those that the cut of a write leaves. -/
theorem losePower_stored (torn : Bool) (s : State) : (losePower torn s).stored = (cutWrite s).stored := by
  cases torn <;> rfl

theorem losePower_whole_retained (s : State) : (losePower false s).retained = s.retained := cutWrite_retained s

theorem tearRecord_items (s : State) : (tearRecord s).retained.items = s.retained.items ∧
    (tearRecord s).retained.lossLatch = s.retained.lossLatch := ⟨rfl, rfl⟩

theorem losePower_torn_retained (s : State) :
    (losePower true s).retained = (tearRecord (cutWrite s)).retained := rfl

/-- A byte changed by bits of which some are set is another. -/
theorem xor_ne_self {b wrong : Byte} (h : wrong ≠ 0) : b ^^^ wrong ≠ b := fun same =>
  h ((BitVec.xor_right_inj b).1 (same.trans BitVec.xor_zero.symm))

/-- The record of a torn renewal is not valid: its check byte never agrees (R159). -/
theorem tearRecord_void (s : State) : (tearRecord s).retained.valid = false := by
  have wrong : (if Config.tornCheck s.freeIx = 0 then 1 else Config.tornCheck s.freeIx) ≠ 0 := by
    split
    · decide
    · assumption
  have check : (tearRecord s).retained.check = recordCheck (tearRecord s).retained.items ^^^
      (if Config.tornCheck s.freeIx = 0 then 1 else Config.tornCheck s.freeIx) := rfl
  rw [Retained.valid, check, beq_false_of_ne (xor_ne_self wrong), Bool.and_false]

/-- A loss keeps the items of the record and the loss latch; cut out of a renewal it leaves the record void (R159). -/
theorem losePower_retained (torn : Bool) (s : State) :
    (losePower torn s).retained.items = s.retained.items ∧
    (losePower torn s).retained.lossLatch = s.retained.lossLatch ∧
    (torn = false → (losePower torn s).retained = s.retained) ∧
    (torn = true → (losePower torn s).retained.valid = false) := by
  cases torn with
  | false =>
    rw [losePower_whole_retained]
    exact ⟨rfl, rfl, fun _ => rfl, nofun⟩
  | true =>
    obtain ⟨items, latch⟩ := tearRecord_items (cutWrite s)
    rw [cutWrite_retained] at items latch
    rw [losePower_torn_retained]
    exact ⟨items, latch, nofun, fun _ => tearRecord_void _⟩

/-! ### The node without supply -/

section
variable {s : State} (off : s.power = false)
include off

/-- Without logic supply every output is off (R165). -/
theorem outputs_dark : gates s = ⟨.off, .off, .off, .off⟩ ∧ sounderOn s = false ∧ lampOn s = false ∧
    gridDriven s = false ∧ lineDriven s = false := by
  refine ⟨gates_off ?_ (.inl off), ?_, ?_, ?_, ?_⟩ <;>
    simp [energised, sounderOn, lampOn, gridDriven, lineDriven, off]

theorem live_dark (f : State → State) : live f s = s := if_neg (by simp [off])

theorem liveWhen_dark (test : State → Bool) (f : State → State) : liveWhen test f s = s := if_neg (by simp [off])

theorem coasts_dark (u : State) (pair : HallPair) : (if s.power then u else coast pair s) = coast pair s :=
  if_neg (by simp [off])

/-- Without logic supply every block has ceased: no command but a rise, the rail's fall and a move of the Hall pins does
anything (R165). -/
theorem exec_dark {c : Instr} (rise : c ≠ .powerUp) (rail : c ≠ .backupRailLoss)
    (hall : ∀ pair, c ≠ .hallStep pair ∧ c ≠ .hallSkip pair) : exec c s = .next s := by
  cases c with
  | powerUp => exact absurd rfl rise
  | backupRailLoss => exact absurd rfl rail
  | hallStep pair => exact absurd rfl (hall pair).1
  | hallSkip pair => exact absurd rfl (hall pair).2
  | logicSupplyLoss torn => exact congrArg _ (if_neg (by simp [off]))
  | restartStart => exact congrArg _ (if_neg (by simp [off]))
  | anemometerEdge | transmissionStart | transmissionLost | identityClash | transmissionComplete | observeArrival |
    stateArrival | intentArrival | withdrawArrival | requestOpenTo | requestClose | requestStop | requestRelease |
    requestRestart | configureOpen | configureWrite | configureRead | recordArrival | arrivalNotHandedOn =>
    exact congrArg _ (live_dark off _)
  | _ => exact congrArg _ (liveWhen_dark off _ _)

end

/-- Settles O58: what a loss leaves of the record and the fields, and what a node without supply still does. -/
theorem lossOfPowerStopsTheNode : Obligations.LossOfPowerStopsTheNode := by
  refine ⟨fun torn s on => ⟨losePower torn s, congrArg _ (if_pos on), ?_⟩, fun s => ⟨rfl, rfl⟩,
    fun c s off rise rail hall => exec_dark off rise rail hall,
    fun pair s off => ⟨congrArg _ (coasts_dark off _ pair), congrArg _ (coasts_dark off _ pair)⟩⟩
  have off : (losePower torn s).power = false := rfl
  obtain ⟨gates, sounder, lamp, grid, line⟩ := outputs_dark off
  refine ⟨off, gates, sounder, lamp, grid, ?_, line, rfl, ?_, fun idle => ?_, losePower_retained torn s⟩
  · rw [losePower_eq]
  · rw [losePower_eq]
  · rw [losePower_stored, cutWrite_idle idle]

end Sys2Proof.Machine
end

section
/-! The commanded RESTART (R138, R157, R162): the controlled stop by drive state, the write that a restart cuts short, and
the start that follows. -/

namespace Sys2Proof.Machine

/-! ### The controlled stop (R138) -/

/-- Under a controlled stop an entry into IDLE stays there: what a comparison hands begins no move (R138, R151). -/
theorem enterIdle_stays {s : State} (stopped : s.drive.controlledStop = true) : (enterIdle s).drive.state = .idle := by
  obtain ⟨-, -, -, -, -, -, -, -, -, -, quiet, noticed⟩ := enterIdle_cameToRest s
  by_cases apart : strokeDisagrees s = true
  · rw [strokeDisagrees_iff] at apart
    cases hs : suspect s with
    | true => exact (quiet (.inr (.inl hs))).1.1
    | false => cases hl : acting s with
      | none => exact (quiet (.inr (.inr hl))).1.1
      | some l =>
        obtain ⟨-, -, stays, -⟩ := noticed l apart hs hl
        exact (stays (.inr stopped)).1
  · exact (quiet (.inl (mt (strokeDisagrees_iff s).2 apart))).1.1

/-- What a controlled stop makes of the drive, by its state: braking that ends in HALT, or IDLE. -/
theorem controlledStop_spec (s : State) :
    (controlledStop s).drive.controlledStop = true ∧
    (s.drive.state.energised = true → (controlledStop s).drive.state = .stopping ∧
      (controlledStop s).drive.continuation = some .halt ∧
      (controlledStop s).drive.stopDl = some (after s.nt 200)) ∧
    (s.drive.state = .stopping → (controlledStop s).drive.state = .stopping ∧
      (controlledStop s).drive.continuation = some .halt ∧ (controlledStop s).drive.stopDl = s.drive.stopDl) ∧
    (s.drive.state.energised = false → s.drive.state ≠ .stopping → (controlledStop s).drive.state = .idle) ∧
    (s.drive.state = .idle → controlledStop s = s.setDrive { s.drive with controlledStop := true }) := by
  have rests : ∀ u : State, u.drive.controlledStop = true →
      (enterIdle u).drive.controlledStop = true ∧ (enterIdle u).drive.state = .idle := fun u stopped =>
    ⟨(enterIdle_moves u).controlledStop.trans stopped, enterIdle_stays stopped⟩
  unfold controlledStop
  cases hstate : s.drive.state with
  | ramp | travel | approach | seating | backoff => exact ⟨rfl, fun _ => ⟨rfl, rfl, rfl⟩, nofun, nofun, nofun⟩
  | stopping => exact ⟨rfl, nofun, fun _ => ⟨hstate, rfl, rfl⟩, fun _ other => absurd rfl other, nofun⟩
  | waitSlot | warning | retryWait | sagWait | blocked =>
    refine ⟨(rests _ ?_).1, nofun, nofun, fun _ _ => (rests _ ?_).2, nofun⟩ <;> rfl
  | idle => exact ⟨rfl, nofun, nofun, fun _ _ => hstate, fun _ => rfl⟩

/-! ### The RESTART (R40, R162) -/

/-- A RESTART is taken once, in the safe profile only in the open window. -/
theorem takeRestart_refused {s : State} (h : s.drive.controlledStop = true ∨ s.safe = true ∧ s.store.isOpen = false) :
    takeRestart s = s := if_pos (by simpa using h)

theorem takeRestart_taken {s : State} (first : s.drive.controlledStop = false)
    (admits : s.safe = false ∨ s.store.isOpen = true) : takeRestart s = controlledStop s :=
  if_neg (by rcases admits with h | h <;> simp [first, h])

/-- A RESTART addressed to the node by its line id is heard and handed to start-up. -/
theorem exec_requestRestart {bits : List Bool} {f : Frame} {s : State} (on : s.power = true)
    (received : receive bits = some f) (kind : f.kind = Kind.request.code) (other : f.source.toNat ≠ lineId s)
    (action : f.payload.getD 1 0 = 4) (mode : (f.payload.getD 0 0).toNat / 64 = 0)
    (target : (f.payload.getD 0 0).toNat % 64 = lineId s) :
    exec (.requestRestart bits) s = .next (commit s (takeRestart (hearOther s))) := by
  have mine : ofAction 4 f = true := by
    rw [ofAction, ofKind, kind, requestAction, byteAt, action]
    rfl
  have addressed : restartAddressed f.payload (hearOther s) = true := (restartAddressed_iff _ _).2 ⟨mode, target⟩
  have taken := (arrival_taken (take := fun f s => if restartAddressed f.payload s then takeRestart s else s)
    received mine other).trans (if_pos addressed)
  exact congrArg _ ((if_pos on).trans (congrArg (commit s) taken))

/-! ### A write cut short (R157) -/

/-- Beyond its width every word reads 0. -/
theorem getLsbD_beyond {n k : Nat} (a b : BitVec n) (outside : ¬k < n) : a.getLsbD k = b.getLsbD k := by
  rw [BitVec.getLsbD_of_ge _ _ (Nat.not_lt.1 outside), BitVec.getLsbD_of_ge _ _ (Nat.not_lt.1 outside)]

/-- A bit chosen by a mask is the bit of the one or of the other. -/
theorem getLsbD_mix {n : Nat} (a b mask : BitVec n) (k : Nat) :
    ((a &&& mask) ||| (b &&& ~~~mask)).getLsbD k = a.getLsbD k ∨
    ((a &&& mask) ||| (b &&& ~~~mask)).getLsbD k = b.getLsbD k := by
  by_cases inside : k < n
  · rw [BitVec.getLsbD_or, BitVec.getLsbD_and, BitVec.getLsbD_and, BitVec.getLsbD_not, decide_eq_true inside]
    cases mask.getLsbD k <;> simp
  · exact .inl (getLsbD_beyond _ _ inside)

/-- The bits of a field from the twenty-two as they are stored, the check bits lowest. -/
theorem getLsbD_value (v : BitVec 16) (c : BitVec 6) (k : Nat) : (v ++ c).getLsbD (6 + k) = v.getLsbD k := by
  rw [BitVec.getLsbD_append, if_neg (by omega), Nat.add_sub_cancel_left]

theorem getLsbD_check (v : BitVec 16) (c : BitVec 6) {k : Nat} (small : k < 6) :
    (v ++ c).getLsbD k = c.getLsbD k := by
  rw [BitVec.getLsbD_append, if_pos small]

/-- Each bit of a field whose write was cut short is the old one or the new one. -/
theorem cutWrite_mixes {s : State} {w : Writing} {old : StoredField} (writes : s.store.writing = some w)
    (holds : s.stored[w.index]? = some old) : ∃ field, (cutWrite s).stored[w.index]? = some field ∧
      (∀ k, field.value.getLsbD k = old.value.getLsbD k ∨ field.value.getLsbD k = w.value.getLsbD k) ∧
      ∀ k, field.check.getLsbD k = old.check.getLsbD k ∨ field.check.getLsbD k = (checkBits w.value).getLsbD k := by
  obtain ⟨listed, -⟩ := List.getElem?_eq_some_iff.1 holds
  have cut : ∃ mask : BitVec 22,
      let mixed := ((old.value ++ old.check) &&& mask) ||| ((w.value ++ checkBits w.value) &&& ~~~mask)
      (cutWrite s).stored = s.stored.set w.index ⟨mixed.extractLsb' 6 16, mixed.extractLsb' 0 6⟩ := by
    refine ⟨Config.oldBits s.freeIx, ?_⟩
    unfold cutWrite
    simp only [writes, holds]
    rfl
  obtain ⟨mask, cut⟩ := cut
  refine ⟨_, by rw [cut]; exact List.getElem?_set_self listed, fun k => ?_, fun k => ?_⟩
  · by_cases inside : k < 16
    · have bit := getLsbD_mix (old.value ++ old.check) (w.value ++ checkBits w.value) mask (6 + k)
      rw [getLsbD_value, getLsbD_value] at bit
      simpa only [BitVec.getLsbD_extractLsb', inside, decide_true, Bool.true_and] using bit
    · exact .inl (getLsbD_beyond _ _ inside)
  · by_cases inside : k < 6
    · have bit := getLsbD_mix (old.value ++ old.check) (w.value ++ checkBits w.value) mask k
      rw [getLsbD_check _ _ inside, getLsbD_check _ _ inside] at bit
      simpa only [BitVec.getLsbD_extractLsb', inside, decide_true, Bool.true_and, Nat.zero_add] using bit
    · exact .inl (getLsbD_beyond _ _ inside)

/-! ### The start that follows (R162) -/

theorem exec_restartStart {s : State} (on : s.power = true) (stopped : s.drive.controlledStop = true)
    (idle : s.drive.state = .idle) : exec .restartStart s = .next (startSequence .restart (cutWrite s)) :=
  congrArg _ (if_pos (by simp [restartReady, on, stopped, idle]))

/-- The start of a RESTART takes the items that the record mirrors, and with them the count, the reasons and the raised
levels that the blocks had. -/
theorem restart_restores {s : State} (mirrors : Mirrors s) :
    AtStart (s.levels.storm != .quiet && !(startSequence .restart (cutWrite s)).safe)
      (s.levels.rain != .quiet && !(startSequence .restart (cutWrite s)).safe) (startSequence .restart (cutWrite s)) ∧
    Restored { mirrored s with inMotion := false } (startSequence .restart (cutWrite s)) := by
  have items : (cutWrite s).retained.items = mirrored s := by rw [cutWrite_retained, mirrors.1]
  have storm : (startItems .restart (cutWrite s)).storm = (s.levels.storm != .quiet) :=
    congrArg RecordItems.storm items
  have rain : (startItems .restart (cutWrite s)).rain = (s.levels.rain != .quiet) := congrArg RecordItems.rain items
  have atStart := startSequence_atStart .restart (cutWrite s)
  have restored := startSequence_restored_restart (cutWrite s)
  rw [storm, rain] at atStart
  rw [items] at restored
  exact ⟨atStart, restored⟩

/-- Settles O60: the RESTART is refused or taken, the controlled stop goes by the drive's state, and the start restores
the record that mirrors the blocks. -/
theorem restartStopsThenStarts : Obligations.RestartStopsThenStarts := by
  refine ⟨fun bits f s ready received kind other action mode target => ?_, fun s ready stopped idle => ?_⟩
  · obtain ⟨on, still, mirrors⟩ := ready
    rw [exec_requestRestart on received kind other action mode target]
    refine ⟨fun refused => congrArg _ ?_, fun first admits => ?_⟩
    · rw [takeRestart_refused (s := hearOther s) refused]
      exact commit_quiet still rfl (mirrors.keep rfl rfl)
    · rw [takeRestart_taken (s := hearOther s) first admits]
      obtain ⟨stop, energised, braking, waiting, atRest⟩ := controlledStop_spec (hearOther s)
      refine ⟨_, rfl, ?_⟩
      rw [commit_drive]
      refine ⟨stop, energised, braking, waiting, fun h => ?_⟩
      rw [atRest h]
      exact commit_quiet still rfl (mirrors.keep rfl rfl)
  · obtain ⟨on, -, mirrors⟩ := ready
    obtain ⟨atStart, restored⟩ := restart_restores mirrors
    refine ⟨_, exec_restartStart on stopped idle, startSequence_ready _ _, fun whole => ?_,
      fun w writes => ⟨fun i apart => ?_, fun old holds => cutWrite_mixes writes holds⟩, atStart, restored, ?_, ?_⟩
    · show (cutWrite s).stored = s.stored
      rw [cutWrite_idle whole]
    · refine cutWrite_stored_other fun v h => ?_
      obtain rfl : w = v := Option.some.inj (writes.symm.trans h)
      exact apart.symm
    · show (cutWrite s).pins = s.pins
      rw [cutWrite_eq]
    · show (cutWrite s).retained.lossLatch = s.retained.lossLatch
      rw [cutWrite_retained]

end Sys2Proof.Machine
end

section
/-! Reset as the first cold start of a node as the factory left it (Chapter 9, R155, R160, R161), and the laws it meets. -/

namespace Sys2Proof.Machine

/-! ### The factory's fields (Figure 9-1) -/

/-- A field stored with fresh check bits reads back as it was written. -/
theorem checkField_encodeField (v : BitVec 16) : checkField (encodeField v) = (v, .ok) :=
  checkField_ok (oddParity_encodeField v) (syndrome_encodeField v)

theorem defaultValues_small : ∀ v ∈ defaultValues, v < 2 ^ 16 := by decide

/-- The factory's fields read as the defaults. -/
theorem factoryStored_reads : readValues factoryStored = defaultValues := by
  rw [readValues, factoryStored, List.map_map]
  refine (List.map_congr_left fun v listed => ?_).trans (List.map_id _)
  rw [Function.comp_apply, checkField_encodeField, BitVec.toNat_ofNat, Nat.mod_eq_of_lt (defaultValues_small v listed)]
  rfl

theorem factoryStored_ok : ∀ f ∈ factoryStored, (checkField f).2 = .ok := by
  intro f listed
  obtain ⟨v, -, rfl⟩ := List.mem_map.1 listed
  rw [checkField_encodeField]

/-- The defaults are a valid configuration, with the factory id 0 (R155). -/
theorem factoryStored_valid : validConfig factoryStored = true := by
  rw [validConfig_iff rfl, factoryStored_reads]
  exact ⟨fun f listed => by rw [factoryStored_ok f listed]; decide, by decide⟩

theorem factoryStored_loads : loadConfig factoryStored = (defaultConfig, true) := by
  rw [loadConfig_valid factoryStored_valid, factoryStored_reads]
  rfl

/-! ### The first cold start -/

/-- Reset is what a cold start makes of the factory's fields. -/
theorem reset_startsCold : startSequence .cold State.reset = State.reset := by
  have loads : loadConfig State.reset.stored = (defaultConfig, true) := factoryStored_loads
  unfold startSequence
  rw [loads]
  rfl

/-- Settles O4: the factory's fields read as the defaults, the initialised record is valid, and every block is written
out at its start values. -/
theorem resetIsTheFirstColdStart : Obligations.ResetIsTheFirstColdStart := by
  have correct : State.reset.stored.all (fun f => (checkField f).2 == .ok) = true :=
    List.all_eq_true.2 fun f listed => beq_iff_eq.2 (factoryStored_ok f listed)
  exact ⟨rfl, rfl, rfl, factoryStored_reads, correct, rfl, rfl, rfl, renewed_valid _, by decide⟩

/-- Settles O5: the laws of the record, the levels and the tables hold after every start, and reset is one; a count of 0
and a drive in IDLE meet those of the drive. -/
theorem resetMeetsTheLaws : Obligations.ResetMeetsTheLaws := by
  have ready := startSequence_ready .cold State.reset
  have levels := startSequence_lawful .cold State.reset
  have tables := start_lawful .cold State.reset
  rw [reset_startsCold] at ready levels tables
  obtain ⟨queue, peers, entries⟩ := tables
  have count : CountInBounds State.reset := by
    unfold CountInBounds
    decide
  have timed : DriveTimed State.reset := ⟨trivial, fun _ => rfl, fun _ => rfl⟩
  have seat : SafeSeatLawful State.reset := ⟨fun _ => rfl, fun _ => ⟨rfl, nofun⟩⟩
  exact ⟨fun _ => ready, levels, queue, peers, entries, count, Nat.zero_le _, timed, rfl, seat⟩

end Sys2Proof.Machine
end

section
/-! The step on a queue of commands. -/

namespace Sys2Proof.Machine

/-- Settles O1: of the two branches of a step, by the queue of commands, the front command's is taken; the clock's is
`step_clock`. -/
theorem stepTakesTheFrontCommand : Obligations.StepTakesTheFrontCommand := by
  intro c rest s front
  rw [step, front]

end Sys2Proof.Machine
end
